-- ==== Sys2Proof/Word.lean ====
section
/-! DEFINITION. The word types of the links and of the tables, and the left/right pair (00_scope.md, conventions). -/

namespace Sys2Proof

/-- A data byte of a link character (R151). -/
abbrev Byte := BitVec 8

/-- An entry of a stored row, and a two-byte link value (R2, R152). -/
abbrev Word := BitVec 16

/-- A row of the tables: eight 16-bit entries (R1). -/
abbrev Row := Vector Word 8

/-- A row of the NONVOLATILE ARRAY: eight entries and their CHECK WORD (R1, R16). -/
structure NvRow where
  entries : Row
  check : Word
deriving DecidableEq, Repr

/-- A rear wheel, left or right as seen from the cab. -/
inductive Wheel where
  | left
  | right
deriving DecidableEq, Repr

/-- One value for each wheel, the left first. -/
structure Both (α : Type) where
  left : α
  right : α
deriving DecidableEq, Repr

namespace Both

/-- The value of wheel `w`. -/
def get {α : Type} (b : Both α) : Wheel → α
  | .left => b.left
  | .right => b.right

/-- The pair with wheel `w` given the value `x`. -/
def set {α : Type} (b : Both α) (w : Wheel) (x : α) : Both α :=
  match w with
  | .left => { b with left := x }
  | .right => { b with right := x }

/-- `f` applied to each wheel. -/
def map {α β : Type} (f : α → β) (b : Both α) : Both β := ⟨f b.left, f b.right⟩

/-- A pair formed wheel by wheel. -/
def of {α : Type} (f : Wheel → α) : Both α := ⟨f .left, f .right⟩

end Both

end Sys2Proof
end

