-- ==== Sys2Proof/Syntax.lean ====
section
/-! DEFINITION. The commands of the part: one constructor for each row of spec/opcode_table.json.

The table gives the rows no operands. The operands here are what the rule of each row needs to be told from outside
(DESIGN CHOICE, logs 4, 5, 10 and 11). -/

namespace Sys2Proof

/-- The three LINK PORTS (file 08). -/
inductive PortId where
  | l1
  | l2
  | l3
deriving DecidableEq, Repr

/-- The commands. A `payload` is the payload bytes of a request frame, of any number, since a wrong number is a command
too (it is refused LENGTH). -/
inductive Instr where
  /-- COLD_RESET (R150): power-on, or RESET_N taken low. -/
  | coldReset
  /-- RESET_N_RELEASE (R17). -/
  | resetNRelease
  /-- VALIDATION_COMPLETE (R19). -/
  | validationComplete
  /-- WARM_RESTART (R188). -/
  | warmRestart
  /-- BASE_INTERVAL_EXPIRY (R142). -/
  | baseIntervalExpiry
  /-- L1_LINK_STALE (R34). -/
  | l1LinkStale
  /-- L2_LINK_STALE (R36). -/
  | l2LinkStale
  /-- CHASSIS_LINK_LOST (R39). -/
  | chassisLinkLost
  /-- SENSOR_HOLD_EXPIRED (R97), of one wheel. -/
  | sensorHoldExpired (wheel : Wheel)
  /-- BOOST_WINDOW_END (R102), of one wheel. -/
  | boostWindowEnd (wheel : Wheel)
  /-- RECOVER_END (R104), of one wheel. -/
  | recoverEnd (wheel : Wheel)
  /-- STEER_PRESSURE_LOW (R84). -/
  | steerPressureLow
  /-- PLAN_ADVANCE (R119). -/
  | planAdvance
  /-- RETARD_SHORTFALL (R127). -/
  | retardShortfall
  /-- LOCKOUT_END (R172). -/
  | lockoutEnd
  /-- SERVICE_IDLE_TIMEOUT (R174). -/
  | serviceIdleTimeout
  /-- MARKER_CHARACTER (R154): a character with its marker bit set, carrying a station address. -/
  | markerCharacter (port : PortId) (address : Byte)
  /-- FRAMING_ERROR (R155). -/
  | framingError (port : PortId)
  /-- GAP_TIMEOUT (R155). -/
  | gapTimeout (port : PortId)
  /-- LENGTH_ERROR (R155): the length byte received. -/
  | lengthError (port : PortId) (length : Byte)
  /-- SHORT_BREAK (R159), judged at the return to mark. -/
  | shortBreak (port : PortId)
  /-- LONG_BREAK (R160), at the end of the third character time at space. -/
  | longBreak (port : PortId)
  /-- CHECK_FAILURE (R156): the data characters of a complete frame, its length byte being the payload's length. -/
  | checkFailure (port : PortId) (code : Byte) (payload : List Byte) (check : Byte)
  /-- UNKNOWN_REQUEST (R156): a sound frame with a code the port does not list. -/
  | unknownRequest (port : PortId) (code : Byte) (payload : List Byte)
  /-- REPLY_BEGIN (R157). -/
  | replyBegin (port : PortId)
  /-- REPLY_COMPLETE (R154). -/
  | replyComplete (port : PortId)
  /-- MEASURE (R22), on L1. -/
  | measure (payload : List Byte)
  /-- PASS_COMPLETION (R57). `lineAtSpace`: a break holds the L1 line at space at this moment (R157, DESIGN CHOICE,
  log 11). -/
  | passCompletion (lineAtSpace : Bool)
  /-- GRANT_READ (R163), on L1. -/
  | grantRead (payload : List Byte)
  /-- LINK_STATUS (R162), on any port. -/
  | linkStatus (port : PortId) (payload : List Byte)
  /-- DEMAND (R26), on L2. -/
  | demand (payload : List Byte)
  /-- PLAN_APPEND (R112), on L2. -/
  | planAppend (payload : List Byte)
  /-- PLAN_START (R114), on L2. -/
  | planStart (payload : List Byte)
  /-- PLAN_CLEAR (R115), on L2. -/
  | planClear (payload : List Byte)
  /-- PLAN_READ (R116), on L2. -/
  | planRead (payload : List Byte)
  /-- TRIP_CLEAR (R144, R145), on L2. -/
  | tripClear (payload : List Byte)
  /-- FAULT_READ (R147), on L2 and L3. -/
  | faultRead (port : PortId) (payload : List Byte)
  /-- FAULT_ACK (R148), on L3. -/
  | faultAck (payload : List Byte)
  /-- ACCESS (R170), on L3. -/
  | access (payload : List Byte)
  /-- LOGOUT (R173), on L3. -/
  | logout (payload : List Byte)
  /-- ROW_READ (R175), on L3. -/
  | rowRead (payload : List Byte)
  /-- ROW_STAGE (R176, R177), on L3. -/
  | rowStage (payload : List Byte)
  /-- ROW_COMMIT (R178), on L3. -/
  | rowCommit (payload : List Byte)
  /-- PROGRAM_VERIFY (R181), the end of a program. `found`: none where the cells took what was written, else what the
  row's cells hold instead (DESIGN CHOICE, log 10). -/
  | programVerify (found : Option NvRow)
  /-- STORE_STATUS (R185), on L3. -/
  | storeStatus (payload : List Byte)
  /-- COUNTERS_READ (R186), on L3. -/
  | countersRead (payload : List Byte)
  /-- MODEL_READ (R186), on L3. -/
  | modelRead (payload : List Byte)
  /-- IDENT_READ (R187), on L3. -/
  | identRead (payload : List Byte)
  /-- RESTART (R188), on L3. -/
  | restart (payload : List Byte)
deriving DecidableEq, Repr

end Sys2Proof
end

