-- ==== Sys2Proof/Machine/Catalogue.lean ====
section
/-! DEFINITION. The request codes and the ports that list them (R156). -/

namespace Sys2Proof.Machine

/-- The codes port `p` lists (R156). -/
def listedCodes : PortId → List Byte
  | .l1 => [0x10, 0x11, 0x1F]
  | .l2 => [0x1F, 0x20, 0x21, 0x22, 0x23, 0x24, 0x25, 0x26]
  | .l3 => [0x1F, 0x26, 0x30, 0x31, 0x32, 0x33, 0x34, 0x35, 0x36, 0x37, 0x38, 0x39, 0x3A]

/-- Port `p` lists code `c` in the catalogue (R156). -/
def isListed (p : PortId) (c : Byte) : Bool := (listedCodes p).contains c

/-- The greatest length byte of a frame (R152). -/
def maxPayload : Nat := 48

end Sys2Proof.Machine
end

