-- ==== Sys2Proof/Config.lean ====
section
/-! DEFINITION. What the manual leaves to the silicon. Each constant has no body: no proof can see its value. -/

namespace Sys2Proof.Config

/-- FREE VALUE (DESIGN CHOICE, log 9). Which bits of an entry already hold the new image when a cold reset cuts a program off: the
`n`-th interrupted program, entry `i`. A set bit has the new value, a clear bit the old one (R184: old entries, new
entries, a mix). -/
opaque programmedBits : Nat → Nat → Word

/-- FREE VALUE (DESIGN CHOICE, log 9). The CHECK WORD cells that the `n`-th interrupted program leaves (R184: an
unfinished CHECK WORD). -/
opaque unfinishedCheck : Nat → Word

/-- FREE VALUE (DESIGN CHOICE, log 13). The silicon revision letter that IDENT_READ reports, as a number of the
alphabet from 0 (R187). -/
opaque revisionLetter : Fin 26

end Sys2Proof.Config
end

