-- ==== Sys2Proof/Machine/Bytes.lean ====
section
/-! DEFINITION. Byte order of the links: values of more than one byte high byte first, signed values in two's
complement (R152). -/

namespace Sys2Proof.Machine

/-- Byte `i` of a payload. Every use has `i` within the payload's length. -/
def byteAt (p : List Byte) (i : Nat) : Byte := p.getD i 0

/-- The two bytes from `i`, high byte first. -/
def wordAt (p : List Byte) (i : Nat) : Word := byteAt p i ++ byteAt p (i + 1)

/-- The two bytes from `i`, unsigned. -/
def unsignedAt (p : List Byte) (i : Nat) : Nat := (wordAt p i).toNat

/-- The two bytes from `i`, signed. -/
def signedAt (p : List Byte) (i : Nat) : Int := (wordAt p i).toInt

/-- The four bytes from `i`, high byte first. -/
def longAt (p : List Byte) (i : Nat) : BitVec 32 := wordAt p i ++ wordAt p (i + 2)

/-- A two-byte value as bytes. -/
def wordBytes (w : Word) : List Byte := [w.extractLsb' 8 8, w.extractLsb' 0 8]

/-- An unsigned figure as two bytes. -/
def unsignedBytes (n : Nat) : List Byte := wordBytes (BitVec.ofNat 16 n)

/-- A signed figure as two bytes. -/
def signedBytes (i : Int) : List Byte := wordBytes (BitVec.ofInt 16 i)

/-- A four-byte value as bytes. -/
def longBytes (w : BitVec 32) : List Byte := wordBytes (w.extractLsb' 16 16) ++ wordBytes (w.extractLsb' 0 16)

/-- A figure below 256 as one byte. -/
def oneByte (n : Nat) : List Byte := [BitVec.ofNat 8 n]

/-- A byte from its bits, bit 0 first; bits not named are 0 (R164). -/
def bitsByte : List Bool → Nat
  | [] => 0
  | b :: rest => b.toNat + 2 * bitsByte rest

/-- The sum of bytes modulo 256 (R152). -/
def byteSum (p : List Byte) : Byte := p.foldl (· + ·) 0

/-- The CHECK BYTE that makes the sum of a frame 0 (R152). -/
def checkByte (p : List Byte) : Byte := -(byteSum p)

end Sys2Proof.Machine
end

