-- ==== Sys2Proof/Machine/Tables.lean ====
section
/-! DEFINITION. The envelope tables (file 01): the LIMP SET, the CHECK WORD, the range tests, the indexes and bands. -/

namespace Sys2Proof.Machine

/-! ### The LIMP SET (Tables 1-1 to 1-6) -/

/-- The LIMP SET: 23 rows of ROM (R1, Tables 1-1 to 1-6). -/
def limpSet : Vector Row 23 := #v[
  .replicate 8 800, .replicate 8 800, .replicate 8 800, .replicate 8 800,
  .replicate 8 800, .replicate 8 800, .replicate 8 800, .replicate 8 800,
  .replicate 8 700, .replicate 8 700, .replicate 8 700, .replicate 8 700,
  .replicate 8 0,
  #v[1000, 1000, 900, 750, 550, 350, 150, 0],
  #v[1000, 1000, 950, 850, 700, 500, 250, 0],
  #v[5500, 5500, 5000, 4500, 3500, 2500, 1500, 1000],
  #v[7000, 6000, 5000, 4000, 3000, 2200, 1600, 1200],
  #v[0, 10, 30, 60, 90, 120, 150, 180],
  #v[2200, 65, 140, 170, 150, 60, 100, 2000],
  #v[15, 8, 2, 2000, 600, 190, 160, 20],
  #v[300, 1200, 3, 150, 20, 40, 32, 150],
  #v[6000, 2100, 300, 30, 50, 3, 5, 150],
  #v[0, 0, 0, 0, 64, 3000, 600, 20]]

/-- Entry `e` of a row. Every use has `e` below 8. -/
def rowEntry (row : Row) (e : Nat) : Word := row[e]?.getD 0

/-- Row `r` of the LIMP SET. Every use has `r` below 23. -/
def limpRow (r : Nat) : Row := limpSet[r]?.getD (.replicate 8 0)

/-- An erased row: 65535 in the eight entries and in the CHECK WORD (R1). -/
def erasedRow : NvRow := ⟨.replicate 8 65535, 65535⟩

/-! ### The CHECK WORD (R16) -/

/-- The CHECK WORD of row `r`: 65535 − ((sum of the entries + 257 × r) mod 65536) (R16). -/
def checkWord (r : Nat) (row : Row) : Word :=
  BitVec.ofNat 16 (65535 - ((row.toList.map BitVec.toNat).sum + 257 * r) % 65536)

/-- A NONVOLATILE ARRAY row passes the CHECK WORD test at position `r` (R16). -/
def checkPasses (r : Nat) (row : NvRow) : Bool := row.check == checkWord r row.entries

/-! ### The range tests (R2, sections 1.3 and 1.4) -/

/-- How an entry is read and what values its table permits. -/
inductive EntryRange where
  /-- read unsigned, within the bounds given -/
  | unsigned (low high : Nat)
  /-- read signed, within the bounds given (row 12) -/
  | signed (low high : Int)
deriving DecidableEq, Repr

/-- The entry lies within its range. -/
def inRange (range : EntryRange) (w : Word) : Bool :=
  match range with
  | .unsigned low high => decide (low ≤ w.toNat) && decide (w.toNat ≤ high)
  | .signed low high => decide (low ≤ w.toInt) && decide (w.toInt ≤ high)

/-- The permitted ranges of the eight entries of row `r` (Tables 1-1 to 1-6). -/
def entryRanges (r : Nat) : List EntryRange :=
  if r < 12 then List.replicate 8 (.unsigned 0 1600)
  else if r = 12 then List.replicate 8 (.signed (-128) 127)
  else if r < 15 then List.replicate 8 (.unsigned 0 1000)
  else if r < 17 then List.replicate 8 (.unsigned 300 7000)
  else if r = 17 then List.replicate 8 (.unsigned 0 200)
  else if r = 18 then
    [.unsigned 500 4000, .unsigned 10 200, .unsigned 50 250, .unsigned 50 250,
     .unsigned 0 500, .unsigned 0 500, .unsigned 30 200, .unsigned 500 7000]
  else if r = 19 then
    [.unsigned 1 255, .unsigned 1 255, .unsigned 1 255, .unsigned 100 5000,
     .unsigned 200 650, .unsigned 100 250, .unsigned 50 300, .unsigned 0 100]
  else if r = 20 then
    [.unsigned 10 1200, .unsigned 10 6000, .unsigned 0 6, .unsigned 20 1000,
     .unsigned 1 250, .unsigned 5 400, .unsigned 1 255, .unsigned 20 500]
  else if r = 21 then
    [.unsigned 1000 7000, .unsigned 500 3000, .unsigned 50 1000, .unsigned 1 600,
     .unsigned 1 600, .unsigned 1 50, .unsigned 1 50, .unsigned 10 1200]
  else
    [.unsigned 0 65535, .unsigned 0 65535, .unsigned 0 65535, .unsigned 0 65535,
     .unsigned 3 254, .unsigned 100 36000, .unsigned 10 6000, .unsigned 1 200]

/-- Each entry is no greater than the entry before it (R9). -/
def nonIncreasing : List Word → Bool
  | a :: b :: rest => decide (b.toNat ≤ a.toNat) && nonIncreasing (b :: rest)
  | _ => true

/-- The rules within a row: rows 13 and 14 non-increasing (R9), row 18 STEER_OK not below STEER_LOW (R11). -/
def rowRule (r : Nat) (row : Row) : Bool :=
  if r = 13 ∨ r = 14 then nonIncreasing row.toList
  else if r = 18 then decide ((rowEntry row 2).toNat ≤ (rowEntry row 3).toNat)
  else true

/-- The range test of a row alone: every entry in its range, and the rules within the row (R17, R179). -/
def rangePasses (r : Nat) (row : Row) : Bool :=
  (List.zipWith inRange (entryRanges r) row.toList).all id && rowRule r row

/-- A NONVOLATILE ARRAY row is valid alone at position `r`: both tests of R17. -/
def validAlone (r : Nat) (row : NvRow) : Bool := checkPasses r row && rangePasses r row.entries

/-- The pair rule: each PROPEL_CONT entry is not above the PROPEL_PEAK entry of the same index (R7). -/
def pairAgrees (cont peak : Row) : Bool :=
  (List.zipWith (fun c p => decide (c.toNat ≤ p.toNat)) cont.toList peak.toList).all id

/-- The write level of row `r` (Table 1-1, R169): 1 for rows 12, 15 and 16, 2 for every other row. -/
def writeLevel (r : Nat) : Nat := if r = 12 ∨ r = 15 ∨ r = 16 then 1 else 2

/-! ### Indexes and bands (section 1.2) -/

/-- The speed index of a speed magnitude (R4). -/
def speedIndex (v : Nat) : Nat :=
  if v < 800 then v / 100
  else if v < 2400 then 8 + (v - 800) / 200
  else if v < 5600 then 16 + (v - 2400) / 400
  else min 31 (24 + (v - 5600) / 200)

/-- The band of a quantity: how many of the seven lower bounds of bands 1 to 7 it has reached (R5). -/
def bandOf (bounds : List Int) (x : Int) : Nat := (bounds.filter fun b => decide (b ≤ x)).length

/-- Grid band of an effective grid temperature in °C (R5). -/
def gridBandOf (t : Int) : Nat := bandOf [200, 300, 360, 420, 480, 540, 600] t

/-- Motor band of a winding temperature in °C (R5). -/
def motorBandOf (t : Int) : Nat := bandOf [120, 140, 155, 170, 180, 190, 200] t

/-- Payload band of a latched payload in t (R5). -/
def payloadBandOf (p : Nat) : Nat := bandOf [160, 200, 230, 245, 260, 275, 290] p

/-- Steer band of a steer angle in 0.1°, from its magnitude (R5). -/
def steerBandOf (angle : Int) : Nat := bandOf [20, 50, 100, 150, 200, 260, 330] angle.natAbs

/-- The retard trim group of a speed index (R6). -/
def trimGroup (index : Nat) : Nat := index / 4

end Sys2Proof.Machine
end

