-- ==== Sys2Proof/Machine/State.lean ====
section
/-! DEFINITION. The state of the part as plain data, its faults and refusals, and the state right after reset. -/

namespace Sys2Proof.Machine

/-! ### Faults and refusals -/

/-- Reasons the part stops. There are none: the manual describes no command that stops it (a broken limit latches a
trip, a bad frame is counted, a bad request is answered with a result code). Nobody raises one. -/
inductive Fault
deriving DecidableEq, Repr

/-- Reasons the model has no answer. -/
inductive Refusal where
  /-- Raised by an arm of `exec` whose command has no meaning yet. Safe: the run stops. No arm raises it now. -/
  | notModelled (mnemonic : String)
deriving DecidableEq, Repr

/-! ### Names shared by the blocks -/

/-- Drive modes (R129). -/
inductive Mode where
  | startup
  | parked
  | ready
  | drive
deriving DecidableEq, Repr

/-- Directions of travel (R27). -/
inductive Direction where
  | neutral
  | forward
  | reverse
deriving DecidableEq, Repr

/-- Freshness of a link as a source of data (R32). -/
inductive Freshness where
  | never
  | fresh
  | stale
deriving DecidableEq, Repr

/-- Trip levels (R135). -/
inductive TripLevel where
  | none
  | p
  | d
deriving DecidableEq, Repr

/-- Regimes of a pass (R50, R51). -/
inductive Regime where
  | coast
  | propel
  | retard
deriving DecidableEq, Repr

/-- Sources of the speed limit, in the order of R47. -/
inductive LimitSource where
  | plan
  | payload
  | corner
  | limp
  | fallback
  | none
deriving DecidableEq, Repr

/-- Source flag of a WORKING IMAGE row (R3). -/
inductive RowSource where
  | nv
  | limp
deriving DecidableEq, Repr

/-- Result codes of replies (R164). -/
inductive Result where
  | ok
  | busy
  | refusedMode
  | refusedAccess
  | range
  | length
  | unknown
  | queueFull
  | lockedOut
  | notStaged
deriving DecidableEq, Repr

/-! ### Trip codes -/

/-- The twelve trip codes, in the order of their numbers (R134). -/
inductive TripCode where
  | propLinkLost
  | gridOvertemp
  | motorOvertempL
  | motorOvertempR
  | dcLinkOvervolt
  | inverterFault
  | torqueExcessL
  | torqueExcessR
  | chassisLinkLost
  | overspeed
  | steerPressureLow
  | retardShortfall
deriving DecidableEq, Repr

/-- One mark for each trip code (the latched-trip map R136, and the owners' present marks R134). -/
structure TripMarks where
  propLinkLost : Bool
  gridOvertemp : Bool
  motorOvertempL : Bool
  motorOvertempR : Bool
  dcLinkOvervolt : Bool
  inverterFault : Bool
  torqueExcessL : Bool
  torqueExcessR : Bool
  chassisLinkLost : Bool
  overspeed : Bool
  steerPressureLow : Bool
  retardShortfall : Bool
deriving DecidableEq, Repr

/-- No mark set. -/
def TripMarks.clear : TripMarks :=
  ⟨false, false, false, false, false, false, false, false, false, false, false, false⟩

/-- The mark of code `c`. -/
def TripMarks.get (m : TripMarks) : TripCode → Bool
  | .propLinkLost => m.propLinkLost
  | .gridOvertemp => m.gridOvertemp
  | .motorOvertempL => m.motorOvertempL
  | .motorOvertempR => m.motorOvertempR
  | .dcLinkOvervolt => m.dcLinkOvervolt
  | .inverterFault => m.inverterFault
  | .torqueExcessL => m.torqueExcessL
  | .torqueExcessR => m.torqueExcessR
  | .chassisLinkLost => m.chassisLinkLost
  | .overspeed => m.overspeed
  | .steerPressureLow => m.steerPressureLow
  | .retardShortfall => m.retardShortfall

/-- The marks with that of code `c` set to `b`. -/
def TripMarks.set (m : TripMarks) (c : TripCode) (b : Bool) : TripMarks :=
  match c with
  | .propLinkLost => { m with propLinkLost := b }
  | .gridOvertemp => { m with gridOvertemp := b }
  | .motorOvertempL => { m with motorOvertempL := b }
  | .motorOvertempR => { m with motorOvertempR := b }
  | .dcLinkOvervolt => { m with dcLinkOvervolt := b }
  | .inverterFault => { m with inverterFault := b }
  | .torqueExcessL => { m with torqueExcessL := b }
  | .torqueExcessR => { m with torqueExcessR := b }
  | .chassisLinkLost => { m with chassisLinkLost := b }
  | .overspeed => { m with overspeed := b }
  | .steerPressureLow => { m with steerPressureLow := b }
  | .retardShortfall => { m with retardShortfall := b }

/-! ### The LINK PORTS (file 08) -/

/-- The result and payload of a formed reply (R157). -/
structure ReplyBody where
  result : Result
  payload : List Byte
deriving DecidableEq, Repr

/-- A formed reply with the address and code it carries (R152). -/
structure Reply where
  address : Byte
  code : Byte
  body : ReplyBody
deriving DecidableEq, Repr

/-- The receive states of a port (R154). -/
inductive Receive where
  | idle
  /-- collects a frame that was addressed to `address` -/
  | addressed (address : Byte)
  | ignoring
  /-- owes a reply; `body` is none until the reply is formed (a MEASURE whose pass has not completed) -/
  | replyPending (address code : Byte) (body : Option ReplyBody)
  /-- sends a reply -/
  | replying (reply : Reply)
deriving DecidableEq, Repr

/-- The seven counters of a port, in the order they are sent (R161). -/
structure Counters where
  goodFrames : Nat
  checkFailures : Nat
  framingErrors : Nat
  gapTimeouts : Nat
  lengthErrors : Nat
  misaddressed : Nat
  superseded : Nat
deriving DecidableEq, Repr

/-- All seven counters at 0. -/
def Counters.zero : Counters := ⟨0, 0, 0, 0, 0, 0, 0⟩

/-- A LINK PORT (R154, R161). -/
structure Port where
  receive : Receive
  counters : Counters
deriving DecidableEq, Repr

/-! ### The INTAKE UNIT (file 02) -/

/-- The MEASUREMENT RECORD as stored (R23, R24). -/
structure MeasurementRecord where
  wheelSpeed : Both Int
  refSpeed : Nat
  achieved : Both Int
  winding : Both Int
  windingValid : Both Bool
  gridPower : Nat
  gridSensor : Int
  gridSensorValid : Bool
  voltage : Nat
  ambient : Int
  blower : Bool
  inverterFault : Both Bool
deriving DecidableEq, Repr

/-- The DEMAND RECORD as stored (R27). `hold` none: the hold setpoint is absent. -/
structure DemandRecord where
  throttle : Nat
  lever : Nat
  direction : Direction
  steer : Int
  payload : Nat
  pressure : Nat
  park : Bool
  service : Bool
  hold : Option Nat
deriving DecidableEq, Repr

/-- The FALLBACK DEMAND (R36) with its fallback setpoint (R37). Its throttle is 0, its hold setpoint absent, its steer
angle marked HELD and its pressure marked LOW_ASSUMED. -/
structure FallbackDemand where
  lever : Nat
  direction : Direction
  steer : Int
  pressure : Nat
  park : Bool
  service : Bool
  setpoint : Nat
deriving DecidableEq, Repr

/-- The INTAKE UNIT (R43 lists its state). -/
structure Intake where
  demand : DemandRecord
  measurement : Option MeasurementRecord
  l1 : Freshness
  l1Count : Nat
  l2 : Freshness
  l2Count : Nat
  direction : Direction
  directionHeld : Bool
  standstill : Nat
  payload : Nat
  fallback : Option FallbackDemand
  grace : Nat
deriving DecidableEq, Repr

/-! ### The TABLE STORE (files 01 and 09) -/

/-- A WORKING IMAGE row: eight entries and a source flag (R3). -/
structure ImageRow where
  entries : Row
  source : RowSource
deriving DecidableEq, Repr

/-- The WORKING IMAGE (R1). -/
abbrev Image := Vector ImageRow 23

/-- The STAGE BUFFER when it is not empty (R176). -/
structure StagedRow where
  row : Nat
  entries : Row
deriving DecidableEq, Repr

/-- Row Programmer states (R180). -/
inductive Programmer where
  | idle
  | programming
  | swapPending
deriving DecidableEq, Repr

/-- The TABLE STORE (R1, file 09). `lockout` none: off. -/
structure Store where
  nv : Vector NvRow 23
  image : Image
  accessLevel : Nat
  failures : Nat
  lockout : Option Nat
  idleCount : Nat
  stage : Option StagedRow
  programmer : Programmer
  suspect : Vector Bool 23
  writeFail : Nat
deriving DecidableEq, Repr

/-! ### The TRACTION AND STEERING UNIT (file 04) -/

/-- The TRACTION AND STEERING UNIT (R86). -/
structure Traction where
  tf : Both Nat
  reserve : Nat
  pressureCount : Nat
deriving DecidableEq, Repr

/-! ### The THERMAL MONITOR (file 05) -/

/-- What the monitor holds of the grid once G is seeded: G in sixteenths of a degree (R87), the grid input copy (R89),
the effective grid temperature and the grid band (R91, R92). -/
structure Grid where
  g : Int
  power : Nat
  blower : Bool
  ambient : Int
  sensor : Int
  sensorValid : Bool
  effective : Int
  band : Nat
deriving DecidableEq, Repr

/-- Sensor hold states (R95). -/
inductive HoldState where
  | none
  | live
  | holding
  | expired
deriving DecidableEq, Repr

/-- BOOST TIMER states (R100). -/
inductive BoostState where
  | idle
  | boost
  | recover
deriving DecidableEq, Repr

/-- A BOOST TIMER (R100). `reference` none: the reference band is absent. -/
structure BoostTimer where
  state : BoostState
  count : Nat
  reference : Option Nat
deriving DecidableEq, Repr

/-- What the monitor holds of one motor (R95, R98, R100). -/
structure Motor where
  hold : HoldState
  holdCount : Nat
  temp : Option Int
  band : Option Nat
  md : Nat
  boost : BoostTimer
deriving DecidableEq, Repr

/-- The THERMAL MONITOR (R108). `grid` none: G is UNSEEDED and the input copy, effective temperature and band are
absent. -/
structure Thermal where
  grid : Option Grid
  gd : Nat
  motor : Both Motor
deriving DecidableEq, Repr

/-! ### The DESCENT PLANNER (file 06) -/

/-- Surfaces as stored (R110). -/
inductive Surface where
  | dry
  | wet
deriving DecidableEq, Repr

/-- A SEGMENT RECORD as stored (R110). -/
structure Segment where
  length : Nat
  grade : Int
  target : Nat
  surface : Surface
deriving DecidableEq, Repr

/-- Plan states (R109). -/
inductive PlanState where
  | empty
  | loaded
  | active
deriving DecidableEq, Repr

/-- The head effective speed with its two flags (R123). -/
structure HeadLimit where
  speed : Nat
  derated : Bool
  infeasible : Bool
deriving DecidableEq, Repr

/-- The DESCENT PLANNER (R109, R126). The HEAD is the first of `queue`. `head` none: absent, both flags clear. -/
structure Planner where
  queue : List Segment
  state : PlanState
  progress : Nat
  head : Option HeadLimit
  completed : Nat
  abandoned : Nat
  shortfall : Nat
deriving DecidableEq, Repr

/-! ### The ALLOCATION ENGINE (file 03) -/

/-- The GRANT RECORD (R59). Its trip level and mode fields are filled in when a reply is formed. -/
structure GrantRecord where
  sequence : BitVec 16
  torque : Both Int
  propelLimit : Both Nat
  retardLimit : Both Nat
  speedLimit : Nat
  boost : Both Bool
  tractionReduced : Both Bool
  powerLimited : Bool
  speedLimited : Bool
  regime : Regime
deriving DecidableEq, Repr

/-- The demand in force as its readers see it (R35, R36). -/
structure InForce where
  throttle : Nat
  lever : Nat
  steer : Int
  /-- the steer angle is marked HELD -/
  steerHeld : Bool
  pressure : Nat
  /-- the pressure is marked LOW_ASSUMED -/
  lowAssumed : Bool
  park : Bool
  service : Bool
  hold : Option Nat
  /-- the fallback setpoint, absent while L2 is not STALE -/
  setpoint : Option Nat
deriving DecidableEq, Repr

/-- What a pass copies at its start (R45). -/
structure Snapshot where
  measurement : MeasurementRecord
  demand : InForce
  l2Stale : Bool
  direction : Direction
  payload : Nat
  payloadBand : Nat
  mode : Mode
  tripLevel : TripLevel
  envelopeLimp : Bool
  image : Image
  tf : Both Nat
  boost : Both BoostState
  gd : Nat
  md : Both Nat
  seeded : Bool
  planActive : Bool
  headSpeed : Nat
  headSurface : Surface
  previous : Both Int
deriving DecidableEq, Repr

/-- What stages 1 to 8 of the pass in flight have formed, to be gated and written at completion (R56, R57). -/
structure PassWork where
  torque : Both Int
  propelLimit : Both Nat
  retardLimit : Both Nat
  speedLimit : Nat
  source : LimitSource
  retardFraction : Nat
  boost : Both Bool
  tractionReduced : Both Bool
  powerLimited : Bool
  speedLimited : Bool
  regime : Regime
deriving DecidableEq, Repr

/-- How far the pass in flight has come (R46): its snapshot is taken and stages 1 to 8 are still to run, or they have run
and it waits for completion. -/
inductive Pass where
  | snapshotTaken (n : Snapshot)
  | computed (w : PassWork)
deriving DecidableEq, Repr

/-- The ALLOCATION ENGINE (R59, R68). `pass` none: the pass state is IDLE, some: IN_FLIGHT. -/
structure Engine where
  grant : GrantRecord
  speedLimit : Nat
  source : LimitSource
  retardFraction : Nat
  pass : Option Pass
  excess : Both Nat
deriving DecidableEq, Repr

/-! ### The TRIP UNIT (file 07) -/

/-- A FAULT RECORD (R141). Its class is that of its code. `cleared` false: ACTIVE. -/
structure FaultRecord where
  code : TripCode
  cleared : Bool
  first : BitVec 32
  last : BitVec 32
  occurrences : Nat
  refSpeed : Nat
  gridTemp : Option Int
  detail : Option Int
deriving DecidableEq, Repr

/-- The TRIP UNIT (R150). `faults` is oldest first. -/
structure Trips where
  latched : TripMarks
  level : TripLevel
  faults : List FaultRecord
  overflow : Nat
deriving DecidableEq, Repr

/-! ### The part -/

/-- The whole state of the part (INVENTORY.md, State). -/
structure State where
  /-- RESET_N is low: the part is held (R1, R168). -/
  resetLow : Bool
  mode : Mode
  /-- TRIP_OUT_N is asserted (R137). -/
  tripOut : Bool
  /-- The interval stamp (R142). -/
  stamp : BitVec 32
  portL1 : Port
  portL2 : Port
  portL3 : Port
  /-- The held slot of the L1 port: the payload of the held MEASURE (R63). -/
  heldMeasure : Option (List Byte)
  intake : Intake
  store : Store
  engine : Engine
  traction : Traction
  thermal : Thermal
  planner : Planner
  trips : Trips
  /-- The present marks, each kept by the owner of its condition (R134). -/
  present : TripMarks
  /-- Start-up validation: none while it does not run, else the next row to be decided (R17, R19). -/
  validation : Option Nat
  /-- The last character of an accepted RESTART's reply has been sent and the warm restart is due (R188). -/
  restartDue : Bool
  /-- The model's own: how many free values have been taken (DESIGN CHOICE, log 9). -/
  freeCount : Nat
  /-- The commands that wait, first in, first out. -/
  pending : List Instr
deriving DecidableEq, Repr

/-! ### The state right after a cold reset -/

/-- A port after either reset (R168). -/
def Port.afterReset : Port := ⟨.idle, .zero⟩

/-- The DEMAND RECORD after either reset (R43). -/
def DemandRecord.afterReset : DemandRecord := ⟨0, 0, .neutral, 0, 0, 0, true, false, none⟩

/-- The INTAKE UNIT after either reset (R43). -/
def Intake.afterReset : Intake :=
  { demand := .afterReset, measurement := none, l1 := .never, l1Count := 0, l2 := .never, l2Count := 0,
    direction := .neutral, directionHeld := false, standstill := 0, payload := 0, fallback := none, grace := 0 }

/-- The WORKING IMAGE with every row from the LIMP SET (R17). -/
def limpImage : Image := ⟨⟨limpSet.toList.map fun row => ⟨row, .limp⟩⟩, by simp⟩

/-- The TABLE STORE's service state after either reset (R189), over the NONVOLATILE ARRAY `nv`, which both resets keep,
and with the image that validation starts from (DEDUCED, log 3). -/
def Store.afterReset (nv : Vector NvRow 23) : Store :=
  { nv := nv, image := limpImage, accessLevel := 0, failures := 0, lockout := none, idleCount := 0, stage := none,
    programmer := .idle, suspect := .replicate 23 false, writeFail := 0 }

/-- The GRANT RECORD after either reset (R68). -/
def GrantRecord.afterReset : GrantRecord :=
  { sequence := 0, torque := ⟨0, 0⟩, propelLimit := ⟨0, 0⟩, retardLimit := ⟨0, 0⟩, speedLimit := 7000,
    boost := ⟨false, false⟩, tractionReduced := ⟨false, false⟩, powerLimited := false, speedLimited := false,
    regime := .coast }

/-- The ALLOCATION ENGINE after either reset (R68). -/
def Engine.afterReset : Engine :=
  { grant := .afterReset, speedLimit := 7000, source := .none, retardFraction := 0, pass := none, excess := ⟨0, 0⟩ }

/-- The TRACTION AND STEERING UNIT after either reset (R86): the reserve is STEER_RES_HI of the LIMP SET row 18. -/
def Traction.afterReset : Traction :=
  { tf := ⟨1000, 1000⟩, reserve := (rowEntry (limpRow 18) 4).toNat, pressureCount := 0 }

/-- A BOOST TIMER after a cold reset (R108). -/
def BoostTimer.afterReset : BoostTimer := ⟨.idle, 0, none⟩

/-- A motor after either reset (R108), with the BOOST TIMER given. -/
def Motor.afterReset (boost : BoostTimer) : Motor :=
  { hold := .none, holdCount := 0, temp := none, band := none, md := 0, boost := boost }

/-- The THERMAL MONITOR after a cold reset (R108). -/
def Thermal.afterReset : Thermal :=
  { grid := none, gd := 0, motor := ⟨.afterReset .afterReset, .afterReset .afterReset⟩ }

/-- The DESCENT PLANNER after either reset (R128). -/
def Planner.afterReset : Planner :=
  { queue := [], state := .empty, progress := 0, head := none, completed := 0, abandoned := 0, shortfall := 0 }

/-- The TRIP UNIT after a cold reset (R150). -/
def Trips.afterReset : Trips := { latched := .clear, level := .none, faults := [], overflow := 0 }

/-- The part right after a cold reset, RESET_N still low (DEDUCED, log 1), over the NONVOLATILE ARRAY `nv`
(R43, R68, R86, R108, R128, R150, R168, R189). -/
def State.coldReset (nv : Vector NvRow 23) : State :=
  { resetLow := true, mode := .startup, tripOut := true, stamp := 0,
    portL1 := .afterReset, portL2 := .afterReset, portL3 := .afterReset, heldMeasure := none,
    intake := .afterReset, store := .afterReset nv, engine := .afterReset, traction := .afterReset,
    thermal := .afterReset, planner := .afterReset, trips := .afterReset, present := .clear,
    validation := none, restartDue := false, freeCount := 0, pending := [] }

/-- The machine right after its first power-on: the cold-reset state over the erased NONVOLATILE ARRAY of a new part
(R1, DEDUCED, log 1; DESIGN CHOICE, log 2). -/
def State.reset : State := State.coldReset (.replicate 23 erasedRow)

/-! ### Field updates -/

def State.withResetLow (s : State) (x : Bool) : State := { s with resetLow := x }
def State.withMode (s : State) (x : Mode) : State := { s with mode := x }
def State.withTripOut (s : State) (x : Bool) : State := { s with tripOut := x }
def State.withStamp (s : State) (x : BitVec 32) : State := { s with stamp := x }
def State.withPortL1 (s : State) (x : Port) : State := { s with portL1 := x }
def State.withPortL2 (s : State) (x : Port) : State := { s with portL2 := x }
def State.withPortL3 (s : State) (x : Port) : State := { s with portL3 := x }
def State.withHeldMeasure (s : State) (x : Option (List Byte)) : State := { s with heldMeasure := x }
def State.withIntake (s : State) (x : Intake) : State := { s with intake := x }
def State.withStore (s : State) (x : Store) : State := { s with store := x }
def State.withEngine (s : State) (x : Engine) : State := { s with engine := x }
def State.withTraction (s : State) (x : Traction) : State := { s with traction := x }
def State.withThermal (s : State) (x : Thermal) : State := { s with thermal := x }
def State.withPlanner (s : State) (x : Planner) : State := { s with planner := x }
def State.withTrips (s : State) (x : Trips) : State := { s with trips := x }
def State.withPresent (s : State) (x : TripMarks) : State := { s with present := x }
def State.withValidation (s : State) (x : Option Nat) : State := { s with validation := x }
def State.withRestartDue (s : State) (x : Bool) : State := { s with restartDue := x }
def State.withFreeCount (s : State) (x : Nat) : State := { s with freeCount := x }
def State.withPending (s : State) (x : List Instr) : State := { s with pending := x }

end Sys2Proof.Machine
end

