-- ==== Sys2Proof/Machine/Operands.lean ====
section
/-! DEFINITION. The operands of commands: payload layouts read (R165 to R167), the clamps of the records (R23, R24, R27),
and the table parameters by name (files 01 R11 to R15). -/

namespace Sys2Proof.Machine

/-- `x` clamped to `low..high` (file 00, arithmetic). -/
def clampInt (low high x : Int) : Int := max low (min high x)

/-- `x` lowered to `high` if above it. -/
def clampNat (high x : Nat) : Nat := min high x

/-- One more than `n`, holding at `top` once there. -/
def saturate (top n : Nat) : Nat := min (n + 1) top

/-! ### The WORKING IMAGE read -/

/-- The entries of row `r` of the WORKING IMAGE. Every use has `r` below 23. -/
def imageRow (im : Image) (r : Nat) : Row :=
  match im[r]? with
  | some x => x.entries
  | none => .replicate 8 0

/-- Row `r` of the WORKING IMAGE has source LIMP. -/
def rowIsLimp (im : Image) (r : Nat) : Bool :=
  match im[r]? with
  | some x => decide (x.source = .limp)
  | none => false

/-- Entry `e` of row `r`, read unsigned (R2). -/
def param (im : Image) (r e : Nat) : Nat := (rowEntry (imageRow im r) e).toNat

/-- Index `n` of a table of 32 entries whose first row is `first` (R2). -/
def table32 (im : Image) (first n : Nat) : Nat := param im (first + n / 8) (n % 8)

/-- PROPEL_CONT[i] (R7). -/
def propelCont (im : Image) (i : Nat) : Nat := table32 im 0 i
/-- PROPEL_PEAK[i] (R7). -/
def propelPeak (im : Image) (i : Nat) : Nat := table32 im 4 i
/-- RETARD_CAP[i] (R8). -/
def retardCap (im : Image) (i : Nat) : Nat := table32 im 8 i
/-- RETARD_TRIM[g], read signed (R8). -/
def retardTrim (im : Image) (g : Nat) : Int := (rowEntry (imageRow im 12) g).toInt
/-- GRID_DERATE[band] (R9). -/
def gridDerate (im : Image) (band : Nat) : Nat := param im 13 band
/-- MOTOR_DERATE[band] (R9). -/
def motorDerate (im : Image) (band : Nat) : Nat := param im 14 band
/-- SPEED_CAP[band] (R10). -/
def speedCap (im : Image) (band : Nat) : Nat := param im 15 band
/-- CORNER_SPEED[band] (R10). -/
def cornerSpeed (im : Image) (band : Nat) : Nat := param im 16 band
/-- STEER_SPLIT[band] (R10). -/
def steerSplit (im : Image) (band : Nat) : Nat := param im 17 band

def pRated (im : Image) : Nat := param im 18 0
def kpw (im : Image) : Nat := param im 18 1
def steerLow (im : Image) : Nat := param im 18 2
def steerOk (im : Image) : Nat := param im 18 3
def steerResHi (im : Image) : Nat := param im 18 4
def steerResLo (im : Image) : Nat := param im 18 5
def steerMin (im : Image) : Nat := param im 18 6
def limpSpeed (im : Image) : Nat := param im 18 7

def kGh (im : Image) : Nat := param im 19 0
def kGcOn (im : Image) : Nat := param im 19 1
def kGcOff (im : Image) : Nat := param im 19 2
def pGridCont (im : Image) : Nat := param im 19 3
def gridTrip (im : Image) : Nat := param im 19 4
def motorTrip (im : Image) : Nat := param im 19 5
def emptyMass (im : Image) : Nat := param im 19 6
def rollingResistance (im : Image) : Nat := param im 19 7

def boostA (im : Image) : Nat := param im 20 0
def boostB (im : Image) : Nat := param im 20 1
def boostBandMax (im : Image) : Nat := param im 20 2
def slipTh (im : Image) : Nat := param im 20 3
def tfRecover (im : Image) : Nat := param im 20 4
def torqueRate (im : Image) : Nat := param im 20 5
def ksh (im : Image) : Nat := param im 20 6
def tqTol (im : Image) : Nat := param im 20 7

def overspeedAbs (im : Image) : Nat := param im 21 0
def dcOv (im : Image) : Nat := param im 21 1
def shortfallMargin (im : Image) : Nat := param im 21 2
def shortfallIntervals (im : Image) : Nat := param im 21 3
def payloadSettle (im : Image) : Nat := param im 21 4
def l1Timeout (im : Image) : Nat := param im 21 5
def l2Timeout (im : Image) : Nat := param im 21 6
def l2Grace (im : Image) : Nat := param im 21 7

/-- The access code of `level` 1 or 2: two entries of row 22, high entry first (R15). -/
def accessCode (im : Image) (level : Nat) : BitVec 32 :=
  rowEntry (imageRow im 22) (2 * (level - 1)) ++ rowEntry (imageRow im 22) (2 * (level - 1) + 1)

/-- The service station address, entry 4 of row 22 (R15). -/
def serviceAddress (im : Image) : Byte := (rowEntry (imageRow im 22) 4).setWidth 8
def serviceIdle (im : Image) : Nat := param im 22 5
def lockoutLength (im : Image) : Nat := param im 22 6
def staleDecel (im : Image) : Nat := param im 22 7

/-! ### The MEASURE payload (Table 8-1, R23, R24) -/

/-- A winding temperature is VALID in −50..300 (R24). -/
def windingIsValid (t : Int) : Bool := decide (-50 ≤ t) && decide (t ≤ 300)

/-- The grid sensor temperature is VALID in −50..700 (R24). -/
def gridSensorIsValid (t : Int) : Bool := decide (-50 ≤ t) && decide (t ≤ 700)

/-- The MEASUREMENT RECORD that a MEASURE payload of 23 bytes is stored as (R23, R24, Table 8-1). -/
def readMeasure (p : List Byte) : MeasurementRecord :=
  let windingL := signedAt p 10
  let windingR := signedAt p 12
  let sensor := signedAt p 16
  let flags := byteAt p 22
  { wheelSpeed := ⟨clampInt (-7000) 7000 (signedAt p 0), clampInt (-7000) 7000 (signedAt p 2)⟩
    refSpeed := clampNat 7000 (unsignedAt p 4)
    achieved := ⟨clampInt (-2000) 2000 (signedAt p 6), clampInt (-2000) 2000 (signedAt p 8)⟩
    winding := ⟨windingL, windingR⟩
    windingValid := ⟨windingIsValid windingL, windingIsValid windingR⟩
    gridPower := clampNat 6000 (unsignedAt p 14)
    gridSensor := sensor
    gridSensorValid := gridSensorIsValid sensor
    voltage := unsignedAt p 18
    ambient := clampInt (-50) 60 (signedAt p 20)
    blower := flags.getLsbD 0
    inverterFault := ⟨flags.getLsbD 1, flags.getLsbD 2⟩ }

/-! ### The DEMAND payload (Table 8-3, R27) -/

/-- The direction byte: 0 NEUTRAL, 1 FORWARD, 2 REVERSE, any other NEUTRAL (R27). -/
def readDirection (b : Byte) : Direction :=
  if b = 1 then .forward else if b = 2 then .reverse else .neutral

/-- The hold setpoint: 65535 absent, any other clamped to 300..7000 (R27). -/
def readHold (n : Nat) : Option Nat := if n = 65535 then none else some (max 300 (min 7000 n))

/-- The DEMAND RECORD that a DEMAND payload of 14 bytes is stored as (R27, Table 8-3). -/
def readDemand (p : List Byte) : DemandRecord :=
  { throttle := clampNat 1000 (unsignedAt p 0)
    lever := clampNat 1000 (unsignedAt p 2)
    direction := readDirection (byteAt p 4)
    steer := clampInt (-400) 400 (signedAt p 5)
    payload := clampNat 400 (unsignedAt p 7)
    pressure := clampNat 300 (unsignedAt p 9)
    park := (byteAt p 11).getLsbD 0
    service := (byteAt p 11).getLsbD 1
    hold := readHold (unsignedAt p 12) }

/-! ### SEGMENT RECORDS (Table 8-3, R110) -/

/-- A SEGMENT RECORD as carried: `surface` none is absent on the wire (R110). -/
structure WireSegment where
  length : Nat
  grade : Int
  target : Nat
  surface : Option Surface
deriving DecidableEq, Repr

/-- The surface code: absent 0, DRY 1, WET 2, other values out of range (R164). The outer none: out of range. -/
def readSurface (b : Byte) : Option (Option Surface) :=
  if b = 0 then some none else if b = 1 then some (some .dry) else if b = 2 then some (some .wet) else none

/-- The SEGMENT RECORD of seven bytes, or none where a field is outside the range of R110. -/
def readSegment (p : List Byte) : Option WireSegment :=
  let length := unsignedAt p 0
  let grade := signedAt p 2
  let target := unsignedAt p 4
  match readSurface (byteAt p 6) with
  | none => none
  | some surface =>
    if 1 ≤ length ∧ length ≤ 5000 ∧ -200 ≤ grade ∧ grade ≤ 200 ∧ 300 ≤ target ∧ target ≤ 7000 then
      some ⟨length, grade, target, surface⟩
    else none

/-- `n` SEGMENT RECORDS of seven bytes each, or none where any is out of range (R112). -/
def readSegments : Nat → List Byte → Option (List WireSegment)
  | 0, _ => some []
  | n + 1, p =>
    match readSegment (p.take 7), readSegments n (p.drop 7) with
    | some seg, some rest => some (seg :: rest)
    | _, _ => none

/-- The values a ROW_STAGE payload carries after its row and start bytes (Table 8-7): `n` two-byte values. -/
def readValues : Nat → List Byte → List Word
  | 0, _ => []
  | n + 1, p => wordAt p 0 :: readValues n (p.drop 2)

end Sys2Proof.Machine
end

