-- ==== Sys2Proof/Machine/Flags.lean ====
section
/-! DEFINITION. The flags and figures the spec derives from stored state, each computed in one place. -/

namespace Sys2Proof.Machine

/-! ### The demand in force (R35) -/

/-- The DEMAND RECORD as the demand in force. -/
def inForceOfDemand (d : DemandRecord) : InForce :=
  ⟨d.throttle, d.lever, d.steer, false, d.pressure, false, d.park, d.service, d.hold, none⟩

/-- The FALLBACK DEMAND as the demand in force (R36). -/
def inForceOfFallback (f : FallbackDemand) : InForce :=
  ⟨0, f.lever, f.steer, true, f.pressure, true, f.park, f.service, none, some f.setpoint⟩

/-- The demand in force: the FALLBACK DEMAND while there is one (while L2 is STALE), else the DEMAND RECORD (R35). -/
def demandInForce (i : Intake) : InForce :=
  match i.fallback with
  | some f => inForceOfFallback f
  | none => inForceOfDemand i.demand

/-- A brake flag is set in the demand in force (R56). -/
def brakeSet (i : Intake) : Bool := (demandInForce i).park || (demandInForce i).service

/-! ### INTAKE UNIT views -/

/-- The payload band (R31). -/
def payloadBand (i : Intake) : Nat := payloadBandOf i.payload

/-- OVERLOAD_HOLD: the payload band is 7 (R31). -/
def overloadHold (i : Intake) : Bool := decide (payloadBand i = 7)

/-- STANDSTILL CONFIRMED (R29). -/
def standstillConfirmed (i : Intake) : Bool := decide (10 ≤ i.standstill)

/-- The reference speed of the MEASUREMENT RECORD, 0 while the record is absent. -/
def refSpeedOr0 (i : Intake) : Nat :=
  match i.measurement with
  | some m => m.refSpeed
  | none => 0

/-- The MEASUREMENT RECORD is present with a reference speed below 50 (standstill, file 00). -/
def atStandstill (i : Intake) : Bool :=
  match i.measurement with
  | some m => decide (m.refSpeed < 50)
  | none => false

/-- The MEASUREMENT RECORD is present with a reference speed of 50 or more. -/
def isMoving (i : Intake) : Bool :=
  match i.measurement with
  | some m => decide (50 ≤ m.refSpeed)
  | none => false

/-! ### TABLE STORE views -/

/-- The envelope source is LIMP: some row of 0 to 17 has source LIMP (R20). It follows the source flags at every moment: while
validation runs it is NV from the row that leaves rows 0 to 17 all NV, although R20 also calls it LIMP during validation with
its final value at completion (DESIGN CHOICE, log 21). -/
def envelopeLimp (im : Image) : Bool := (List.range 18).any (rowIsLimp im)

/-- The count of rows with source LIMP (R19, R21). -/
def limpCount (im : Image) : Nat := ((List.range 23).filter (rowIsLimp im)).length

/-- A row map: bit r for row r (R164). -/
def rowMap (f : Nat → Bool) : Nat := bitsByte ((List.range 23).map f)

/-- The map of LIMP rows (R185). -/
def limpMap (im : Image) : Nat := rowMap (rowIsLimp im)

/-- Row `r` is marked SUSPECT. -/
def isSuspect (t : Store) (r : Nat) : Bool := t.suspect[r]?.getD false

/-- STORE_FAULT: any row is marked SUSPECT (R181). -/
def storeFault (t : Store) : Bool := (List.range 23).any (isSuspect t)

/-- The row whose swap waits (R182, R185): the staged row while the programmer is SWAP_PENDING. -/
def pendingRow (t : Store) : Option Nat :=
  match t.programmer, t.stage with
  | .swapPending, some st => some st.row
  | _, _ => none

/-! ### TRIP UNIT views -/

/-- The number of a trip code (R134). -/
def TripCode.number : TripCode → Nat
  | .propLinkLost => 0
  | .gridOvertemp => 1
  | .motorOvertempL => 2
  | .motorOvertempR => 3
  | .dcLinkOvervolt => 4
  | .inverterFault => 5
  | .torqueExcessL => 6
  | .torqueExcessR => 7
  | .chassisLinkLost => 8
  | .overspeed => 9
  | .steerPressureLow => 10
  | .retardShortfall => 11

/-- The code is of class D (R134). -/
def TripCode.classD (c : TripCode) : Bool := decide (c.number < 8)

/-- The twelve codes in the order of their numbers (R134). -/
def allCodes : List TripCode :=
  [.propLinkLost, .gridOvertemp, .motorOvertempL, .motorOvertempR, .dcLinkOvervolt, .inverterFault, .torqueExcessL,
   .torqueExcessR, .chassisLinkLost, .overspeed, .steerPressureLow, .retardShortfall]

/-- The trip level of a set of latched codes (R135). -/
def levelOf (m : TripMarks) : TripLevel :=
  if allCodes.any fun c => c.classD && m.get c then .d
  else if allCodes.any fun c => m.get c then .p
  else .none

/-- The latched-trip map as 16 bits: bit n for code n (R136, R164). -/
def tripMap (m : TripMarks) : Nat := bitsByte (allCodes.map m.get)

/-- TRIP_OUT_N is asserted exactly while the trip level is D or the mode is STARTUP (R137). -/
def lineAsserted (mode : Mode) (level : TripLevel) : Bool := decide (level = .d) || decide (mode = .startup)

/-! ### Conditions -/

/-- The MOTOR_OVERTEMP code of a wheel (R99). -/
def motorOvertempOf : Wheel → TripCode
  | .left => .motorOvertempL
  | .right => .motorOvertempR

/-- The TORQUE_EXCESS code of a wheel (R67). -/
def torqueExcessOf : Wheel → TripCode
  | .left => .torqueExcessL
  | .right => .torqueExcessR

/-- The detail of INVERTER_FAULT: 1 left, 2 right, 3 both (R42). -/
def inverterDetail (f : Both Bool) : Int := f.left.toNat + 2 * f.right.toNat

/-- The measurement is in excess of the granted torque (R66). -/
def inExcess (granted achieved tol : Int) : Bool :=
  if 0 ≤ granted then decide (granted + tol < achieved) || decide (achieved < -tol)
  else decide (achieved < granted - tol) || decide (tol < achieved)

/-! ### Codes of enumerated fields (R164) -/

def Result.code : Result → Nat
  | .ok => 0
  | .busy => 1
  | .refusedMode => 2
  | .refusedAccess => 3
  | .range => 4
  | .length => 5
  | .unknown => 6
  | .queueFull => 7
  | .lockedOut => 8
  | .notStaged => 9

def Mode.code : Mode → Nat
  | .startup => 0
  | .parked => 1
  | .ready => 2
  | .drive => 3

def TripLevel.code : TripLevel → Nat
  | .none => 0
  | .p => 1
  | .d => 2

def Regime.code : Regime → Nat
  | .coast => 0
  | .propel => 1
  | .retard => 2

def LimitSource.code : LimitSource → Nat
  | .plan => 0
  | .payload => 1
  | .corner => 2
  | .limp => 3
  | .fallback => 4
  | .none => 5

def Freshness.code : Freshness → Nat
  | .never => 0
  | .fresh => 1
  | .stale => 2

def PlanState.code : PlanState → Nat
  | .empty => 0
  | .loaded => 1
  | .active => 2

def Surface.code : Surface → Nat
  | .dry => 1
  | .wet => 2

def HoldState.code : HoldState → Nat
  | .none => 0
  | .live => 1
  | .holding => 2
  | .expired => 3

def BoostState.code : BoostState → Nat
  | .idle => 0
  | .boost => 1
  | .recover => 2

def Programmer.code : Programmer → Nat
  | .idle => 0
  | .programming => 1
  | .swapPending => 2

end Sys2Proof.Machine
end

