-- ==== Sys2Proof/Machine/Ops.lean ====
section
/-! DEFINITION. The named operations the blocks share: ports, GRANT RECORD, trips, the steering reserve, the head
effective speed, the swap and the mode. -/

namespace Sys2Proof.Machine

/-! ### The part held -/

/-- While RESET_N is low the part is held: nothing happens (R1, R168, DEDUCED, log 1). -/
def whileReleased (f : State → State) (s : State) : State := if s.resetLow then s else f s

/-! ### Ports -/

/-- The port named `p`. -/
def State.port (s : State) : PortId → Port
  | .l1 => s.portL1
  | .l2 => s.portL2
  | .l3 => s.portL3

/-- The state with port `p` replaced. -/
def State.withPort (s : State) (p : PortId) (x : Port) : State :=
  match p with
  | .l1 => s.withPortL1 x
  | .l2 => s.withPortL2 x
  | .l3 => s.withPortL3 x

/-- Port `p` put into receive state `r`, its counters kept. -/
def setReceive (p : PortId) (r : Receive) (s : State) : State := s.withPort p { s.port p with receive := r }

/-- Port `p` with its counters changed by `f`. -/
def countOn (p : PortId) (f : Counters → Counters) (s : State) : State :=
  s.withPort p { s.port p with counters := f (s.port p).counters }

/-- A port counter stepped: it holds at 65535 once there (R161). -/
def bump (n : Nat) : Nat := saturate 65535 n

def countGood (c : Counters) : Counters := { c with goodFrames := bump c.goodFrames }
def countCheck (c : Counters) : Counters := { c with checkFailures := bump c.checkFailures }
def countFraming (c : Counters) : Counters := { c with framingErrors := bump c.framingErrors }
def countGap (c : Counters) : Counters := { c with gapTimeouts := bump c.gapTimeouts }
def countLength (c : Counters) : Counters := { c with lengthErrors := bump c.lengthErrors }
def countMisaddressed (c : Counters) : Counters := { c with misaddressed := bump c.misaddressed }
def countSuperseded (c : Counters) : Counters := { c with superseded := bump c.superseded }

/-- The station address port `p` answers at a MARKER CHARACTER (R153). -/
def stationAddress (p : PortId) (s : State) : Byte :=
  match p with
  | .l1 => 1
  | .l2 => 2
  | .l3 => serviceAddress s.store.image

/-! ### The GRANT RECORD between completions -/

/-- The state with the torques of the GRANT RECORD replaced. -/
def setTorque (t : Both Int) (s : State) : State :=
  s.withEngine { s.engine with grant := { s.engine.grant with torque := t } }

/-- A class-D latch sets both torques of the GRANT RECORD to 0 (R60). -/
def zeroTorque (s : State) : State := setTorque ⟨0, 0⟩ s

/-- Each positive torque becomes 0, a negative torque is kept (R56, R61). -/
def withoutPositive (t : Both Int) : Both Int := t.map fun x => min x 0

/-- A withdrawal of positive torque from the GRANT RECORD (R61). -/
def withdrawPositive (s : State) : State := setTorque (withoutPositive s.engine.grant.torque) s

/-! ### Trips (sections 7.2 and 7.3) -/

/-- TRIP_OUT_N set as R137 states, as part of a change of level or mode. -/
def refreshLine (s : State) : State := s.withTripOut (lineAsserted s.mode s.trips.level)

/-- The FAULT RECORD of a first latch (R141). -/
def newRecord (c : TripCode) (detail : Option Int) (s : State) : FaultRecord :=
  { code := c, cleared := false, first := s.stamp, last := s.stamp, occurrences := 1,
    refSpeed := refSpeedOr0 s.intake, gridTemp := s.thermal.grid.map (·.effective), detail := detail }

/-- A list of 16 records without its oldest CLEARED one; a shorter list as it is (R143). -/
def makeRoom (faults : List FaultRecord) : List FaultRecord :=
  if faults.length < 16 then faults else faults.eraseP (·.cleared)

/-- The overflow count after room has been made: one more when a record was dropped, holding at 255 (R143). -/
def overflowAfter (faults : List FaultRecord) (overflow : Nat) : Nat :=
  if (makeRoom faults).length < faults.length then saturate 255 overflow else overflow

/-- The TRIP UNIT after latching code `c` with record `r` (R138, steps 1 to 3). -/
def latchedTrips (c : TripCode) (r : FaultRecord) (t : Trips) : Trips :=
  { latched := t.latched.set c true, level := levelOf (t.latched.set c true), faults := makeRoom t.faults ++ [r],
    overflow := overflowAfter t.faults t.overflow }

/-- The ALLOCATION ENGINE told of the latch of code `c` by the trip level `before` it: class D zeroes the torques (R60),
a rise from NONE to P withdraws positive torque (R61, R135). -/
def tellEngineOfLatch (c : TripCode) (before : TripLevel) (s : State) : State :=
  if c.classD then zeroTorque s
  else if before = .none then withdrawPositive s
  else s

/-- A raise of a code that is not latched (R138). -/
def latchTrip (c : TripCode) (detail : Option Int) (s : State) : State :=
  refreshLine (tellEngineOfLatch c s.trips.level (s.withTrips (latchedTrips c (newRecord c detail s) s.trips)))

/-- The ACTIVE record of code `c` with a further occurrence at `stamp`; any other record as it is (R139). -/
def mergeRecord (c : TripCode) (stamp : BitVec 32) (r : FaultRecord) : FaultRecord :=
  if r.code = c ∧ r.cleared = false then { r with occurrences := saturate 255 r.occurrences, last := stamp } else r

/-- A raise of a code that is latched (R139). -/
def mergeTrip (c : TripCode) (s : State) : State :=
  s.withTrips { s.trips with faults := s.trips.faults.map (mergeRecord c s.stamp) }

/-- An owner raises a condition (R138, R139). -/
def raiseTrip (c : TripCode) (detail : Option Int) (s : State) : State :=
  if s.trips.latched.get c then mergeTrip c s else latchTrip c detail s

/-- The state with the present mark of `c` set to `b`. -/
def markPresent (c : TripCode) (b : Bool) (s : State) : State := s.withPresent (s.present.set c b)

/-- An owner judges its condition: the present mark follows, and a condition that goes from absent to present is raised
(R40, R134). -/
def judgeCondition (c : TripCode) (now : Bool) (detail : Option Int) (s : State) : State :=
  if now && !s.present.get c then raiseTrip c detail (markPresent c now s) else markPresent c now s

/-! ### The steering reserve (R77, R78) -/

/-- The steering reserve of a demand, an L2 freshness and a row 18 (R77). -/
def reserveOf (im : Image) (l2 : Freshness) (pressure : Nat) : Nat :=
  if l2 = .stale then steerResHi im
  else if pressure < steerLow im then steerResHi im
  else if pressure < steerOk im then steerResLo im
  else 0

/-- The steering reserve in force formed afresh (R78). -/
def formReserve (s : State) : State :=
  s.withTraction { s.traction with
    reserve := reserveOf s.store.image s.intake.l2 (demandInForce s.intake).pressure }

/-! ### The head effective speed (R122 to R124) -/

/-- The sustainable speed of a grade (R122). -/
def sustainableSpeed (im : Image) (gd payload : Nat) (grade : Int) : Nat :=
  let mass := emptyMass im + payload
  let gnet := -grade - (rollingResistance im : Int)
  let power := pGridCont im * gd / 1000
  if gnet ≤ 0 then 7000 else min 7000 (power * 36000000 / (mass * gnet.toNat * 981))

/-- The head effective speed and its flags, from the target and the sustainable speed (R123). -/
def headLimitOf (target sustainable : Nat) : HeadLimit :=
  { speed := max 300 (min target sustainable)
    derated := decide (sustainable < target)
    infeasible := decide (sustainable < 300) }

/-- The head limit of the segment `seg` in the state as it stands (R122, R123). -/
def headLimitNow (s : State) (seg : Segment) : HeadLimit :=
  headLimitOf seg.target (sustainableSpeed s.store.image s.thermal.gd s.intake.payload seg.grade)

/-- The planner's recompute: while the plan is ACTIVE the head limit is formed afresh for the HEAD (R124). -/
def recomputeHead (s : State) : State :=
  match s.planner.state, s.planner.queue with
  | .active, seg :: _ => s.withPlanner { s.planner with head := some (headLimitNow s seg) }
  | _, _ => s

/-! ### The latched payload (R30, R31) -/

/-- The latched payload set: a new value is handed to the planner, and a band that becomes 7 withdraws positive torque
(R30, R31, R61). -/
def latchPayload (payload : Nat) (s : State) : State :=
  if s.intake.payload = payload then s
  else
    let t := recomputeHead (s.withIntake { s.intake with payload := payload })
    if overloadHold t.intake then withdrawPositive t else t

/-! ### The swap (R182, R183) -/

/-- The staged image installed as one change (R182): entries and source NV, programmer IDLE, buffer empty; a swap of row
18 re-forms the steering reserve (R183). -/
def swapRow (st : StagedRow) (s : State) : State :=
  let t := s.withStore { s.store with
    image := s.store.image.setIfInBounds st.row ⟨st.entries, .nv⟩, programmer := .idle, stage := none }
  if st.row = 18 then formReserve t else t

/-- The swap, where its three conditions hold (R182). -/
def trySwap (s : State) : State :=
  match s.store.stage with
  | some st =>
    if s.store.programmer = .swapPending ∧ s.mode = .parked ∧ s.engine.pass = none then swapRow st s else s
  | none => s

/-! ### The mode (R133, R137) -/

/-- The mode set, with what a change hands on: a change that leaves DRIVE withdraws positive torque, an entry to PARKED
is handed to the TABLE STORE, and TRIP_OUT_N follows (R133, R137). -/
def changeMode (m : Mode) (s : State) : State :=
  if s.mode = m then s
  else
    let t := refreshLine (s.withMode m)
    let t := if s.mode = .drive then withdrawPositive t else t
    if m = .parked then trySwap t else t

end Sys2Proof.Machine
end

