-- ==== Sys2Proof/Machine/Layouts.lean ====
section
/-! DEFINITION. The byte layouts of replies and of the records they carry (R152, R162 to R167). -/

namespace Sys2Proof.Machine

/-! ### Absent values (R164) -/

/-- An unsigned speed or setpoint, 65535 while absent. -/
def speedBytes (x : Option Nat) : List Byte := unsignedBytes (x.getD 65535)

/-- A signed figure, −32768 while absent (R164; DEDUCED, log 17). -/
def figureBytes (x : Option Int) : List Byte := signedBytes (x.getD (-32768))

/-- A band or row number, 255 while absent. -/
def bandByte (x : Option Nat) : List Byte := oneByte (x.getD 255)

/-- A map of 24 bits, high byte first. -/
def map24Bytes (n : Nat) : List Byte := oneByte (n / 65536) ++ unsignedBytes (n % 65536)

/-! ### Frames (R152) -/

/-- The characters of a request frame after its MARKER CHARACTER, CHECK BYTE included. -/
def requestCharacters (address code : Byte) (payload : List Byte) : List Byte :=
  let body := [code, BitVec.ofNat 8 payload.length] ++ payload
  body ++ [checkByte (address :: body)]

/-- The bytes of a reply frame: address, code echoed, result, length, payload, CHECK BYTE. -/
def replyFrame (r : Reply) : List Byte :=
  let body := [r.address, r.code] ++ oneByte r.body.result.code ++ oneByte r.body.payload.length ++ r.body.payload
  body ++ [checkByte body]

/-! ### L1 (Tables 8-1 and 8-2) -/

/-- The MEASUREMENT RECORD as stored, in the layout of Table 8-1. -/
def measurementBytes (m : MeasurementRecord) : List Byte :=
  signedBytes m.wheelSpeed.left ++ signedBytes m.wheelSpeed.right ++ unsignedBytes m.refSpeed ++
    signedBytes m.achieved.left ++ signedBytes m.achieved.right ++ signedBytes m.winding.left ++
    signedBytes m.winding.right ++ unsignedBytes m.gridPower ++ signedBytes m.gridSensor ++ unsignedBytes m.voltage ++
    signedBytes m.ambient ++ oneByte (bitsByte [m.blower, m.inverterFault.left, m.inverterFault.right])

/-- The GRANT RECORD with the trip level and mode filled in (Table 8-2, R59). -/
def grantBytes (g : GrantRecord) (level : TripLevel) (mode : Mode) : List Byte :=
  wordBytes g.sequence ++ signedBytes g.torque.left ++ signedBytes g.torque.right ++
    unsignedBytes g.propelLimit.left ++ unsignedBytes g.propelLimit.right ++
    unsignedBytes g.retardLimit.left ++ unsignedBytes g.retardLimit.right ++ unsignedBytes g.speedLimit ++
    oneByte (bitsByte [g.boost.left, g.boost.right, g.tractionReduced.left, g.tractionReduced.right, g.powerLimited,
      g.speedLimited]) ++
    oneByte (g.regime.code + 4 * level.code + 16 * mode.code)

/-- The GRANT RECORD reply formed from the state as it stands. -/
def grantReply (s : State) : ReplyBody := ⟨.ok, grantBytes s.engine.grant s.trips.level s.mode⟩

/-- The seven counters in their order (R161). -/
def counterBytes (c : Counters) : List Byte :=
  unsignedBytes c.goodFrames ++ unsignedBytes c.checkFailures ++ unsignedBytes c.framingErrors ++
    unsignedBytes c.gapTimeouts ++ unsignedBytes c.lengthErrors ++ unsignedBytes c.misaddressed ++
    unsignedBytes c.superseded

/-- The LINK_STATUS payload of port `p` (R162). -/
def linkStatusBytes (p : PortId) (s : State) : List Byte :=
  counterBytes (s.port p).counters ++ oneByte s.intake.l1.code ++ oneByte s.intake.l2.code ++ oneByte s.mode.code ++
    oneByte s.trips.level.code

/-! ### L2 (Tables 8-4 to 8-6) -/

/-- The CHASSIS STATUS RECORD (Table 8-4, R149). -/
def statusBytes (s : State) : List Byte :=
  oneByte s.mode.code ++ oneByte s.trips.level.code ++ unsignedBytes (tripMap s.trips.latched) ++
    unsignedBytes s.engine.speedLimit ++ oneByte s.engine.source.code ++
    unsignedBytes (s.engine.grant.retardLimit.left + s.engine.grant.retardLimit.right) ++
    figureBytes (s.thermal.grid.map (·.effective)) ++ bandByte (s.thermal.grid.map (·.band)) ++
    oneByte s.planner.state.code ++ oneByte s.planner.queue.length ++ speedBytes (s.planner.head.map (·.speed)) ++
    oneByte (bitsByte [(s.planner.head.map (·.derated)).getD false, (s.planner.head.map (·.infeasible)).getD false,
      overloadHold s.intake, s.intake.directionHeld, envelopeLimp s.store.image]) ++
    unsignedBytes s.intake.payload ++ oneByte (payloadBand s.intake) ++ unsignedBytes s.traction.reserve ++
    oneByte s.intake.l1.code

/-- The PLAN SUMMARY (Table 8-6, R111). -/
def planSummary (p : Planner) : List Byte :=
  oneByte p.state.code ++ oneByte p.queue.length ++ speedBytes (p.head.map (·.speed)) ++
    oneByte (bitsByte [(p.head.map (·.derated)).getD false, (p.head.map (·.infeasible)).getD false])

/-- A SEGMENT RECORD as sent (Table 8-3). -/
def segmentBytes (seg : Segment) : List Byte :=
  unsignedBytes seg.length ++ signedBytes seg.grade ++ unsignedBytes seg.target ++ oneByte seg.surface.code

/-- The HEAD as sent: seven bytes of 0 when absent (R164). -/
def headBytes (queue : List Segment) : List Byte :=
  match queue with
  | [] => List.replicate 7 0
  | seg :: _ => segmentBytes seg

/-- The PLAN_READ payload (Table 8-6, R116). -/
def planReadBytes (p : Planner) : List Byte :=
  planSummary p ++ headBytes p.queue ++ longBytes (BitVec.ofNat 32 p.progress) ++ unsignedBytes p.completed ++
    unsignedBytes p.abandoned

/-- The TRIP_CLEAR payload: the latched-trip map (Table 8-6). -/
def tripMapBytes (s : State) : List Byte := unsignedBytes (tripMap s.trips.latched)

/-- A FAULT RECORD (Table 8-5). -/
def faultBytes (r : FaultRecord) : List Byte :=
  oneByte r.code.number ++
    oneByte (bitsByte [r.code.classD, r.cleared, r.detail.isSome, r.gridTemp.isSome]) ++
    longBytes r.first ++ longBytes r.last ++ oneByte r.occurrences ++ unsignedBytes r.refSpeed ++
    signedBytes (r.gridTemp.getD 0) ++ signedBytes (r.detail.getD 0)

/-- The FAULT_READ payload from a start position (Table 8-6, R147). -/
def faultReadBytes (start : Nat) (t : Trips) : List Byte :=
  oneByte t.faults.length ++ oneByte t.overflow ++ ((t.faults.drop start).take 2).flatMap faultBytes

/-! ### L3 (Tables 8-7 and 8-8) -/

/-- The entries of a row as read back: entries 0 to 3 of row 22 as 0 (R15, R175). -/
def shownEntries (r : Nat) (row : Row) : List Word :=
  if r = 22 then [0, 0, 0, 0] ++ row.toList.drop 4 else row.toList

/-- The ROW_READ payload (Table 8-7, R175). -/
def rowReadBytes (r : Nat) (t : Store) : List Byte :=
  oneByte r ++ oneByte (bitsByte [rowIsLimp t.image r, decide (pendingRow t = some r)]) ++
    (shownEntries r (imageRow t.image r)).flatMap wordBytes

/-- The STORE_STATUS payload (Table 8-7, R185). -/
def storeStatusBytes (t : Store) : List Byte :=
  oneByte t.programmer.code ++ bandByte (t.stage.map (·.row)) ++ bandByte (pendingRow t) ++
    map24Bytes (rowMap (isSuspect t)) ++ map24Bytes (limpMap t.image) ++ unsignedBytes t.writeFail ++
    oneByte (bitsByte [storeFault t])

/-- The COUNTERS_READ payload (Table 8-7, R186). -/
def countersReadBytes (s : State) : List Byte :=
  counterBytes s.portL1.counters ++ counterBytes s.portL2.counters ++ counterBytes s.portL3.counters

/-- One wheel of MODEL_READ page 0 (Table 8-8). -/
def motorBytes (m : Motor) : List Byte :=
  oneByte (16 * m.hold.code + m.holdCount) ++ figureBytes m.temp ++
    oneByte (16 * m.boost.state.code + m.band.getD 15) ++ unsignedBytes m.md ++ unsignedBytes m.boost.count

/-- MODEL_READ page 0 (Table 8-8). -/
def modelPage0 (s : State) : List Byte :=
  figureBytes (s.thermal.grid.map (·.g)) ++ figureBytes (s.thermal.grid.map (·.effective)) ++
    bandByte (s.thermal.grid.map (·.band)) ++ unsignedBytes s.thermal.gd ++
    motorBytes s.thermal.motor.left ++ motorBytes s.thermal.motor.right ++
    unsignedBytes s.traction.tf.left ++ unsignedBytes s.traction.tf.right ++ unsignedBytes s.intake.standstill ++
    longBytes (BitVec.ofNat 32 s.planner.progress) ++ speedBytes (s.intake.fallback.map (·.setpoint)) ++
    oneByte (16 * s.engine.excess.left + s.engine.excess.right) ++ oneByte s.traction.pressureCount ++
    unsignedBytes s.planner.shortfall ++ unsignedBytes s.engine.speedLimit ++ oneByte s.engine.source.code ++
    longBytes s.stamp

/-- MODEL_READ page 1 (Table 8-7). -/
def modelPage1 (s : State) : List Byte :=
  match s.intake.measurement with
  | none => List.replicate 25 0
  | some m =>
    [1] ++ measurementBytes m ++
      oneByte (bitsByte [m.windingValid.left, m.windingValid.right, m.gridSensorValid])

/-- A figure below 100 in decimal digits, each by its ASCII code (PRESUMED, log 20). -/
def decimalBytes (n : Nat) : List Byte :=
  if n < 10 then oneByte (48 + n) else oneByte (48 + n / 10) ++ oneByte (48 + n % 10)

/-- Characters as bytes, each by its ASCII code: the manual says only that the reply is a text (PRESUMED, log 20). -/
def textBytes (cs : List Char) : List Byte := cs.map fun c => BitVec.ofNat 8 c.toNat

/-- The IDENT_READ text (R187): vendor, part, rev and limp. The revision letter is a free value (DESIGN CHOICE, log
13), sent by its ASCII code as a capital (PRESUMED, log 20). -/
def identBytes (im : Image) : List Byte :=
  textBytes ['v', 'e', 'n', 'd', 'o', 'r', ':', 'U', 's', 't', 'o', 'p', 'a', 'l', ';'] ++
    textBytes ['p', 'a', 'r', 't', ':', 'W', 'e', 'f', 't', 'a', 'n', ' ', '4', '4', '0', ';'] ++
    textBytes ['r', 'e', 'v', ':'] ++ oneByte (65 + Config.revisionLetter.val) ++
    textBytes [';', 'l', 'i', 'm', 'p', ':'] ++ decimalBytes (limpCount im)

end Sys2Proof.Machine
end

