-- ==== Sys2Proof/Machine/Characters.lean ====
section
/-! DEFINITION. The characters of the links (R151): eleven bits each, written and read, and what the line carries between
them. -/

namespace Sys2Proof.Machine

/-- A level of the line. -/
inductive Level where
  | space
  | mark
deriving DecidableEq, Repr

/-- Eleven bits of the line in the order they are sent (R151): start bit, data bits 0 to 7, marker bit, stop bit. -/
abbrev Character := Vector Level 11

/-- A character time in bit times, on every port (R151). -/
def characterTime : Nat := 11

/-- The level a bit is sent at: a 1 at mark, a 0 at space (PRESUMED, log 23). -/
def lineLevel (bit : Bool) : Level := if bit then .mark else .space

/-- A level as a bit (PRESUMED, log 23). -/
def bitOf (l : Level) : Bool := decide (l = .mark)

/-- The character of byte `b` with marker bit `marker`: start bit at space, data bits least significant bit first, marker bit,
stop bit at mark (R151). -/
def writeCharacter (marker : Bool) (b : Byte) : Character :=
  #v[.space, lineLevel (b.getLsbD 0), lineLevel (b.getLsbD 1), lineLevel (b.getLsbD 2), lineLevel (b.getLsbD 3),
    lineLevel (b.getLsbD 4), lineLevel (b.getLsbD 5), lineLevel (b.getLsbD 6), lineLevel (b.getLsbD 7), lineLevel marker, .mark]

/-- What a port takes eleven bits of the line for (R151). -/
inductive Received where
  /-- A MARKER CHARACTER: its data byte is a station address. -/
  | marker (address : Byte)
  /-- A data character. -/
  | data (byte : Byte)
  /-- The stop bit reads space. -/
  | framingError
  /-- The line has stayed at space from the start bit through the stop bit: no framing error, but a break. -/
  | heldAtSpace
deriving DecidableEq, Repr

/-- The data byte of a character, least significant bit first (R151). -/
def dataByte (bits : Character) : Byte := BitVec.ofNat 8 (bitsByte (((bits.toList.drop 1).take 8).map bitOf))

/-- Eleven bits of the line read (R151); none where the first is at mark, for there a character does not start. -/
def readCharacter (bits : Character) : Option Received :=
  if bits[0] = .mark then none
  else if bits[10] = .mark then some (if bits[9] = .mark then .marker (dataByte bits) else .data (dataByte bits))
  else if bits.toList.all fun l => decide (l = .space) then some .heldAtSpace
  else some .framingError

/-- The characters of a frame from its bytes, the address first: a MARKER CHARACTER, then data characters (R151, R152). -/
def frameCharacters : List Byte → List Character
  | [] => []
  | address :: rest => writeCharacter true address :: rest.map (writeCharacter false)

/-- The characters of a reply (R152). -/
def replyLine (r : Reply) : List Character := frameCharacters (replyFrame r)

/-- What the line of a port carries, one item after the other (DESIGN CHOICE, log 22). -/
inductive LineItem where
  /-- Eleven bits from a start bit on. -/
  | character (bits : Character)
  /-- The line at mark for so many bit times, from the end of a stop bit on. -/
  | atMark (bitTimes : Nat)
  /-- The line held at space for so many bit times, from the moment it went to space, bits of a character included. -/
  | atSpace (bitTimes : Nat)
deriving DecidableEq, Repr

/-- The command that the line held at space brings about, by its length (R151, R159, R160): none below one character time, a
short break below three, else a long break. -/
def breakCommand (p : PortId) (bitTimes : Nat) : Option Instr :=
  if bitTimes < characterTime then none
  else if bitTimes < 3 * characterTime then some (.shortBreak p)
  else some (.longBreak p)

/-- The command that a gap brings about: one of more than 3 character times (R154, R155). -/
def gapCommand (p : PortId) (bitTimes : Nat) : Option Instr :=
  if 3 * characterTime < bitTimes then some (.gapTimeout p) else none

end Sys2Proof.Machine
end

