-- ==== Sys2Proof/Decode.lean ====
section
/-! DEFINITION. What a word of the opcode table spells, and what a request frame and the line of a port spell.

The rows of spec/opcode_table.json carry no bits, so no word spells a command. The part's own encoding is the request
frame of R152 with the codes of R156, in the characters of R151: it is read and written here. -/

namespace Sys2Proof

/-- The command that a word spells by the table's bits: none, since no row of the table gives bits (DEDUCED, log 14). -/
def decodeTableWord (_nbits _w : Nat) : Option Instr := none

namespace Machine

/-- The command that a sound frame with `code` and `payload` is on port `p` (R156): a code the port does not list is an
unknown request. -/
def requestOf (p : PortId) (code : Byte) (payload : List Byte) : Instr :=
  if !isListed p code then .unknownRequest p code payload
  else if code = 0x10 then .measure payload
  else if code = 0x11 then .grantRead payload
  else if code = 0x1F then .linkStatus p payload
  else if code = 0x20 then .demand payload
  else if code = 0x21 then .planAppend payload
  else if code = 0x22 then .planStart payload
  else if code = 0x23 then .planClear payload
  else if code = 0x24 then .planRead payload
  else if code = 0x25 then .tripClear payload
  else if code = 0x26 then .faultRead p payload
  else if code = 0x30 then .access payload
  else if code = 0x31 then .logout payload
  else if code = 0x32 then .rowRead payload
  else if code = 0x33 then .rowStage payload
  else if code = 0x34 then .rowCommit payload
  else if code = 0x35 then .storeStatus payload
  else if code = 0x36 then .faultAck payload
  else if code = 0x37 then .countersRead payload
  else if code = 0x38 then .modelRead payload
  else if code = 0x39 then .identRead payload
  else .restart payload

/-- The port, code and payload of the frame that a request command stands for; none for a command that is no sound
request frame (R156). -/
def frameOf : Instr → Option (PortId × Byte × List Byte)
  | .unknownRequest p code payload => some (p, code, payload)
  | .measure payload => some (.l1, 0x10, payload)
  | .grantRead payload => some (.l1, 0x11, payload)
  | .linkStatus p payload => some (p, 0x1F, payload)
  | .demand payload => some (.l2, 0x20, payload)
  | .planAppend payload => some (.l2, 0x21, payload)
  | .planStart payload => some (.l2, 0x22, payload)
  | .planClear payload => some (.l2, 0x23, payload)
  | .planRead payload => some (.l2, 0x24, payload)
  | .tripClear payload => some (.l2, 0x25, payload)
  | .faultRead p payload => some (p, 0x26, payload)
  | .access payload => some (.l3, 0x30, payload)
  | .logout payload => some (.l3, 0x31, payload)
  | .rowRead payload => some (.l3, 0x32, payload)
  | .rowStage payload => some (.l3, 0x33, payload)
  | .rowCommit payload => some (.l3, 0x34, payload)
  | .storeStatus payload => some (.l3, 0x35, payload)
  | .faultAck payload => some (.l3, 0x36, payload)
  | .countersRead payload => some (.l3, 0x37, payload)
  | .modelRead payload => some (.l3, 0x38, payload)
  | .identRead payload => some (.l3, 0x39, payload)
  | .restart payload => some (.l3, 0x3A, payload)
  | _ => none

/-- The command that the data characters after an own-address MARKER CHARACTER spell on port `p` (R152, R155, R156): a
length byte above 48, a failed check, or a request; none while the frame is not complete, or where characters follow the
CHECK BYTE. -/
def decodeFrame (p : PortId) (address : Byte) (characters : List Byte) : Option Instr :=
  match characters with
  | code :: length :: rest =>
    if maxPayload < length.toNat then some (.lengthError p length)
    else if rest.length ≠ length.toNat + 1 then none
    else
      let payload := rest.take length.toNat
      let check := byteAt rest length.toNat
      if byteSum (address :: characters) = 0 then some (requestOf p code payload)
      else some (.checkFailure p code payload check)
  | _ => none

/-- The data characters of a request command's frame, CHECK BYTE included, for the station address it is sent to
(R152). -/
def encodeFrame (address : Byte) (i : Instr) : Option (List Byte) :=
  (frameOf i).map fun f => requestCharacters address f.2.1 f.2.2

/-! ### The line of a port (R151, R152, R154, R155) -/

/-- The frame being collected from the line: the address of its MARKER CHARACTER and its data bytes so far. -/
abbrev Collected := Byte × List Byte

/-- The next data byte of the frame being collected: the command it ends the frame with, if any, and what is collected
then. A data character outside a frame is discarded (R154, R155, R156). -/
def hearData (p : PortId) (b : Byte) : Option Collected → Option Instr × Option Collected
  | none => (none, none)
  | some (address, bytes) =>
    match decodeFrame p address (bytes ++ [b]) with
    | some c => (some c, none)
    | none => (none, some (address, bytes ++ [b]))

/-- A character on the line of port `p` (R151, R154, R155): a marker bit of 1 makes it a MARKER CHARACTER, which begins a frame,
a marker bit of 0 a data character; a stop bit at space is a framing error, which ends the frame, but with the line at space
throughout it is the break that its length makes it. -/
def hearCharacter (p : PortId) (bits : Character) (frame : Option Collected) : Option Instr × Option Collected :=
  match readCharacter bits with
  | some (.marker address) => (some (.markerCharacter p address), some (address, []))
  | some (.data b) => hearData p b frame
  | some .framingError => (some (.framingError p), none)
  | some .heldAtSpace => (none, frame)
  | none => (none, frame)

/-- One item of the line: the command it brings about, if any, and the frame being collected after it. A gap or a break that
is a command ends the frame (R155). -/
def hearItem (p : PortId) (x : LineItem) (frame : Option Collected) : Option Instr × Option Collected :=
  match x with
  | .character bits => hearCharacter p bits frame
  | .atMark n => (gapCommand p n, if (gapCommand p n).isSome then none else frame)
  | .atSpace n => (breakCommand p n, if (breakCommand p n).isSome then none else frame)

/-- The commands that the line of port `p` spells, in their order, with the frame being collected given (DESIGN CHOICE, log
22). -/
def commandsOf (p : PortId) : Option Collected → List LineItem → List Instr
  | _, [] => []
  | frame, x :: rest => (hearItem p x frame).1.toList ++ commandsOf p (hearItem p x frame).2 rest

/-- The line that carries a request command's frame to the station `address` (R151, R152). -/
def requestLine (address : Byte) (i : Instr) : Option (List LineItem) :=
  (encodeFrame address i).map fun characters => (frameCharacters (address :: characters)).map .character

end Machine

end Sys2Proof
end

