-- ==== Sys2Proof/Machine/Planner.lean ====
section
/-! DEFINITION. The DESCENT PLANNER (file 06): the plan queue, travelling the plan, overspeed and retard shortfall. -/

namespace Sys2Proof.Machine

/-! ### Ending and emptying the plan -/

/-- The plan with an empty queue, state EMPTY, progress 0, head absent and flags clear; its counts kept (R115). -/
def clearedPlan (p : Planner) : Planner :=
  { p with queue := [], state := .empty, progress := 0, head := none }

/-! ### Appending (R112, R113) -/

/-- The surface a segment is stored with, by the surface of the tail before it (R113). -/
def resolveSurface (tail : Option Surface) (carried : Option Surface) : Surface :=
  match carried, tail with
  | some x, _ => x
  | none, some x => x
  | none, none => .dry

/-- The segments of a request with their surfaces resolved in order, by the surface at the tail before them (R113). -/
def resolveSegments (tail : Option Surface) : List WireSegment → List Segment
  | [] => []
  | seg :: rest =>
    let surface := resolveSurface tail seg.surface
    ⟨seg.length, seg.grade, seg.target, surface⟩ :: resolveSegments (some surface) rest

/-- The surface of the segment at the tail of a queue. -/
def tailSurface (queue : List Segment) : Option Surface := queue.getLast?.map (·.surface)

/-- The plan with the segments of an accepted PLAN_APPEND added (R113). -/
def appendSegments (segs : List WireSegment) (p : Planner) : Planner :=
  { p with
    queue := p.queue ++ resolveSegments (tailSurface p.queue) segs
    state := if p.state = .empty then .loaded else p.state }

/-! ### Travelling (R118, R119) -/

/-- What a segment of this length needs of progress (R119). -/
def segmentNeed (seg : Segment) : Nat := seg.length * 3600

/-- The queue and progress after every HEAD the progress has finished is removed, with carry (R119). -/
def advanceQueue : List Segment → Nat → List Segment × Nat
  | [], progress => ([], progress)
  | seg :: rest, progress =>
    if segmentNeed seg ≤ progress then advanceQueue rest (progress - segmentNeed seg) else (seg :: rest, progress)

/-- The HEAD advanced while the progress has reached its need (R119): with no segment left the plan ends and is counted
completed, otherwise a new HEAD's limit is computed. -/
def advancePlan (s : State) : State :=
  match s.planner.state, s.planner.queue with
  | .active, seg :: rest =>
    if segmentNeed seg ≤ s.planner.progress then
      match advanceQueue (seg :: rest) s.planner.progress with
      | ([], _) =>
        s.withPlanner { clearedPlan s.planner with completed := saturate 65535 s.planner.completed }
      | (queue, progress) => recomputeHead (s.withPlanner { s.planner with queue := queue, progress := progress })
    else s
  | _, _ => s

/-- The conditions under which an expiry adds to the progress (R118). -/
def planMoves (s : State) : Bool :=
  decide (s.planner.state = .active) && decide (s.intake.direction = .forward) && decide (s.intake.l1 = .fresh)

/-- The reference speed added to the progress (R118). -/
def addProgress (s : State) : State :=
  if planMoves s then
    s.withPlanner { s.planner with progress := s.planner.progress + refSpeedOr0 s.intake }
  else s

/-- The progress of an expiry, then the advance (R118, R119). -/
def travelPlan (s : State) : State := advancePlan (addProgress s)

/-! ### A change of the held direction (R120) -/

/-- The planner handed a new held direction: REVERSE abandons an ACTIVE plan (R120). -/
def planDirection (d : Direction) (s : State) : State :=
  if d = .reverse ∧ s.planner.state = .active then
    s.withPlanner { clearedPlan s.planner with abandoned := saturate 65535 s.planner.abandoned }
  else s

/-! ### Overspeed (R125) -/

/-- OVERSPEED judged at an accepted MEASURE (R125). -/
def judgeOverspeed (m : MeasurementRecord) (s : State) : State :=
  judgeCondition .overspeed (decide (overspeedAbs s.store.image < m.refSpeed)) (some m.refSpeed) s

/-! ### Retard shortfall (R126, R127) -/

/-- The conditions under which the shortfall count runs (R126). -/
def shortfallRuns (s : State) : Bool :=
  decide (s.intake.l1 = .fresh) && decide (s.engine.grant.regime = .retard) && decide (s.engine.retardFraction = 1000) &&
    decide (s.engine.speedLimit + shortfallMargin s.store.image < refSpeedOr0 s.intake)

/-- The shortfall count after an expiry (R126). -/
def shortfallAfter (s : State) : Nat :=
  if shortfallRuns s then min (s.planner.shortfall + 1) (shortfallIntervals s.store.image) else 0

/-- The expiry brings the shortfall count to SHORTFALL_INTERVALS from another figure (R127); a count that a swap has left
above SHORTFALL_INTERVALS and the expiry sets to it included (DEDUCED, log 19). -/
def shortfallReaches (s : State) : Bool :=
  decide (shortfallAfter s = shortfallIntervals s.store.image) &&
    decide (s.planner.shortfall ≠ shortfallIntervals s.store.image)

/-- The shortfall count stepped and RETARD_SHORTFALL judged at an expiry: present when the count reaches
SHORTFALL_INTERVALS, absent when it is set to 0, else as it was (R126, R127). -/
def stepShortfall (s : State) : State :=
  let n := shortfallAfter s
  let now := if n = 0 then false else shortfallReaches s || s.present.retardShortfall
  judgeCondition .retardShortfall now (some (refSpeedOr0 s.intake))
    (s.withPlanner { s.planner with shortfall := n })

/-- The DESCENT PLANNER at an interval expiry (R118, R119, R126). -/
def plannerAtExpiry (s : State) : State := stepShortfall (travelPlan s)

end Sys2Proof.Machine
end

