-- ==== Sys2Proof/Machine/Intake.lean ====
section
/-! DEFINITION. The INTAKE UNIT (file 02) and the drive modes that a DEMAND moves (file 07, section 7.1). -/

namespace Sys2Proof.Machine

/-! ### Taking a MEASURE (R22) -/

/-- The INTAKE UNIT's state after steps 1 to 3 of R22: record, L1 FRESH with its counter reloaded, standstill counter.
-/
def intakeWithMeasure (im : Image) (m : MeasurementRecord) (i : Intake) : Intake :=
  { i with
    measurement := some m
    l1 := .fresh
    l1Count := l1Timeout im
    standstill := if 50 ≤ m.refSpeed then 0 else i.standstill }

/-- The INTAKE UNIT at an accepted MEASURE (R22): steps 1 to 3 with PROP_LINK_LOST absent (R34), then DC_LINK_OVERVOLT
and INVERTER_FAULT judged (R41, R42). Where one MEASURE brings both, DC_LINK_OVERVOLT is raised first: R140 leaves the order
open (DESIGN CHOICE, log 8). -/
def intakeAtMeasure (m : MeasurementRecord) (s : State) : State :=
  let t := markPresent .propLinkLost false (s.withIntake (intakeWithMeasure s.store.image m s.intake))
  let t := judgeCondition .dcLinkOvervolt (decide (dcOv t.store.image < m.voltage)) (some m.voltage) t
  judgeCondition .inverterFault (m.inverterFault.left || m.inverterFault.right) (some (inverterDetail m.inverterFault)) t

/-! ### Taking a DEMAND (R26) -/

/-- The INTAKE UNIT's state after steps 1 and 2 of R26: record, L2 FRESH with its counter reloaded, fallback ended. -/
def intakeWithDemand (im : Image) (d : DemandRecord) (i : Intake) : Intake :=
  { i with demand := d, l2 := .fresh, l2Count := l2Timeout im, fallback := none, grace := 0 }

/-- The mode after a change of held direction to `d` (R132). -/
def modeByDirection (m : Mode) (d : Direction) : Mode :=
  match m, d with
  | .ready, .forward => .drive
  | .ready, .reverse => .drive
  | .drive, .neutral => .ready
  | m, _ => m

/-- The mode after the park flag of a DEMAND, by the held direction and the reference speed (R131). -/
def modeByPark (m : Mode) (park : Bool) (i : Intake) : Mode :=
  match m, park with
  | .startup, _ => .startup
  | .parked, false => if i.direction = .neutral then .ready else .drive
  | .parked, true => .parked
  | m, true => if isMoving i then m else .parked
  | m, false => m

/-- A new held direction, handed to the planner and to the MODE CONTROLLER (R28, R120, R132). -/
def handDirection (d : Direction) (s : State) : State :=
  let t := planDirection d (s.withIntake { s.intake with direction := d, directionHeld := false })
  changeMode (modeByDirection t.mode d) t

/-- The demanded direction judged against the held direction (R28). -/
def judgeDirection (d : Direction) (s : State) : State :=
  if d = s.intake.direction then s.withIntake { s.intake with directionHeld := false }
  else if atStandstill s.intake then handDirection d s
  else s.withIntake { s.intake with directionHeld := true }

/-- The latched payload at an event: the demanded payload once the standstill counter is at or above PAYLOAD_SETTLE,
else unchanged (R30). -/
def settlePayload (s : State) : State :=
  if payloadSettle s.store.image ≤ s.intake.standstill then latchPayload s.intake.demand.payload s else s

/-- The DEMAND handed to the MODE CONTROLLER: its park flag (R131). -/
def handPark (s : State) : State := changeMode (modeByPark s.mode s.intake.demand.park s.intake) s

/-- Positive torque withdrawn where the demand in force carries a brake flag (R61). -/
def withdrawOnBrake (s : State) : State := if brakeSet s.intake then withdrawPositive s else s

/-- An accepted DEMAND (R26): steps 1 and 2 with CHASSIS_LINK_LOST absent (R38, R39), the steering reserve (R78), a set
brake flag (R61), the direction (step 3), the payload (step 4), the park flag (R131). -/
def acceptDemand (d : DemandRecord) (s : State) : State :=
  let t := markPresent .chassisLinkLost false (s.withIntake (intakeWithDemand s.store.image d s.intake))
  handPark (settlePayload (judgeDirection d.direction (withdrawOnBrake (formReserve t))))

/-! ### The interval expiry (R29, R30, R32 to R39) -/

/-- L1 goes STALE: PROP_LINK_LOST is present and raised with no detail (R34). -/
def staleL1 (s : State) : State :=
  raiseTrip .propLinkLost none
    (markPresent .propLinkLost true (s.withIntake { s.intake with l1 := .stale, l1Count := 0 }))

/-- L1 freshness at an expiry (R32). -/
def countL1 (s : State) : State :=
  if s.intake.l1 = .fresh then
    if s.intake.l1Count ≤ 1 then staleL1 s else s.withIntake { s.intake with l1Count := s.intake.l1Count - 1 }
  else s

/-- The fallback setpoint as formed: the smaller of the reference speed (0 while absent) and the last SL, raised to 500
(R37). -/
def firstSetpoint (s : State) : Nat := max 500 (min (refSpeedOr0 s.intake) s.engine.speedLimit)

/-- The FALLBACK DEMAND formed from the DEMAND RECORD and the held direction (R36). -/
def formFallback (s : State) : FallbackDemand :=
  { lever := s.intake.demand.lever, direction := s.intake.direction, steer := s.intake.demand.steer,
    pressure := s.intake.demand.pressure, park := s.intake.demand.park, service := s.intake.demand.service,
    setpoint := firstSetpoint s }

/-- L2 goes STALE: the FALLBACK DEMAND is formed, the grace count is 0, and the steering reserve is formed afresh
(R36, R39, R78). -/
def staleL2 (s : State) : State :=
  formReserve (s.withIntake { s.intake with l2 := .stale, l2Count := 0, fallback := some (formFallback s), grace := 0 })

/-- The fallback setpoint lowered by STALE_DECEL to its floor of 500 (R37). -/
def lowerSetpoint (s : State) : State :=
  s.withIntake { s.intake with
    fallback := s.intake.fallback.map fun f => { f with setpoint := max 500 (f.setpoint - staleDecel s.store.image) } }

/-- The grace count stepped toward L2_GRACE, and CHASSIS_LINK_LOST judged: present once the count reaches it, the count
cut to a lowered L2_GRACE included (R39; DEDUCED, log 19). -/
def stepGrace (s : State) : State :=
  let n := min (s.intake.grace + 1) (l2Grace s.store.image)
  judgeCondition .chassisLinkLost (decide (l2Grace s.store.image ≤ n) || s.present.chassisLinkLost) none
    (s.withIntake { s.intake with grace := n })

/-- L2 freshness, the fallback setpoint and the grace count at an expiry (R32, R36, R37, R39). -/
def countL2 (s : State) : State :=
  match s.intake.l2 with
  | .never => s
  | .fresh => if s.intake.l2Count ≤ 1 then staleL2 s else s.withIntake { s.intake with l2Count := s.intake.l2Count - 1 }
  | .stale => stepGrace (lowerSetpoint s)

/-- The standstill counter after an expiry (R29). -/
def standstillAfter (i : Intake) : Nat :=
  if i.l1 = .fresh then
    if atStandstill i then saturate 65535 i.standstill else i.standstill
  else 0

/-- The standstill counter stepped at an expiry (R29). -/
def countStandstill (s : State) : State := s.withIntake { s.intake with standstill := standstillAfter s.intake }

/-- The INTAKE UNIT at an interval expiry: freshness first, then standstill, then the payload (R29, R30, R32). -/
def intakeAtExpiry (s : State) : State := settlePayload (countStandstill (countL2 (countL1 s)))

end Sys2Proof.Machine
end

