-- ==== Sys2Proof/Machine/Links.lean ====
section
/-! DEFINITION. The LINK PORTS (file 08): how a port takes a sound frame and owes a reply, and how it takes line
events. -/

namespace Sys2Proof.Machine

/-! ### Requests (R156, R157) -/

/-- A frame abandoned on its length byte (R155). -/
def abandonOnLength (p : PortId) (s : State) : State := setReceive p .ignoring (countOn p countLength s)

/-- The L3 port's notice of a sound frame to the TABLE STORE: the service idle count is set to 0 (R156, R174). -/
def noteSound (p : PortId) (s : State) : State :=
  match p with
  | .l3 => s.withStore { s.store with idleCount := 0 }
  | _ => s

/-- A sound frame: counted, noted, handed to its owner `handle`, and owed the reply the owner forms (R156, R157). An
owner that answers no body owes the reply until a pass forms it. -/
def takeSound (p : PortId) (address code : Byte) (handle : State → State × Option ReplyBody) (s : State) : State :=
  let answer := handle (noteSound p (countOn p countGood s))
  setReceive p (.replyPending address code answer.2) answer.1

/-- A request frame for `handle` completes on port `p` (R154 to R156): in ADDRESSED it is judged, with a length byte above
48 abandoned; in every other state its data characters are discarded (DESIGN CHOICE, log 5). -/
def serveRequest (p : PortId) (code : Byte) (payload : List Byte) (handle : State → State × Option ReplyBody)
    (s : State) : State :=
  match (s.port p).receive with
  | .addressed address =>
    if maxPayload < payload.length then abandonOnLength p s else takeSound p address code handle s
  | _ => s

/-- A reply with a result and no payload (R157). -/
def bare (r : Result) : ReplyBody := ⟨r, []⟩

/-- A request that changes nothing and is answered from the state as it stands, LENGTH unless its payload has `n`
bytes. -/
def answerRead (n : Nat) (payload : List Byte) (body : State → ReplyBody) (s : State) : State × Option ReplyBody :=
  (s, some (if payload.length = n then body s else bare .length))

/-- A code the port does not list: UNKNOWN, handed to no block (R156). -/
def answerUnknown (s : State) : State × Option ReplyBody := (s, some (bare .unknown))

/-! ### Line events (R154, R155, R158 to R160) -/

/-- A MARKER CHARACTER taken as the start of a frame (R153, R154). -/
def takeMarker (p : PortId) (address : Byte) (s : State) : State :=
  if address = stationAddress p s then setReceive p (.addressed address) s
  else if p = .l3 then setReceive p .ignoring s
  else setReceive p .ignoring (countOn p countMisaddressed s)

/-- The warm restart that follows an accepted RESTART's reply is still to be made: L3 starts no frame before it, so that no
ROW_COMMIT comes between the reply and the restart (R184, R188, DESIGN CHOICE, log 12). -/
def awaitsRestart (p : PortId) (s : State) : Bool := decide (p = .l3) && s.restartDue

/-- A MARKER CHARACTER in any receive state (R154, R155, R158). -/
def onMarker (p : PortId) (address : Byte) (s : State) : State :=
  if awaitsRestart p s then s
  else
    match (s.port p).receive with
    | .idle => takeMarker p address s
    | .ignoring => takeMarker p address s
    | .addressed _ => takeMarker p address (countOn p countFraming s)
    | .replyPending _ _ _ => takeMarker p address (countOn p countSuperseded s)
    | .replying _ => s

/-- A framing error in any receive state (R154, R155). -/
def onFramingError (p : PortId) (s : State) : State :=
  match (s.port p).receive with
  | .addressed _ => setReceive p .ignoring (countOn p countFraming s)
  | .replying _ => s
  | _ => countOn p countFraming s

/-- A gap of more than 3 character times (R154, R155). -/
def onGap (p : PortId) (s : State) : State :=
  match (s.port p).receive with
  | .addressed _ => setReceive p .idle (countOn p countGap s)
  | .ignoring => setReceive p .idle s
  | _ => s

/-- The length byte of a frame being collected (R155). -/
def onLength (p : PortId) (length : Byte) (s : State) : State :=
  match (s.port p).receive with
  | .addressed _ => if maxPayload < length.toNat then abandonOnLength p s else s
  | _ => s

/-- A short break, judged at the return to mark (R159). -/
def onShortBreak (p : PortId) (s : State) : State :=
  match (s.port p).receive with
  | .replying _ => s
  | .replyPending _ _ _ => countOn p countFraming s
  | _ => setReceive p .idle (countOn p countFraming s)

/-- A resynchronised port: IDLE, all seven counters 0 (R160). -/
def resync (p : PortId) (s : State) : State := s.withPort p .afterReset

/-- A long break in any state but REPLYING (R160): the port is resynchronised; on L1 the held MEASURE is discarded; on L3
the ACCESS LEVEL drops to 0 (R173). -/
def onLongBreak (p : PortId) (s : State) : State :=
  match (s.port p).receive with
  | .replying _ => s
  | _ =>
    match p with
    | .l1 => (resync p s).withHeldMeasure none
    | .l2 => resync p s
    | .l3 => (resync p s).withStore { s.store with accessLevel := 0 }

/-- The sum of a frame's bytes: address, code, length byte, payload, CHECK BYTE (R152). -/
def frameSum (address code : Byte) (payload : List Byte) (check : Byte) : Byte :=
  byteSum (address :: code :: BitVec.ofNat 8 payload.length :: (payload ++ [check]))

/-- A complete frame whose sum is not 0 (R156). A frame with a length byte above 48 is abandoned before it completes
(R155); one whose sum is 0 is no check failure and is left to its own command (DESIGN CHOICE, log 4). -/
def onCheckFailure (p : PortId) (code : Byte) (payload : List Byte) (check : Byte) (s : State) : State :=
  match (s.port p).receive with
  | .addressed address =>
    if maxPayload < payload.length then abandonOnLength p s
    else if frameSum address code payload check = 0 then s
    else setReceive p .idle (countOn p countCheck s)
  | _ => s

/-- The owed reply begins, once it is formed (R154, R157). -/
def beginReply (p : PortId) (s : State) : State :=
  match (s.port p).receive with
  | .replyPending address code (some body) => setReceive p (.replying ⟨address, code, body⟩) s
  | _ => s

/-- The code of RESTART (R156). -/
def restartCode : Byte := 0x3A

/-- The last character of the reply is sent (R154); after that of an accepted RESTART the warm restart is due (R188). -/
def completeReply (p : PortId) (s : State) : State :=
  match (s.port p).receive with
  | .replying reply =>
    let t := setReceive p .idle s
    if p = .l3 ∧ reply.code = restartCode ∧ reply.body.result = .ok then t.withRestartDue true else t
  | _ => s

end Sys2Proof.Machine
end

