-- ==== Sys2Proof/Machine/ChassisLink.lean ====
section
/-! DEFINITION. Meanings: the requests of L2 (DEMAND, the plan requests, TRIP_CLEAR) and FAULT_READ. -/

namespace Sys2Proof.Machine

/-! ### DEMAND -/

/-- The owner of a DEMAND (R26, R149): refused LENGTH unless 14 bytes, else accepted and answered with the CHASSIS STATUS
RECORD as it stands after the DEMAND has been handled whole. -/
def handleDemand (payload : List Byte) (s : State) : State × Option ReplyBody :=
  if payload.length = 14 then
    let t := acceptDemand (readDemand payload) s
    (t, some ⟨.ok, statusBytes t⟩)
  else (s, some (bare .length))

/-- DEMAND (R26), on L2. -/
def execDemand (payload : List Byte) (s : State) : Host.Outcome State Fault Refusal :=
  .next (whileReleased (serveRequest .l2 0x20 payload (handleDemand payload)) s)

/-! ### Plan requests (R111 to R116) -/

/-- The reply to PLAN_APPEND, PLAN_START and PLAN_CLEAR: the result with the PLAN SUMMARY as it then stands (R111). -/
def planReply (r : Result) (s : State) : Option ReplyBody := some ⟨r, planSummary s.planner⟩

/-- The result of a PLAN_APPEND by the checks of R112, with its segments when it is accepted. -/
def judgeAppend (payload : List Byte) (p : Planner) : Result × List WireSegment :=
  if payload.length % 7 ≠ 0 ∨ payload.length < 7 ∨ 42 < payload.length then (.length, [])
  else
    match readSegments (payload.length / 7) payload with
    | none => (.range, [])
    | some segs => if 16 < p.queue.length + segs.length then (.queueFull, []) else (.ok, segs)

/-- PLAN_APPEND handled by the planner (R111 to R113). -/
def handleAppend (payload : List Byte) (s : State) : State × Option ReplyBody :=
  if s.mode = .startup then (s, planReply .refusedMode s)
  else
    match judgeAppend payload s.planner with
    | (.ok, segs) =>
      let t := s.withPlanner (appendSegments segs s.planner)
      (t, planReply .ok t)
    | (r, _) => (s, planReply r s)

/-- PLAN_APPEND (R112, R113), on L2. -/
def execPlanAppend (payload : List Byte) (s : State) : Host.Outcome State Fault Refusal :=
  .next (whileReleased (serveRequest .l2 0x21 payload (handleAppend payload)) s)

/-- An accepted PLAN_START: ACTIVE, progress 0, the head computed at once (R114). -/
def startPlan (s : State) : State :=
  recomputeHead (s.withPlanner { s.planner with state := .active, progress := 0 })

/-- PLAN_START handled by the planner (R111, R114). -/
def handleStart (payload : List Byte) (s : State) : State × Option ReplyBody :=
  if s.mode = .startup then (s, planReply .refusedMode s)
  else if payload.length ≠ 0 then (s, planReply .length s)
  else if s.planner.state = .loaded ∧ s.intake.direction = .forward then
    let t := startPlan s
    (t, planReply .ok t)
  else (s, planReply .refusedMode s)

/-- PLAN_START (R114), on L2. -/
def execPlanStart (payload : List Byte) (s : State) : Host.Outcome State Fault Refusal :=
  .next (whileReleased (serveRequest .l2 0x22 payload (handleStart payload)) s)

/-- PLAN_CLEAR handled by the planner (R111, R115). -/
def handleClear (payload : List Byte) (s : State) : State × Option ReplyBody :=
  if s.mode = .startup then (s, planReply .refusedMode s)
  else if payload.length ≠ 0 then (s, planReply .length s)
  else
    let t := s.withPlanner (clearedPlan s.planner)
    (t, planReply .ok t)

/-- PLAN_CLEAR (R115), on L2. -/
def execPlanClear (payload : List Byte) (s : State) : Host.Outcome State Fault Refusal :=
  .next (whileReleased (serveRequest .l2 0x23 payload (handleClear payload)) s)

/-- PLAN_READ handled by the planner (R111, R116). -/
def handlePlanRead (payload : List Byte) (s : State) : State × Option ReplyBody :=
  if s.mode = .startup then (s, some (bare .refusedMode))
  else if payload.length ≠ 0 then (s, some (bare .length))
  else (s, some ⟨.ok, planReadBytes s.planner⟩)

/-- PLAN_READ (R116), on L2. -/
def execPlanRead (payload : List Byte) (s : State) : Host.Outcome State Fault Refusal :=
  .next (whileReleased (serveRequest .l2 0x24 payload (handlePlanRead payload)) s)

/-! ### TRIP_CLEAR (R144, R145) -/

/-- The effective grid temperature is below GRID_TRIP − 50 (R145). -/
def gridHasCooled (s : State) : Bool :=
  match s.thermal.grid with
  | some g => decide (g.effective < (gridTrip s.store.image : Int) - 50)
  | none => false

/-- The winding temperature of wheel `w` in the MEASUREMENT RECORD is VALID and below MOTOR_TRIP − 20 (R145). -/
def motorHasCooled (w : Wheel) (s : State) : Bool :=
  match s.intake.measurement with
  | some m => m.windingValid.get w && decide (m.winding.get w < (motorTrip s.store.image : Int) - 20)
  | none => false

/-- The DC-link voltage in the MEASUREMENT RECORD is at or below DC_OV (R145). -/
def voltageIsBack (s : State) : Bool :=
  match s.intake.measurement with
  | some m => decide (m.voltage ≤ dcOv s.store.image)
  | none => false

/-- Both inverter fault flags in the MEASUREMENT RECORD are clear (R145). -/
def invertersAreClear (s : State) : Bool :=
  match s.intake.measurement with
  | some m => !m.inverterFault.left && !m.inverterFault.right
  | none => false

/-- The condition of a code is judged gone at an accepted TRIP_CLEAR (R145). -/
def conditionGone (s : State) : TripCode → Bool
  | .propLinkLost => decide (s.intake.l1 = .fresh)
  | .chassisLinkLost => decide (s.intake.l2 = .fresh)
  | .gridOvertemp => gridHasCooled s
  | .motorOvertempL => motorHasCooled .left s
  | .motorOvertempR => motorHasCooled .right s
  | .dcLinkOvervolt => voltageIsBack s
  | .inverterFault => invertersAreClear s
  | .steerPressureLow => decide (steerMin s.store.image ≤ (demandInForce s.intake).pressure)
  | .overspeed => true
  | .retardShortfall => true
  | .torqueExcessL => true
  | .torqueExcessR => true

/-- The marks that stay latched after an accepted TRIP_CLEAR (R145). -/
def marksKept (s : State) : TripMarks :=
  let keep (c : TripCode) : Bool := s.trips.latched.get c && !conditionGone s c
  ⟨keep .propLinkLost, keep .gridOvertemp, keep .motorOvertempL, keep .motorOvertempR, keep .dcLinkOvervolt,
   keep .inverterFault, keep .torqueExcessL, keep .torqueExcessR, keep .chassisLinkLost, keep .overspeed,
   keep .steerPressureLow, keep .retardShortfall⟩

/-- The record after an accepted TRIP_CLEAR: the ACTIVE record of an unlatched code becomes CLEARED (R145). -/
def clearRecord (s : State) (r : FaultRecord) : FaultRecord :=
  if s.trips.latched.get r.code ∧ conditionGone s r.code then { r with cleared := true } else r

/-- An accepted TRIP_CLEAR: codes unlatched, records CLEARED, level and TRIP_OUT_N formed afresh (R145). -/
def clearTrips (s : State) : State :=
  refreshLine (s.withTrips { s.trips with
    latched := marksKept s, level := levelOf (marksKept s), faults := s.trips.faults.map (clearRecord s) })

/-- TRIP_CLEAR handled by the TRIP UNIT: the reply carries the map whatever the result (R144, R157). -/
def handleTripClear (payload : List Byte) (s : State) : State × Option ReplyBody :=
  if payload.length ≠ 0 then (s, some ⟨.length, tripMapBytes s⟩)
  else if standstillConfirmed s.intake ∧ s.intake.demand.throttle = 0 then
    let t := clearTrips s
    (t, some ⟨.ok, tripMapBytes t⟩)
  else (s, some ⟨.refusedMode, tripMapBytes s⟩)

/-- TRIP_CLEAR (R144, R145), on L2. -/
def execTripClear (payload : List Byte) (s : State) : Host.Outcome State Fault Refusal :=
  .next (whileReleased (serveRequest .l2 0x25 payload (handleTripClear payload)) s)

/-! ### FAULT_READ (R147) -/

/-- The FAULT_READ reply for a payload of one byte (R147). -/
def faultReadReply (payload : List Byte) (s : State) : ReplyBody :=
  let start := (byteAt payload 0).toNat
  if 15 < start then bare .range else ⟨.ok, faultReadBytes start s.trips⟩

/-- FAULT_READ (R147), on L2 and L3; on L1 the code is not listed and is answered UNKNOWN (R156). -/
def execFaultRead (p : PortId) (payload : List Byte) (s : State) : Host.Outcome State Fault Refusal :=
  .next (whileReleased (serveRequest p 0x26 payload
    (if isListed p 0x26 then answerRead 1 payload (faultReadReply payload) else answerUnknown)) s)

end Sys2Proof.Machine
end

