-- ==== Sys2Proof/Machine/Thermal.lean ====
section
/-! DEFINITION. The THERMAL MONITOR (file 05): grid model, derates, motor temperatures, BOOST TIMERS, overtemperature.
-/

namespace Sys2Proof.Machine

/-! ### The grid estimate -/

/-- The bounds of G, −800..10400 sixteenths (R87). -/
def clampG (g : Int) : Int := clampInt (-800) 10400 g

/-- The seed of G from the record just stored (R88). -/
def seedG (m : MeasurementRecord) : Int :=
  if m.gridSensorValid then clampG (16 * m.gridSensor) else 16 * (m.ambient + 150)

/-- Heat of one interval: P_grid × K_GH / 4096 (R90). -/
def gridHeat (im : Image) (power : Nat) : Nat := power * kGh im / 4096

/-- Cooling of one interval: the magnitude of D × K_c divided by 4096 and rounded down, with the sign of D (R90). -/
def gridCooling (im : Image) (g : Grid) : Int :=
  let kc := if g.blower then kGcOn im else kGcOff im
  Int.tdiv ((g.g - 16 * g.ambient) * kc) 4096

/-- One step of the grid model (R90). -/
def stepG (im : Image) (g : Grid) : Int := clampG (g.g + gridHeat im g.power - gridCooling im g)

/-- The effective grid temperature: the larger of G / 16, rounded toward zero, and a VALID sensor temperature (R91). -/
def effectiveOf (g : Int) (sensor : Int) (valid : Bool) : Int :=
  if valid then max (Int.tdiv g 16) sensor else Int.tdiv g 16

/-- The grid with its effective temperature and band formed afresh (R91, R92). -/
def formBand (g : Grid) : Grid :=
  let e := effectiveOf g.g g.sensor g.sensorValid
  { g with effective := e, band := gridBandOf e }

/-- The grid formed afresh with estimate and inputs `g`: effective temperature, band and Gd, the grid notice to the
planner where the band or Gd takes a different value, and the judgement of GRID_OVERTEMP (R91 to R93). -/
def formGrid (g : Grid) (s : State) : State :=
  let g' := formBand g
  let gd := gridDerate s.store.image g'.band
  let notice := decide (s.thermal.grid.map (·.band) ≠ some g'.band) || decide (s.thermal.gd ≠ gd)
  let t := s.withThermal { s.thermal with grid := some g', gd := gd }
  let t := if notice then recomputeHead t else t
  judgeCondition .gridOvertemp (decide ((gridTrip t.store.image : Int) ≤ g'.effective)) (some g'.effective) t

/-- The grid inputs of a record beside an estimate (R89). -/
def gridWithInputs (g : Int) (m : MeasurementRecord) : Grid :=
  { g := g, power := m.gridPower, blower := m.blower, ambient := m.ambient, sensor := m.gridSensor,
    sensorValid := m.gridSensorValid, effective := 0, band := 0 }

/-- The grid side of the monitor at an accepted MEASURE: seed if UNSEEDED, input copy, then form (R88, R89, R107). -/
def gridAtMeasure (m : MeasurementRecord) (s : State) : State :=
  match s.thermal.grid with
  | none => formGrid (gridWithInputs (seedG m) m) s
  | some g => formGrid (gridWithInputs g.g m) s

/-- The grid side of the monitor at an interval expiry: nothing while UNSEEDED, else a model step, then form (R90,
R107). -/
def gridAtExpiry (s : State) : State :=
  match s.thermal.grid with
  | none => s
  | some g => formGrid { g with g := stepG s.store.image g } s

/-! ### Motor temperatures -/

/-- The hold state moved by a reading and its mark (R96). -/
def moveHold (reading : Int) (valid : Bool) (m : Motor) : Motor :=
  match m.hold, valid with
  | .none, true => { m with hold := .live, temp := some reading }
  | .none, false => { m with hold := .expired }
  | .live, true => { m with temp := some reading }
  | .live, false => { m with hold := .holding, holdCount := 0 }
  | .holding, true => { m with hold := .live, holdCount := 0, temp := some reading }
  | .holding, false => m
  | .expired, true => { m with hold := .live, holdCount := 0, temp := some reading }
  | .expired, false => m

/-- The hold counted at an interval expiry (R97). -/
def countHold (m : Motor) : Motor :=
  if m.hold = .holding then
    if 10 ≤ m.holdCount + 1 then { m with hold := .expired, holdCount := 10, temp := none }
    else { m with holdCount := m.holdCount + 1 }
  else m

/-- The motor band of a hold state (R95, R98). -/
def motorBandNow (m : Motor) : Option Nat :=
  match m.hold with
  | .none => none
  | .live => m.temp.map motorBandOf
  | .holding => m.temp.map motorBandOf
  | .expired => some 7

/-- Md of a band: MOTOR_DERATE of it, 0 while it is absent (R98). -/
def mdOf (im : Image) (band : Option Nat) : Nat :=
  match band with
  | none => 0
  | some b => motorDerate im b

/-! ### The BOOST TIMERS -/

/-- A timer that receives a motor band (R103, R105). -/
def receiveBand (im : Image) (band : Nat) (t : BoostTimer) : BoostTimer :=
  match t.state with
  | .idle => t
  | .boost => if boostBandMax im < band then ⟨.recover, 0, some band⟩ else t
  | .recover =>
    match t.reference with
    | none => { t with reference := some band }
    | some r => if r < band then { t with count := 0, reference := some band } else t

/-- A timer that counts an interval expiry, by the wheel's motor band as it stands (R102, R104). -/
def countBoost (im : Image) (band : Option Nat) (t : BoostTimer) : BoostTimer :=
  match t.state with
  | .idle => t
  | .boost => if boostA im ≤ t.count + 1 then ⟨.recover, 0, band⟩ else { t with count := t.count + 1 }
  | .recover => if boostB im ≤ t.count + 1 then ⟨.idle, 0, none⟩ else { t with count := t.count + 1 }

/-- The motor's band and Md formed afresh (R98). -/
def formMotorBand (im : Image) (m : Motor) : Motor :=
  { m with band := motorBandNow m, md := mdOf im (motorBandNow m) }

/-- The motor's BOOST TIMER handed the band, where there is one (R98, R103, R105, R108). -/
def handBand (im : Image) (m : Motor) : Motor :=
  match m.band with
  | none => m
  | some b => { m with boost := receiveBand im b m.boost }

/-- The motor's BOOST TIMER with an interval expiry counted (R102, R104). -/
def countMotorBoost (im : Image) (m : Motor) : Motor := { m with boost := countBoost im m.band m.boost }

/-- One motor at an accepted MEASURE: hold state, band and Md, band to the timer (R96, R98, R107). -/
def motorAtMeasure (im : Image) (reading : Int) (valid : Bool) (m : Motor) : Motor :=
  handBand im (formMotorBand im (moveHold reading valid m))

/-- One motor at an interval expiry: hold count, band and Md, timer count, band to the timer (R97, R98, R107). -/
def motorAtExpiry (im : Image) (m : Motor) : Motor :=
  handBand im (countMotorBoost im (formMotorBand im (countHold m)))

/-- The state with the motor of wheel `w` changed by `f`. -/
def onMotor (w : Wheel) (f : Motor → Motor) (s : State) : State :=
  s.withThermal { s.thermal with motor := s.thermal.motor.set w (f (s.thermal.motor.get w)) }

/-- MOTOR_OVERTEMP of wheel `w` judged on its reading: an INVALID reading leaves the mark as it stands (R99). -/
def judgeMotor (w : Wheel) (m : MeasurementRecord) (s : State) : State :=
  if m.windingValid.get w then
    judgeCondition (motorOvertempOf w) (decide ((motorTrip s.store.image : Int) ≤ m.winding.get w))
      (some (m.winding.get w)) s
  else s

/-- One wheel of the monitor at an accepted MEASURE. -/
def wheelAtMeasure (w : Wheel) (m : MeasurementRecord) (s : State) : State :=
  judgeMotor w m (onMotor w (motorAtMeasure s.store.image (m.winding.get w) (m.windingValid.get w)) s)

/-- The THERMAL MONITOR at an accepted MEASURE (R107): the grid, then the left motor, then the right one. R107 and R140 leave
the order of their raises open (DESIGN CHOICE, log 8). -/
def thermalAtMeasure (m : MeasurementRecord) (s : State) : State :=
  wheelAtMeasure .right m (wheelAtMeasure .left m (gridAtMeasure m s))

/-- The THERMAL MONITOR at an interval expiry (R107). -/
def thermalAtExpiry (s : State) : State :=
  let t := gridAtExpiry s
  onMotor .right (motorAtExpiry t.store.image) (onMotor .left (motorAtExpiry t.store.image) t)

/-- A boost request of a pass for wheel `w` (R101): whether the wheel entered BOOST, and the state after. -/
def boostEntered (w : Wheel) (s : State) : Bool :=
  let m := s.thermal.motor.get w
  match m.boost.state, m.band with
  | .idle, some b => decide (b ≤ boostBandMax s.store.image)
  | _, _ => false

/-- The state after a boost request for wheel `w` (R101). -/
def requestBoost (w : Wheel) (s : State) : State :=
  if boostEntered w s then onMotor w (fun m => { m with boost := { m.boost with state := .boost, count := 0 } }) s else s

end Sys2Proof.Machine
end

