-- ==== Sys2Proof/Machine/Traction.lean ====
section
/-! DEFINITION. The TRACTION AND STEERING UNIT (file 04): stages 4, 6 and 7 of a pass, and the steering-pressure
counter. -/

namespace Sys2Proof.Machine

/-! ### Stage 4: the split (R74, R75) -/

/-- The shares of the two wheels in ‰ of the total, by the steer angle, the split bias and whether L2 is STALE (R74). -/
def sharesOf (steer : Int) (split : Nat) (l2Stale : Bool) : Both Nat :=
  if l2Stale then ⟨500, 500⟩
  else if 0 < steer then ⟨500 + split, 500 - split⟩
  else if steer < 0 then ⟨500 - split, 500 + split⟩
  else ⟨500, 500⟩

/-- The total shared: T × share / 1000 for each wheel (R75). -/
def shareTorque (total : Nat) (shares : Both Nat) : Both Nat := shares.map fun share => total * share / 1000

/-! ### Stage 6: traction (R70 to R72) -/

/-- The measure of departure of a wheel (R70). -/
def departure (regime : Regime) (refSpeed wheelSpeed : Int) : Int :=
  match regime with
  | .propel => wheelSpeed.natAbs - refSpeed
  | .retard => refSpeed - wheelSpeed.natAbs
  | .coast => 0

/-- The slip threshold: SLIP_TH, halved on a WET road (R70). -/
def slipThreshold (im : Image) (wet : Bool) : Nat := if wet then slipTh im / 2 else slipTh im

/-- The traction factor after stage 6 (R71). -/
def nextFactor (regime : Regime) (departs : Bool) (recover tf : Nat) : Nat :=
  if regime ≠ .coast ∧ departs then max 250 (tf * 3 / 4) else min 1000 (tf + recover)

/-- A torque scaled by its traction factor (R72). -/
def scaleByFactor (torque tf : Nat) : Nat := torque * tf / 1000

/-! ### Stage 7: the power budget (R80, R81) -/

/-- The power of a wheel in kW (R80). -/
def wheelPower (im : Image) (torque : Nat) (wheelSpeed : Int) : Nat := torque * wheelSpeed.natAbs * kpw im / 100000

/-- The torques after stage 7 of a PROPEL pass, and whether it scaled them (R81). -/
def budgetTorque (available : Nat) (power torque : Both Nat) : Both Nat × Bool :=
  let sum := power.left + power.right
  if available < sum then (torque.map fun t => t * available / sum, true) else (torque, false)

/-! ### Steering pressure (R83, R84) -/

/-- The steering-pressure counter after an expiry (R83). -/
def pressureCountAfter (s : State) : Nat :=
  if (demandInForce s.intake).pressure < steerMin s.store.image ∧ isMoving s.intake then
    saturate 20 s.traction.pressureCount
  else 0

/-- The steering-pressure counter stepped at an expiry: going from 19 to 20 it raises STEER_PRESSURE_LOW with the
pressure read, and the condition is present while it stands at 20 (R84). -/
def steeringAtExpiry (s : State) : State :=
  let n := pressureCountAfter s
  let t := markPresent .steerPressureLow (decide (n = 20)) (s.withTraction { s.traction with pressureCount := n })
  if s.traction.pressureCount = 19 ∧ n = 20 then
    raiseTrip .steerPressureLow (some ((demandInForce s.intake).pressure : Int)) t
  else t

end Sys2Proof.Machine
end

