-- ==== Sys2Proof/Machine/Allocation.lean ====
section
/-! DEFINITION. The ALLOCATION ENGINE (file 03): the pass in its nine stages, and torque supervision. -/

namespace Sys2Proof.Machine

/-! ### The snapshot (R45) -/

/-- The snapshot of a pass on the record `m` (R45). -/
def takeSnapshot (m : MeasurementRecord) (s : State) : Snapshot :=
  { measurement := m
    demand := demandInForce s.intake
    l2Stale := decide (s.intake.l2 = .stale)
    direction := s.intake.direction
    payload := s.intake.payload
    payloadBand := payloadBand s.intake
    mode := s.mode
    tripLevel := s.trips.level
    envelopeLimp := envelopeLimp s.store.image
    image := s.store.image
    tf := s.traction.tf
    boost := s.thermal.motor.map (·.boost.state)
    gd := s.thermal.gd
    md := s.thermal.motor.map (·.md)
    seeded := s.thermal.grid.isSome
    planActive := decide (s.planner.state = .active)
    headSpeed := (s.planner.head.map (·.speed)).getD 7000
    headSurface := (s.planner.queue.head?.map (·.surface)).getD .dry
    previous := s.engine.grant.torque }

/-- WET: the snapshot plan is ACTIVE and its HEAD's surface is WET (R45). -/
def Snapshot.wet (n : Snapshot) : Bool := n.planActive && decide (n.headSurface = .wet)

/-- v_ref of the snapshot. -/
def Snapshot.refSpeed (n : Snapshot) : Nat := n.measurement.refSpeed

/-! ### Stage 1: the speed limit (R47, R48) -/

/-- The sources that apply to a pass with their values, in the order of R47. -/
def limitSources (n : Snapshot) : List (LimitSource × Nat) :=
  (if n.planActive then [(.plan, n.headSpeed)] else []) ++
  [(.payload, speedCap n.image n.payloadBand), (.corner, cornerSpeed n.image (steerBandOf n.demand.steer))] ++
  (if n.envelopeLimp then [(.limp, limpSpeed n.image)] else []) ++
  (match n.l2Stale, n.demand.setpoint with
    | true, some v => [(.fallback, v)]
    | _, _ => []) ++
  [(.none, 7000)]

/-- The smallest value with the first source that gives it (R47). -/
def smallestSource : List (LimitSource × Nat) → LimitSource × Nat
  | [] => (.none, 7000)
  | [x] => x
  | x :: rest =>
    let y := smallestSource rest
    if x.2 ≤ y.2 then x else y

/-- Stage 1: SL and its source (R47). -/
def speedLimitOf (n : Snapshot) : LimitSource × Nat := smallestSource (limitSources n)

/-- The retard setpoint sp (R48). -/
def retardSetpoint (n : Snapshot) (sl : Nat) : Nat :=
  match n.demand.hold with
  | some h => min sl h
  | none => sl

/-! ### Stage 2: limits per wheel (R49) -/

/-- The speed index of a wheel. -/
def wheelIndex (n : Snapshot) (w : Wheel) : Nat := speedIndex (n.measurement.wheelSpeed.get w).natAbs

/-- PL_w with or without boost (R49). -/
def propelLimitOf (n : Snapshot) (w : Wheel) (boosted : Bool) : Nat :=
  let i := wheelIndex n w
  (if boosted then propelPeak n.image i else propelCont n.image i) * n.md.get w / 1000

/-- RL_w: the cap with twice its trim, clamped to 0..1600, then the grid derate, then the motor derate (R49). -/
def retardLimitOf (n : Snapshot) (w : Wheel) : Nat :=
  let i := wheelIndex n w
  let sum := clampInt 0 1600 ((retardCap n.image i : Int) + 2 * retardTrim n.image (trimGroup i))
  let gd := if n.seeded then n.gd else 0
  sum.toNat * gd / 1000 * n.md.get w / 1000

/-! ### Stage 3: regime and total (R50, R51) -/

/-- The speed-hold fraction r_sh (R50). -/
def speedHold (n : Snapshot) (sp : Nat) : Nat :=
  if sp < n.refSpeed then min 1000 ((n.refSpeed - sp) * ksh n.image / 16) else 0

/-- The retard fraction f_r (R50). -/
def retardFractionOf (n : Snapshot) (sp : Nat) : Nat :=
  if n.mode = .ready ∨ n.mode = .drive then max n.demand.lever (speedHold n sp) else 0

/-- The conditions of PROPEL besides f_r = 0 (R51). -/
def propelAllowed (n : Snapshot) (sl : Nat) : Bool :=
  decide (n.mode = .drive) && decide (n.tripLevel = .none) && decide (0 < n.demand.throttle) &&
    !n.demand.park && !n.demand.service && decide (n.payloadBand < 7) && decide (n.refSpeed + 100 < sl)

/-- The regime of a pass (R50, R51). -/
def regimeOf (n : Snapshot) (sl fraction : Nat) : Regime :=
  if 0 < fraction then .retard else if propelAllowed n sl then .propel else .coast

/-- A PROPEL pass requests boost for wheel `w` (R51). -/
def wantsBoost (n : Snapshot) (w : Wheel) : Bool :=
  let i := wheelIndex n w
  decide (950 ≤ n.demand.throttle) && decide (propelCont n.image i < propelPeak n.image i) &&
    decide (n.boost.get w = .idle)

/-- The total T (R50, R51). -/
def totalTorque (n : Snapshot) (regime : Regime) (fraction : Nat) (pl rl : Both Nat) : Nat :=
  match regime with
  | .retard => fraction * (rl.left + rl.right) / 1000
  | .propel => n.demand.throttle * (pl.left + pl.right) / 1000
  | .coast => 0

/-! ### Stage 5: clamp (R52) -/

/-- Each torque clamped to its limit of the regime (R52). -/
def clampToLimits (regime : Regime) (pl rl torque : Both Nat) : Both Nat :=
  match regime with
  | .propel => Both.of fun w => min (torque.get w) (pl.get w)
  | .retard => Both.of fun w => min (torque.get w) (rl.get w)
  | .coast => ⟨0, 0⟩

/-! ### Stage 8: sign and rate (R55) -/

/-- The target torque of a magnitude (R55). -/
def targetOf (regime : Regime) (magnitude : Nat) : Int :=
  match regime with
  | .propel => magnitude
  | .retard => -magnitude
  | .coast => 0

/-- The new torque from a target and the previous grant (R55). -/
def rateLimited (rate : Nat) (previous target : Int) : Int :=
  let grown : Nat :=
    if (0 < target ∧ previous < 0) ∨ (target < 0 ∧ 0 < previous) then rate else previous.natAbs + rate
  if 0 < target then (min target.natAbs grown : Nat)
  else if target < 0 then -((min target.natAbs grown : Nat) : Int)
  else 0

/-- The rate: RATE, halved on a WET road (R55). -/
def rateOf (n : Snapshot) : Nat := if n.wet then torqueRate n.image / 2 else torqueRate n.image

/-! ### Stages 1 to 8 -/

/-- Stage 3's answers to the boost requests: whether each wheel has entered BOOST at this pass (R51, R101). -/
def boostAnswers (n : Snapshot) (regime : Regime) (s : State) : Both Bool :=
  Both.of fun w => decide (regime = .propel) && wantsBoost n w && boostEntered w s

/-- Stage 6's new traction factors (R70, R71). -/
def newFactors (n : Snapshot) (regime : Regime) : Both Nat :=
  Both.of fun w =>
    nextFactor regime
      (decide ((slipThreshold n.image n.wet : Int) < departure regime n.refSpeed (n.measurement.wheelSpeed.get w)))
      (tfRecover n.image) (n.tf.get w)

/-- Stage 7's power available (R79, R80). -/
def powerAvailable (n : Snapshot) : Nat :=
  pRated n.image - reserveOf n.image (if n.l2Stale then .stale else .fresh) n.demand.pressure

/-- Stages 1 to 8 of a pass, computed from its snapshot and the answers to its boost requests (R47 to R55). -/
def computePass (n : Snapshot) (entered : Both Bool) : PassWork :=
  let sl := (speedLimitOf n).2
  let fraction := retardFractionOf n (retardSetpoint n sl)
  let regime := regimeOf n sl fraction
  let boosted := Both.of fun w => decide (n.boost.get w = .boost) || entered.get w
  let pl := Both.of fun w => propelLimitOf n w (boosted.get w)
  let rl := Both.of fun w => retardLimitOf n w
  let total := totalTorque n regime fraction pl rl
  let shared := shareTorque total (sharesOf n.demand.steer (steerSplit n.image (steerBandOf n.demand.steer)) n.l2Stale)
  let clamped := clampToLimits regime pl rl shared
  let tf := newFactors n regime
  let gripped := Both.of fun w => scaleByFactor (clamped.get w) (tf.get w)
  let power := Both.of fun w => wheelPower n.image (gripped.get w) (n.measurement.wheelSpeed.get w)
  let budget := if regime = .propel then budgetTorque (powerAvailable n) power gripped else (gripped, false)
  { torque := Both.of fun w => rateLimited (rateOf n) (n.previous.get w) (targetOf regime (budget.1.get w))
    propelLimit := pl
    retardLimit := rl
    speedLimit := sl
    source := (speedLimitOf n).1
    retardFraction := fraction
    boost := boosted
    tractionReduced := tf.map fun f => decide (f < 1000)
    powerLimited := budget.2
    speedLimited := decide (sl ≤ n.refSpeed + 100)
    regime := regime }

/-- The regime a pass will take, from its snapshot. -/
def passRegime (n : Snapshot) : Regime :=
  let sl := (speedLimitOf n).2
  regimeOf n sl (retardFractionOf n (retardSetpoint n sl))

/-- The boost requests of a pass acted on by the THERMAL MONITOR (R51, R101). -/
def requestBoosts (n : Snapshot) (s : State) : State :=
  let ask (w : Wheel) (t : State) : State :=
    if passRegime n = .propel ∧ wantsBoost n w then requestBoost w t else t
  ask .right (ask .left s)

/-- A pass starts (R44, R45): it goes IN_FLIGHT and its snapshot is taken; stages 1 to 8 are still to run (DESIGN CHOICE,
log 7). Without a record, which no pass is without (R44), nothing starts (DESIGN CHOICE, log 18). -/
def startPass (s : State) : State :=
  match s.intake.measurement with
  | none => s
  | some m => s.withEngine { s.engine with pass := some (.snapshotTaken (takeSnapshot m s)) }

/-- Stages 1 to 8 of a pass on snapshot `n`: the boost requests, answered from the BOOST TIMERS and motor bands as they
stand now (stage 3, R101), the traction factors (stage 6, R53), and the working values kept for completion. -/
def computeStages (n : Snapshot) (s : State) : State :=
  let t := requestBoosts n s
  let t := t.withTraction { t.traction with tf := newFactors n (passRegime n) }
  t.withEngine { t.engine with pass := some (.computed (computePass n (boostAnswers n (passRegime n) s))) }

/-- The pass in flight runs stages 1 to 8, where it has not run them yet. -/
def runStages (s : State) : State :=
  match s.engine.pass with
  | some (.snapshotTaken n) => computeStages n s
  | _ => s

/-! ### Completion (R56, R57) -/

/-- Completion gating by the state at completion (R56). -/
def gateTorque (s : State) (t : Both Int) : Both Int :=
  if s.trips.level = .d ∨ s.mode = .startup ∨ s.mode = .parked then ⟨0, 0⟩
  else if s.trips.level = .p ∨ s.mode = .ready ∨ payloadBand s.intake = 7 ∨ brakeSet s.intake then withoutPositive t
  else t

/-- The GRANT RECORD as a completion writes it (R57, steps 1 and 2). -/
def completedGrant (s : State) (w : PassWork) : GrantRecord :=
  { sequence := s.engine.grant.sequence + 1
    torque := gateTorque s w.torque
    propelLimit := w.propelLimit
    retardLimit := w.retardLimit
    speedLimit := w.speedLimit
    boost := w.boost
    tractionReduced := w.tractionReduced
    powerLimited := w.powerLimited
    speedLimited := w.speedLimited
    regime := w.regime }

/-- The pass completed: record, sequence, speed limit in force with its source, retard fraction, pass state IDLE
(R57, R58 step 1). -/
def writeGrant (w : PassWork) (s : State) : State :=
  s.withEngine { s.engine with
    grant := completedGrant s w, speedLimit := w.speedLimit, source := w.source, retardFraction := w.retardFraction,
    pass := none }

/-! ### Torque supervision (R66, R67) -/

/-- One wheel's excess count stepped by an achieved torque against the torque granted when the MEASURE was received:
from 4 to 5 it raises TORQUE_EXCESS, which is present while the count stands at 5 (R66, R67). -/
def superviseWheel (w : Wheel) (granted achieved : Int) (s : State) : State :=
  let excess := inExcess granted achieved (tqTol s.store.image)
  let before := s.engine.excess.get w
  let n := if excess then saturate 5 before else 0
  let t := markPresent (torqueExcessOf w) (decide (n = 5))
    (s.withEngine { s.engine with excess := s.engine.excess.set w n })
  if before = 4 ∧ n = 5 then raiseTrip (torqueExcessOf w) (some achieved) t else t

/-- Torque supervision at an accepted MEASURE, in every mode but STARTUP (R66): the left wheel, then the right one. R140 leaves
the order of their raises open (DESIGN CHOICE, log 8). -/
def supervise (granted : Both Int) (m : MeasurementRecord) (s : State) : State :=
  if s.mode = .startup then s
  else superviseWheel .right granted.right m.achieved.right (superviseWheel .left granted.left m.achieved.left s)

end Sys2Proof.Machine
end

