-- ==== Sys2Proof/Machine/Store.lean ====
section
/-! DEFINITION. The TABLE STORE (files 01 and 09): start-up validation, access, staging, programming and verifying. -/

namespace Sys2Proof.Machine

/-! ### Start-up validation (R17 to R19) -/

/-- Row `r` of the NONVOLATILE ARRAY. Every use has `r` below 23. -/
def nvRow (t : Store) (r : Nat) : NvRow := t.nv[r]?.getD erasedRow

/-- Row `r` of the NONVOLATILE ARRAY as a WORKING IMAGE row with source NV. -/
def rowFromNv (t : Store) (r : Nat) : ImageRow := ⟨(nvRow t r).entries, .nv⟩

/-- Row `r` of the LIMP SET as a WORKING IMAGE row with source LIMP. -/
def rowFromLimp (r : Nat) : ImageRow := ⟨limpRow r, .limp⟩

/-- The image with row `r` replaced. -/
def setImageRow (r : Nat) (x : ImageRow) (t : Store) : Store := { t with image := t.image.setIfInBounds r x }

/-- Row `r` of the NONVOLATILE ARRAY is valid alone (R17). -/
def rowValidAlone (t : Store) (r : Nat) : Bool := validAlone r (nvRow t r)

/-- Row k (PROPEL_CONT) stays NV when its pair is decided (R18). -/
def contStaysNv (t : Store) (k : Nat) : Bool :=
  rowValidAlone t k &&
    (if rowValidAlone t (k + 4) then pairAgrees (nvRow t k).entries (nvRow t (k + 4)).entries
     else (nvRow t k).entries.toList.all fun e => decide (e.toNat ≤ 800))

/-- Row k + 4 (PROPEL_PEAK) becomes NV when its pair is decided (R18). -/
def peakBecomesNv (t : Store) (k : Nat) : Bool :=
  rowValidAlone t (k + 4) &&
    (if rowValidAlone t k then pairAgrees (nvRow t k).entries (nvRow t (k + 4)).entries
     else (nvRow t (k + 4)).entries.toList.all fun e => decide (800 ≤ e.toNat))

/-- The row a decision leaves: NV from the array, or LIMP from the LIMP SET. -/
def decidedRow (t : Store) (nv : Bool) (r : Nat) : ImageRow := if nv then rowFromNv t r else rowFromLimp r

/-- The pair of row k and row k + 4 decided (R18). -/
def decidePair (k : Nat) (t : Store) : Store :=
  setImageRow (k + 4) (decidedRow t (peakBecomesNv t k) (k + 4)) (setImageRow k (decidedRow t (contStaysNv t k) k) t)

/-- Validation takes row `r`: rows 4 to 7 decide their pairs, a row of the others valid alone is copied with source NV
and one invalid alone keeps its LIMP SET values (R17, R18). -/
def decideRow (r : Nat) (t : Store) : Store :=
  if 4 ≤ r ∧ r < 8 then decidePair (r - 4) t
  else if rowValidAlone t r then setImageRow r (rowFromNv t r) t
  else t

/-- Validation takes its next row, if one is left; row 18 re-forms the steering reserve (R17, R78). -/
def validateNext (s : State) : State :=
  match s.validation with
  | none => s
  | some r =>
    if r < 23 then
      let t := (s.withStore (decideRow r s.store)).withValidation (some (r + 1))
      if r = 18 then formReserve t else t
    else s

/-- Validation takes `n` rows. -/
def validateRows : Nat → State → State
  | 0, s => s
  | n + 1, s => validateRows n (validateNext s)

/-- Validation starts: every WORKING IMAGE row is loaded from the LIMP SET with source LIMP, and row 0 is next
(R17, R78). -/
def startValidation (s : State) : State :=
  formReserve ((s.withStore { s.store with image := limpImage }).withValidation (some 0))

/-! ### A program cut off (R184) -/

/-- An entry of a row whose program was cut off: FREE VALUE, a mix of the bits of the old and the new entry (DESIGN
CHOICE, log 9). -/
def mixedEntry (n i : Nat) (old new : Row) : Word :=
  (rowEntry old i &&& ~~~Config.programmedBits n i) ||| (rowEntry new i &&& Config.programmedBits n i)

/-- The row that the `n`-th interrupted program leaves (R184, DESIGN CHOICE, log 9). -/
def interruptedRow (n : Nat) (old new : Row) : NvRow :=
  ⟨⟨⟨(List.range 8).map fun i => mixedEntry n i old new⟩, by simp⟩, Config.unfinishedCheck n⟩

/-- The NONVOLATILE ARRAY after a cold reset: kept, but for a row being programmed (R1, R184). -/
def nvAfterColdReset (n : Nat) (t : Store) : Vector NvRow 23 :=
  match t.programmer, t.stage with
  | .programming, some st =>
    t.nv.setIfInBounds st.row (interruptedRow n (nvRow t st.row).entries st.entries)
  | _, _ => t.nv

/-- How many free values a cold reset takes: one when it cuts a program off. -/
def freeTakenByReset (t : Store) : Nat := if t.programmer = .programming then 1 else 0

/-! ### Access (R170 to R174) -/

/-- A code mismatch: level 0, the failure counted, and the third one starts a lockout (R170, R172). -/
def failAccess (t : Store) : Store :=
  if 3 ≤ t.failures + 1 then { t with accessLevel := 0, failures := 0, lockout := some (lockoutLength t.image) }
  else { t with accessLevel := 0, failures := t.failures + 1 }

/-- An access granted at `level` (R170, R171). -/
def grantAccess (level : Nat) (t : Store) : Store := { t with accessLevel := level, failures := 0 }

/-- The lockout counted at an expiry: the expiry that brings it to 0 ends it (R172). -/
def countLockout (t : Store) : Store :=
  match t.lockout with
  | none => t
  | some n => { t with lockout := if n ≤ 1 then none else some (n - 1) }

/-- The service idle count stepped at an expiry: at level 1 or 2 it counts, and on reaching SERVICE_IDLE the level drops
to 0; at level 0 it is 0 (R174). -/
def countIdle (t : Store) : Store :=
  if t.accessLevel = 0 then { t with idleCount := 0 }
  else if serviceIdle t.image ≤ t.idleCount + 1 then { t with accessLevel := 0, idleCount := 0 }
  else { t with idleCount := t.idleCount + 1 }

/-- The TABLE STORE at an interval expiry (R172, R174). -/
def storeAtExpiry (s : State) : State := s.withStore (countIdle (countLockout s.store))

/-! ### Staging (R177) -/

/-- The image an accepted ROW_STAGE writes into: the buffer's own when it holds the row, else the WORKING IMAGE row. -/
def stageBase (r : Nat) (t : Store) : Row :=
  match t.stage with
  | some st => if st.row = r then st.entries else imageRow t.image r
  | none => imageRow t.image r

/-- Values written from entry `e` on, wrapping past entry 7 to entry 0 (R177). -/
def writeWrapped : List Word → Nat → Row → Row
  | [], _, row => row
  | v :: rest, e, row => writeWrapped rest (e + 1) (row.setIfInBounds (e % 8) v)

/-- The STAGE BUFFER after an accepted ROW_STAGE (R177). -/
def stageValues (r e : Nat) (values : List Word) (t : Store) : Store :=
  { t with stage := some ⟨r, writeWrapped values e (stageBase r t)⟩ }

/-! ### Committing and verifying (R178 to R181) -/

/-- The pair rule at commit, against the other row of the pair in the WORKING IMAGE (R179). -/
def commitPairAgrees (im : Image) (r : Nat) (row : Row) : Bool :=
  if r < 4 then pairAgrees row (imageRow im (r + 4))
  else if r < 8 then pairAgrees (imageRow im (r - 4)) row
  else true

/-- The range test at commit (R179). -/
def commitRangePasses (im : Image) (r : Nat) (row : Row) : Bool := rangePasses r row && commitPairAgrees im r row

/-- The first check of R178 from the third on that a ROW_COMMIT of row `r` fails, or OK. -/
def commitResult (r : Nat) (s : State) : Result :=
  match s.store.stage with
  | none => .notStaged
  | some st =>
    if st.row ≠ r then .notStaged
    else if s.store.accessLevel < writeLevel r then .refusedAccess
    else if ¬(s.mode = .parked ∧ standstillConfirmed s.intake) then .refusedMode
    else if ¬commitRangePasses s.store.image r st.entries then .range
    else if s.store.programmer ≠ .idle then .busy
    else .ok

/-- What the cells of the row hold when the program ends: what was written, with the CHECK WORD of R16 and R180, or what
`found` says instead (DESIGN CHOICE, log 10). -/
def programmedRow (st : StagedRow) (found : Option NvRow) : NvRow :=
  found.getD ⟨st.entries, checkWord st.row st.entries⟩

/-- The TABLE STORE after a verify that reads `cells` back (R181). -/
def verifyStore (st : StagedRow) (cells : NvRow) (t : Store) : Store :=
  let t := { t with nv := t.nv.setIfInBounds st.row cells }
  if cells.entries = st.entries then
    { t with programmer := .swapPending, suspect := t.suspect.setIfInBounds st.row false }
  else
    { t with programmer := .idle, suspect := t.suspect.setIfInBounds st.row true,
             writeFail := saturate 65535 t.writeFail }

end Sys2Proof.Machine
end

