-- ==== Sys2Proof/Machine/Interval.lean ====
section
/-! DEFINITION. Meanings: the base interval expiry, and the events an expiry brings about.

BASE_INTERVAL_EXPIRY takes the whole expiry, events included. Each event row by itself takes the share of an expiry that
brings the event about, where the next count of its owner does so, and changes nothing elsewhere (DESIGN CHOICE, log
4). -/

namespace Sys2Proof.Machine

/-- The whole of one interval expiry: the stamp, then the INTAKE UNIT before its readers, the THERMAL MONITOR, the
TRACTION AND STEERING UNIT, the DESCENT PLANNER and the TABLE STORE (R142, DESIGN CHOICE, log 8). -/
def expireInterval (s : State) : State :=
  storeAtExpiry (plannerAtExpiry (steeringAtExpiry (thermalAtExpiry (intakeAtExpiry (s.withStamp (s.stamp + 1))))))

/-- BASE_INTERVAL_EXPIRY (R142). -/
def execBaseIntervalExpiry (s : State) : Host.Outcome State Fault Refusal := .next (whileReleased expireInterval s)

/-- `share` taken where `due` holds. -/
def whenDue (due : State → Bool) (share : State → State) (s : State) : State := if due s then share s else s

/-- The next expiry brings the L1 freshness count to 0 (R32). -/
def l1Due (s : State) : Bool := decide (s.intake.l1 = .fresh) && decide (s.intake.l1Count ≤ 1)

/-- L1_LINK_STALE (R34): L1 goes STALE, PROP_LINK_LOST is raised, and the standstill counter is set to 0. -/
def execL1LinkStale (s : State) : Host.Outcome State Fault Refusal :=
  .next (whileReleased (whenDue l1Due fun s => countStandstill (countL1 s)) s)

/-- The next expiry brings the L2 freshness count to 0 (R32). -/
def l2Due (s : State) : Bool := decide (s.intake.l2 = .fresh) && decide (s.intake.l2Count ≤ 1)

/-- L2_LINK_STALE (R36): L2 goes STALE, the FALLBACK DEMAND and setpoint are formed, the grace count is 0. -/
def execL2LinkStale (s : State) : Host.Outcome State Fault Refusal :=
  .next (whileReleased (whenDue l2Due countL2) s)

/-- The next expiry brings the grace count to L2_GRACE with CHASSIS_LINK_LOST still absent (R39). -/
def graceDue (s : State) : Bool :=
  decide (s.intake.l2 = .stale) && decide (l2Grace s.store.image ≤ s.intake.grace + 1) && !s.present.chassisLinkLost

/-- CHASSIS_LINK_LOST (R39): the grace count reaches L2_GRACE and the condition is raised. -/
def execChassisLinkLost (s : State) : Host.Outcome State Fault Refusal :=
  .next (whileReleased (whenDue graceDue stepGrace) s)

/-- The next expiry brings the hold count of wheel `w` to 10 (R97). -/
def holdDue (w : Wheel) (s : State) : Bool :=
  decide ((s.thermal.motor.get w).hold = .holding) && decide (9 ≤ (s.thermal.motor.get w).holdCount)

/-- SENSOR_HOLD_EXPIRED (R97): the wheel goes to EXPIRED, its band to 7, and its timer is handed the band (R98, R103).
-/
def execSensorHoldExpired (w : Wheel) (s : State) : Host.Outcome State Fault Refusal :=
  .next (whileReleased (whenDue (holdDue w) fun s =>
    onMotor w (fun m => handBand s.store.image (formMotorBand s.store.image (countHold m))) s) s)

/-- The next expiry brings the BOOST count of wheel `w` to BOOST_A (R102). -/
def boostDue (w : Wheel) (s : State) : Bool :=
  decide ((s.thermal.motor.get w).boost.state = .boost) &&
    decide (boostA s.store.image ≤ (s.thermal.motor.get w).boost.count + 1)

/-- BOOST_WINDOW_END (R102): the timer goes to RECOVER with count 0 and the current motor band as its reference. -/
def execBoostWindowEnd (w : Wheel) (s : State) : Host.Outcome State Fault Refusal :=
  .next (whileReleased (whenDue (boostDue w) fun s => onMotor w (countMotorBoost s.store.image) s) s)

/-- The next expiry brings the RECOVER count of wheel `w` to BOOST_B (R104). -/
def recoverDue (w : Wheel) (s : State) : Bool :=
  decide ((s.thermal.motor.get w).boost.state = .recover) &&
    decide (boostB s.store.image ≤ (s.thermal.motor.get w).boost.count + 1)

/-- RECOVER_END (R104): the timer returns to IDLE with count 0 and no reference band. -/
def execRecoverEnd (w : Wheel) (s : State) : Host.Outcome State Fault Refusal :=
  .next (whileReleased (whenDue (recoverDue w) fun s => onMotor w (countMotorBoost s.store.image) s) s)

/-- The next expiry brings the steering-pressure counter from 19 to 20 (R84). -/
def pressureDue (s : State) : Bool := decide (s.traction.pressureCount = 19) && decide (pressureCountAfter s = 20)

/-- STEER_PRESSURE_LOW (R84): the counter reaches 20 and the condition is raised with the pressure read. -/
def execSteerPressureLow (s : State) : Host.Outcome State Fault Refusal :=
  .next (whileReleased (whenDue pressureDue steeringAtExpiry) s)

/-- The next expiry brings the progress to the HEAD's need (R119). -/
def advanceDue (s : State) : Bool :=
  match s.planner.state, s.planner.queue with
  | .active, seg :: _ => decide (segmentNeed seg ≤ (addProgress s).planner.progress)
  | _, _ => false

/-- PLAN_ADVANCE (R119): the HEAD is removed with carry, and the next HEAD is computed or the plan ends. -/
def execPlanAdvance (s : State) : Host.Outcome State Fault Refusal :=
  .next (whileReleased (whenDue advanceDue travelPlan) s)

/-- The next expiry brings the shortfall count to SHORTFALL_INTERVALS with RETARD_SHORTFALL still absent (R127). -/
def shortfallDue (s : State) : Bool := shortfallRuns s && shortfallReaches s && !s.present.retardShortfall

/-- RETARD_SHORTFALL (R127): the count reaches SHORTFALL_INTERVALS and the condition is raised. -/
def execRetardShortfall (s : State) : Host.Outcome State Fault Refusal :=
  .next (whileReleased (whenDue shortfallDue stepShortfall) s)

/-- The next expiry brings the lockout count to 0 (R172). -/
def lockoutDue (s : State) : Bool :=
  match s.store.lockout with
  | some n => decide (n ≤ 1)
  | none => false

/-- LOCKOUT_END (R172): the lockout is over. -/
def execLockoutEnd (s : State) : Host.Outcome State Fault Refusal :=
  .next (whileReleased (whenDue lockoutDue fun s => s.withStore (countLockout s.store)) s)

/-- The next expiry brings the service idle count to SERVICE_IDLE (R174). -/
def idleDue (s : State) : Bool :=
  decide (s.store.accessLevel ≠ 0) && decide (serviceIdle s.store.image ≤ s.store.idleCount + 1)

/-- SERVICE_IDLE_TIMEOUT (R174): the ACCESS LEVEL drops to 0 and the count is set to 0. -/
def execServiceIdleTimeout (s : State) : Host.Outcome State Fault Refusal :=
  .next (whileReleased (whenDue idleDue fun s => s.withStore (countIdle s.store)) s)

end Sys2Proof.Machine
end

