-- ==== Sys2Proof/Machine/Line.lean ====
section
/-! DEFINITION. Meanings: events on the line of a port, check failures and unknown requests, and the sending of
replies. -/

namespace Sys2Proof.Machine

/-- MARKER_CHARACTER (R153, R154, R158). -/
def execMarkerCharacter (p : PortId) (address : Byte) (s : State) : Host.Outcome State Fault Refusal :=
  .next (whileReleased (onMarker p address) s)

/-- FRAMING_ERROR (R154, R155). -/
def execFramingError (p : PortId) (s : State) : Host.Outcome State Fault Refusal :=
  .next (whileReleased (onFramingError p) s)

/-- GAP_TIMEOUT (R154, R155). -/
def execGapTimeout (p : PortId) (s : State) : Host.Outcome State Fault Refusal := .next (whileReleased (onGap p) s)

/-- LENGTH_ERROR (R155). -/
def execLengthError (p : PortId) (length : Byte) (s : State) : Host.Outcome State Fault Refusal :=
  .next (whileReleased (onLength p length) s)

/-- SHORT_BREAK (R159). -/
def execShortBreak (p : PortId) (s : State) : Host.Outcome State Fault Refusal :=
  .next (whileReleased (onShortBreak p) s)

/-- LONG_BREAK (R160). -/
def execLongBreak (p : PortId) (s : State) : Host.Outcome State Fault Refusal := .next (whileReleased (onLongBreak p) s)

/-- CHECK_FAILURE (R156). -/
def execCheckFailure (p : PortId) (code : Byte) (payload : List Byte) (check : Byte) (s : State) :
    Host.Outcome State Fault Refusal :=
  .next (whileReleased (onCheckFailure p code payload check) s)

/-- UNKNOWN_REQUEST (R156). A code the port lists is no unknown request and is left to its own command (DESIGN CHOICE,
log 4). -/
def execUnknownRequest (p : PortId) (code : Byte) (payload : List Byte) (s : State) :
    Host.Outcome State Fault Refusal :=
  .next (whileReleased (fun s => if isListed p code then s else serveRequest p code payload answerUnknown s) s)

/-- REPLY_BEGIN (R154, R157). -/
def execReplyBegin (p : PortId) (s : State) : Host.Outcome State Fault Refusal := .next (whileReleased (beginReply p) s)

/-- REPLY_COMPLETE (R154, R188). -/
def execReplyComplete (p : PortId) (s : State) : Host.Outcome State Fault Refusal :=
  .next (whileReleased (completeReply p) s)

end Sys2Proof.Machine
end

