-- ==== Sys2Proof/Machine/PropulsionLink.lean ====
section
/-! DEFINITION. Meanings: the requests of L1 (MEASURE, GRANT_READ), LINK_STATUS, and PASS_COMPLETION. -/

namespace Sys2Proof.Machine

/-- An accepted MEASURE taken by the INTAKE UNIT, the THERMAL MONITOR, the DESCENT PLANNER and torque supervision, in that
order (R22, R44); supervision compares with the GRANT as it stood when the MEASURE was received (R66). -/
def takeMeasure (m : MeasurementRecord) (s : State) : State :=
  supervise s.engine.grant.torque m (judgeOverspeed m (thermalAtMeasure m (intakeAtMeasure m s)))

/-- The ALLOCATION ENGINE at an accepted MEASURE (R44): in STARTUP the GRANT RECORD is the reply; with the pass state IDLE
a pass starts; with a pass in flight the MEASURE goes to the held slot (R62, R63). -/
def engineAtMeasure (payload : List Byte) (s : State) : State × Option ReplyBody :=
  if s.mode = .startup then (s, some (grantReply s))
  else if s.engine.pass = none then (startPass s, none)
  else (s.withHeldMeasure (some payload), none)

/-- The owners of a MEASURE (R22): refused LENGTH unless 23 bytes, else accepted. -/
def handleMeasure (payload : List Byte) (s : State) : State × Option ReplyBody :=
  if payload.length = 23 then engineAtMeasure payload (takeMeasure (readMeasure payload) s)
  else (s, some (bare .length))

/-- MEASURE (R22, R44), on L1. -/
def execMeasure (payload : List Byte) (s : State) : Host.Outcome State Fault Refusal :=
  .next (whileReleased (serveRequest .l1 0x10 payload (handleMeasure payload)) s)

/-- The reply of a pass at its completion, where the L1 port still owes it (R58 step 4): formed, and begun unless a break
holds the line at space (R157, DESIGN CHOICE, log 11). -/
def replyOfPass (lineAtSpace : Bool) (s : State) : State :=
  match s.portL1.receive with
  | .replyPending address code none =>
    if lineAtSpace then setReceive .l1 (.replyPending address code (some (grantReply s))) s
    else setReceive .l1 (.replying ⟨address, code, grantReply s⟩) s
  | _ => s

/-- What completion hands on after the record is written (R58): the waiting swap, then the held MEASURE's pass or the
reply. -/
def handOn (lineAtSpace : Bool) (s : State) : State :=
  let t := trySwap s
  match t.heldMeasure with
  | some _ => startPass (t.withHeldMeasure none)
  | none => replyOfPass lineAtSpace t

/-- A pass that has run its stages completes (R56 to R58). -/
def completePass (lineAtSpace : Bool) (s : State) : State :=
  match s.engine.pass with
  | some (.computed w) => handOn lineAtSpace (writeGrant w s)
  | _ => s

/-- PASS_COMPLETION (R56 to R58), while a pass is in flight: stages 1 to 8 run where they have not run yet, then the pass
completes. -/
def execPassCompletion (lineAtSpace : Bool) (s : State) : Host.Outcome State Fault Refusal :=
  .next (whileReleased (fun s => completePass lineAtSpace (runStages s)) s)

/-- GRANT_READ (R163), on L1. -/
def execGrantRead (payload : List Byte) (s : State) : Host.Outcome State Fault Refusal :=
  .next (whileReleased (serveRequest .l1 0x11 payload (answerRead 0 payload grantReply)) s)

/-- LINK_STATUS (R162), on any port. -/
def execLinkStatus (p : PortId) (payload : List Byte) (s : State) : Host.Outcome State Fault Refusal :=
  .next (whileReleased (serveRequest p 0x1F payload (answerRead 0 payload fun t => ⟨.ok, linkStatusBytes p t⟩)) s)

end Sys2Proof.Machine
end

