-- ==== Sys2Proof/Machine/Resets.lean ====
section
/-! DEFINITION. Meanings: resets and start-up validation (COLD_RESET, RESET_N_RELEASE, VALIDATION_COMPLETE,
WARM_RESTART). -/

namespace Sys2Proof.Machine

/-- COLD_RESET (R150): every block takes its cold-reset values (R43, R68, R86, R108, R128, R168, R189), the part is held
with the mode STARTUP and TRIP_OUT_N asserted, and the NONVOLATILE ARRAY is kept but for a row being programmed
(R184). -/
def execColdReset (s : State) : Host.Outcome State Fault Refusal :=
  .next (((State.coldReset (nvAfterColdReset s.freeCount s.store)).withFreeCount
    (s.freeCount + freeTakenByReset s.store)).withPending s.pending)

/-- RESET_N_RELEASE (R17): the timer and start-up validation start. RESET_N already high: no change (DESIGN CHOICE,
log 4). -/
def execResetNRelease (s : State) : Host.Outcome State Fault Refusal :=
  .next (if s.resetLow then startValidation (s.withResetLow false) else s)

/-- Validation completes: the rows left are decided, and the mode goes from STARTUP to PARKED (R19, R130). -/
def completeValidation (r : Nat) (s : State) : State :=
  changeMode .parked ((validateRows (23 - r) s).withValidation none)

/-- VALIDATION_COMPLETE (R19, R130), while validation runs. -/
def execValidationComplete (s : State) : Host.Outcome State Fault Refusal :=
  .next (whileReleased (fun s =>
    match s.validation with
    | some r => completeValidation r s
    | none => s) s)

/-- The THERMAL MONITOR after a warm restart (R108): grid and BOOST TIMERS kept, the sensor copy marked INVALID. -/
def thermalAfterWarm (t : Thermal) : Thermal :=
  { grid := t.grid.map fun g => { g with sensorValid := false }
    gd := t.gd
    motor := t.motor.map fun m => .afterReset m.boost }

/-- The part with every block at its warm-restart values, before validation (R43, R68, R86, R108, R128, R150, R168,
R189). -/
def afterWarmRestart (s : State) : State :=
  refreshLine
    { s with
      mode := .startup
      portL1 := .afterReset, portL2 := .afterReset, portL3 := .afterReset, heldMeasure := none
      intake := .afterReset, store := .afterReset s.store.nv, engine := .afterReset, traction := .afterReset
      thermal := thermalAfterWarm s.thermal, planner := .afterReset, present := .clear
      restartDue := false }

/-- The warm restart can be made: the last character of an accepted RESTART's reply has been sent (R188), and the Row
Programmer is IDLE, for a warm restart does not fall during a program (R184). -/
def warmRestartDue (s : State) : Bool := s.restartDue && decide (s.store.programmer = .idle)

/-- WARM_RESTART (R184, R188), where it is due: the blocks take their warm-restart values and validation runs again (DESIGN
CHOICE, logs 4 and 12). -/
def execWarmRestart (s : State) : Host.Outcome State Fault Refusal :=
  .next (whileReleased (fun s => if warmRestartDue s then startValidation (afterWarmRestart s) else s) s)

end Sys2Proof.Machine
end

