-- ==== Sys2Proof/Machine/ServiceLink.lean ====
section
/-! DEFINITION. Meanings: the requests of L3 (file 09, FAULT_ACK of file 07) and PROGRAM_VERIFY. -/

namespace Sys2Proof.Machine

/-! ### FAULT_ACK (R148) -/

/-- FAULT_ACK handled by the TRIP UNIT (R148). -/
def handleFaultAck (payload : List Byte) (s : State) : State × Option ReplyBody :=
  if payload.length ≠ 0 then (s, some (bare .length))
  else if s.store.accessLevel < 1 then (s, some (bare .refusedAccess))
  else
    let t := s.withTrips { s.trips with faults := s.trips.faults.filter fun r => !r.cleared }
    (t, some ⟨.ok, oneByte t.trips.faults.length⟩)

/-- FAULT_ACK (R148), on L3. -/
def execFaultAck (payload : List Byte) (s : State) : Host.Outcome State Fault Refusal :=
  .next (whileReleased (serveRequest .l3 0x36 payload (handleFaultAck payload)) s)

/-! ### Access (R170, R171, R173) -/

/-- An ACCESS answered OK carries the level in force (R169, Table 8-7). -/
def accessReply (s : State) : Option ReplyBody := some ⟨.ok, oneByte s.store.accessLevel⟩

/-- The code test with codes set (R170). -/
def testCode (level : Nat) (code : BitVec 32) (s : State) : State × Option ReplyBody :=
  if code = accessCode s.store.image level then
    let t := s.withStore (grantAccess level s.store)
    (t, accessReply t)
  else (s.withStore (failAccess s.store), some (bare .refusedAccess))

/-- The judgement with codes unset, on the state of the truck alone (R171). -/
def testTruck (s : State) : State × Option ReplyBody :=
  if s.mode = .parked ∧ standstillConfirmed s.intake then
    let t := s.withStore (grantAccess 2 s.store)
    (t, accessReply t)
  else (s, some (bare .refusedAccess))

/-- ACCESS handled by the TABLE STORE: LENGTH, RANGE, LOCKED_OUT, then the code test (R170, R171). -/
def handleAccess (payload : List Byte) (s : State) : State × Option ReplyBody :=
  let level := (byteAt payload 0).toNat
  if payload.length ≠ 5 then (s, some (bare .length))
  else if level ≠ 1 ∧ level ≠ 2 then (s, some (bare .range))
  else if s.store.lockout.isSome then (s, some (bare .lockedOut))
  else if rowIsLimp s.store.image 22 then testTruck s
  else testCode level (longAt payload 1) s

/-- ACCESS (R170), on L3. -/
def execAccess (payload : List Byte) (s : State) : Host.Outcome State Fault Refusal :=
  .next (whileReleased (serveRequest .l3 0x30 payload (handleAccess payload)) s)

/-- LOGOUT handled by the TABLE STORE (R173). -/
def handleLogout (payload : List Byte) (s : State) : State × Option ReplyBody :=
  if payload.length ≠ 0 then (s, some (bare .length))
  else (s.withStore { s.store with accessLevel := 0 }, some (bare .ok))

/-- LOGOUT (R173), on L3. -/
def execLogout (payload : List Byte) (s : State) : Host.Outcome State Fault Refusal :=
  .next (whileReleased (serveRequest .l3 0x31 payload (handleLogout payload)) s)

/-! ### Rows (R175 to R178) -/

/-- The ROW_READ reply for a payload of one byte (R175). -/
def rowReadReply (payload : List Byte) (s : State) : ReplyBody :=
  let r := (byteAt payload 0).toNat
  if 22 < r then bare .range else ⟨.ok, rowReadBytes r s.store⟩

/-- ROW_READ (R175), on L3. -/
def execRowRead (payload : List Byte) (s : State) : Host.Outcome State Fault Refusal :=
  .next (whileReleased (serveRequest .l3 0x32 payload (answerRead 1 payload (rowReadReply payload))) s)

/-- The payload length of a ROW_STAGE is 2 + 2k for k from 1 to 8 (R176). -/
def stageLengthFits (n : Nat) : Bool := decide (n % 2 = 0) && decide (4 ≤ n) && decide (n ≤ 18)

/-- The first check of R176 that a ROW_STAGE fails, or OK. -/
def stageResult (payload : List Byte) (s : State) : Result :=
  if ¬stageLengthFits payload.length then .length
  else if s.mode = .startup ∨ s.store.programmer ≠ .idle then .busy
  else if 22 < (byteAt payload 0).toNat ∨ 7 < (byteAt payload 1).toNat then .range
  else if s.store.accessLevel < writeLevel (byteAt payload 0).toNat then .refusedAccess
  else .ok

/-- ROW_STAGE handled by the TABLE STORE (R176, R177). -/
def handleStage (payload : List Byte) (s : State) : State × Option ReplyBody :=
  match stageResult payload s with
  | .ok =>
    (s.withStore (stageValues (byteAt payload 0).toNat (byteAt payload 1).toNat
      (readValues ((payload.length - 2) / 2) (payload.drop 2)) s.store), some (bare .ok))
  | r => (s, some (bare r))

/-- ROW_STAGE (R176, R177), on L3. -/
def execRowStage (payload : List Byte) (s : State) : Host.Outcome State Fault Refusal :=
  .next (whileReleased (serveRequest .l3 0x33 payload (handleStage payload)) s)

/-- ROW_COMMIT handled by the TABLE STORE: the checks of R178 in order, then the program starts (R180). -/
def handleCommit (payload : List Byte) (s : State) : State × Option ReplyBody :=
  if payload.length ≠ 1 then (s, some (bare .length))
  else if s.mode = .startup then (s, some (bare .busy))
  else
    match commitResult (byteAt payload 0).toNat s with
    | .ok => (s.withStore { s.store with programmer := .programming }, some (bare .ok))
    | r => (s, some (bare r))

/-- ROW_COMMIT (R178), on L3. -/
def execRowCommit (payload : List Byte) (s : State) : Host.Outcome State Fault Refusal :=
  .next (whileReleased (serveRequest .l3 0x34 payload (handleCommit payload)) s)

/-- PROGRAM_VERIFY (R181, R182): while the programmer is PROGRAMMING, the end of the program, the read back and the swap
where it is allowed. -/
def execProgramVerify (found : Option NvRow) (s : State) : Host.Outcome State Fault Refusal :=
  .next (whileReleased (fun s =>
    match s.store.programmer, s.store.stage with
    | .programming, some st => trySwap (s.withStore (verifyStore st (programmedRow st found) s.store))
    | _, _ => s) s)

/-! ### Reads (R185 to R187) -/

/-- STORE_STATUS (R185), on L3. -/
def execStoreStatus (payload : List Byte) (s : State) : Host.Outcome State Fault Refusal :=
  .next (whileReleased (serveRequest .l3 0x35 payload
    (answerRead 0 payload fun t => ⟨.ok, storeStatusBytes t.store⟩)) s)

/-- COUNTERS_READ (R186), on L3. -/
def execCountersRead (payload : List Byte) (s : State) : Host.Outcome State Fault Refusal :=
  .next (whileReleased (serveRequest .l3 0x37 payload (answerRead 0 payload fun t => ⟨.ok, countersReadBytes t⟩)) s)

/-- The MODEL_READ reply for a payload of one byte (R186). -/
def modelReadReply (payload : List Byte) (s : State) : ReplyBody :=
  if byteAt payload 0 = 0 then ⟨.ok, modelPage0 s⟩
  else if byteAt payload 0 = 1 then ⟨.ok, modelPage1 s⟩
  else bare .range

/-- MODEL_READ (R186), on L3. -/
def execModelRead (payload : List Byte) (s : State) : Host.Outcome State Fault Refusal :=
  .next (whileReleased (serveRequest .l3 0x38 payload (answerRead 1 payload (modelReadReply payload))) s)

/-- IDENT_READ (R187), on L3. -/
def execIdentRead (payload : List Byte) (s : State) : Host.Outcome State Fault Refusal :=
  .next (whileReleased (serveRequest .l3 0x39 payload
    (answerRead 0 payload fun t => ⟨.ok, identBytes t.store.image⟩)) s)

/-! ### RESTART (R188) -/

/-- The first check of R188 that a RESTART fails, or OK. -/
def restartResult (payload : List Byte) (s : State) : Result :=
  if payload.length ≠ 0 then .length
  else if s.mode = .startup then .busy
  else if s.store.accessLevel < 2 then .refusedAccess
  else if s.store.programmer ≠ .idle then .busy
  else if ¬(s.mode = .parked ∧ standstillConfirmed s.intake) then .refusedMode
  else .ok

/-- RESTART handled by the TABLE STORE: it only answers; the warm restart follows the reply (R188). -/
def handleRestart (payload : List Byte) (s : State) : State × Option ReplyBody := (s, some (bare (restartResult payload s)))

/-- RESTART (R188), on L3. -/
def execRestart (payload : List Byte) (s : State) : Host.Outcome State Fault Refusal :=
  .next (whileReleased (serveRequest .l3 restartCode payload (handleRestart payload)) s)

end Sys2Proof.Machine
end

