-- ==== Sys2Proof/Machine/Dispatch.lean ====
section
/-! DEFINITION. The dispatch: one arm per command. -/

namespace Sys2Proof.Machine

-- The effect of a command on everything but the queue.
def exec (i : Instr) (s : State) : Host.Outcome State Fault Refusal :=
  match i with
  | .coldReset => Sys2Proof.Machine.execColdReset s
  | .resetNRelease => Sys2Proof.Machine.execResetNRelease s
  | .validationComplete => Sys2Proof.Machine.execValidationComplete s
  | .warmRestart => Sys2Proof.Machine.execWarmRestart s
  | .baseIntervalExpiry => Sys2Proof.Machine.execBaseIntervalExpiry s
  | .l1LinkStale => Sys2Proof.Machine.execL1LinkStale s
  | .l2LinkStale => Sys2Proof.Machine.execL2LinkStale s
  | .chassisLinkLost => Sys2Proof.Machine.execChassisLinkLost s
  | .sensorHoldExpired wheel => Sys2Proof.Machine.execSensorHoldExpired wheel s
  | .boostWindowEnd wheel => Sys2Proof.Machine.execBoostWindowEnd wheel s
  | .recoverEnd wheel => Sys2Proof.Machine.execRecoverEnd wheel s
  | .steerPressureLow => Sys2Proof.Machine.execSteerPressureLow s
  | .planAdvance => Sys2Proof.Machine.execPlanAdvance s
  | .retardShortfall => Sys2Proof.Machine.execRetardShortfall s
  | .lockoutEnd => Sys2Proof.Machine.execLockoutEnd s
  | .serviceIdleTimeout => Sys2Proof.Machine.execServiceIdleTimeout s
  | .markerCharacter port address => Sys2Proof.Machine.execMarkerCharacter port address s
  | .framingError port => Sys2Proof.Machine.execFramingError port s
  | .gapTimeout port => Sys2Proof.Machine.execGapTimeout port s
  | .lengthError port length => Sys2Proof.Machine.execLengthError port length s
  | .shortBreak port => Sys2Proof.Machine.execShortBreak port s
  | .longBreak port => Sys2Proof.Machine.execLongBreak port s
  | .checkFailure port code payload check => Sys2Proof.Machine.execCheckFailure port code payload check s
  | .unknownRequest port code payload => Sys2Proof.Machine.execUnknownRequest port code payload s
  | .replyBegin port => Sys2Proof.Machine.execReplyBegin port s
  | .replyComplete port => Sys2Proof.Machine.execReplyComplete port s
  | .measure payload => Sys2Proof.Machine.execMeasure payload s
  | .passCompletion lineAtSpace => Sys2Proof.Machine.execPassCompletion lineAtSpace s
  | .grantRead payload => Sys2Proof.Machine.execGrantRead payload s
  | .linkStatus port payload => Sys2Proof.Machine.execLinkStatus port payload s
  | .demand payload => Sys2Proof.Machine.execDemand payload s
  | .planAppend payload => Sys2Proof.Machine.execPlanAppend payload s
  | .planStart payload => Sys2Proof.Machine.execPlanStart payload s
  | .planClear payload => Sys2Proof.Machine.execPlanClear payload s
  | .planRead payload => Sys2Proof.Machine.execPlanRead payload s
  | .tripClear payload => Sys2Proof.Machine.execTripClear payload s
  | .faultRead port payload => Sys2Proof.Machine.execFaultRead port payload s
  | .faultAck payload => Sys2Proof.Machine.execFaultAck payload s
  | .access payload => Sys2Proof.Machine.execAccess payload s
  | .logout payload => Sys2Proof.Machine.execLogout payload s
  | .rowRead payload => Sys2Proof.Machine.execRowRead payload s
  | .rowStage payload => Sys2Proof.Machine.execRowStage payload s
  | .rowCommit payload => Sys2Proof.Machine.execRowCommit payload s
  | .programVerify found => Sys2Proof.Machine.execProgramVerify found s
  | .storeStatus payload => Sys2Proof.Machine.execStoreStatus payload s
  | .countersRead payload => Sys2Proof.Machine.execCountersRead payload s
  | .modelRead payload => Sys2Proof.Machine.execModelRead payload s
  | .identRead payload => Sys2Proof.Machine.execIdentRead payload s
  | .restart payload => Sys2Proof.Machine.execRestart payload s

end Sys2Proof.Machine
end

