-- ==== Sys2Proof/Machine/Idle.lean ====
section
/-! DEFINITION. What the part does by itself, with no command waiting. -/

namespace Sys2Proof.Machine

/-- With no command waiting, start-up validation takes its next row while it runs (DESIGN CHOICE, log 6), a pass that has
taken its snapshot runs stages 1 to 8 (DESIGN CHOICE, log 7), and otherwise the part idles. -/
def idleWork (s : State) : State := whileReleased (fun s => runStages (validateNext s)) s

end Sys2Proof.Machine
end

