-- ==== Sys2Proof/Safety.lean ====
section
/-! DEFINITION. What a sound state is: the promises the manual makes of the whole part, block by block, as the
statements use them. -/

namespace Sys2Proof.Safety

open Sys2Proof.Machine

/-! ### Trips, the line and the torques (R60, R61, R135, R137) -/

/-- The trip level is D exactly while a class-D code is latched, and NONE exactly while no code is latched (R135). -/
def levelSound (t : Trips) : Prop :=
  (t.level = .d ↔ ∃ c, c.classD = true ∧ t.latched.get c = true) ∧
  (t.level = .none ↔ ∀ c, t.latched.get c = false)

/-- TRIP_OUT_N is asserted exactly while the trip level is D or the mode is STARTUP, and both granted torques are zero
while it is asserted (R137). -/
def lineSound (s : State) : Prop :=
  levelSound s.trips ∧
  (s.tripOut = true ↔ s.trips.level = .d ∨ s.mode = .startup) ∧
  (s.tripOut = true → s.engine.grant.torque = ⟨0, 0⟩)

/-- No granted torque is positive but with the trip level NONE, the mode DRIVE, a payload band below 7 and no brake flag
set in the demand in force (R61; trip level D: R60). -/
def propelSound (s : State) : Prop :=
  ∀ w, 0 < s.engine.grant.torque.get w →
    s.trips.level = .none ∧ s.mode = .drive ∧ payloadBand s.intake < 7 ∧
    (demandInForce s.intake).park = false ∧ (demandInForce s.intake).service = false

/-! ### The FAULT LIST (R141) -/

/-- How many ACTIVE records of code `c` a list holds. -/
def activeCount (c : TripCode) (faults : List FaultRecord) : Nat :=
  (faults.filter fun r => decide (r.code = c) && !r.cleared).length

/-- A signed figure that two bytes carry. -/
abbrev carries (x : Int) : Prop := -32768 ≤ x ∧ x ≤ 32767

/-- The figures of a FAULT RECORD within the ranges of R141: occurrences in 1..255, the reference speed at the latch in 0..7000,
the grid temperature in −50..700, and a detail of 16 bits, unsigned for the voltage of DC_LINK_OVERVOLT and signed for every
other code (R134, Table 8-5). -/
def recordSound (r : FaultRecord) : Prop :=
  1 ≤ r.occurrences ∧ r.occurrences ≤ 255 ∧ r.refSpeed ≤ 7000 ∧ (∀ x, r.gridTemp = some x → -50 ≤ x ∧ x ≤ 700) ∧
  ∀ x, r.detail = some x → (r.code = .dcLinkOvervolt → 0 ≤ x ∧ x ≤ 65535) ∧ (r.code ≠ .dcLinkOvervolt → carries x)

/-- Every latched trip has exactly one ACTIVE record, every ACTIVE record belongs to a latched trip, the list never holds
more than 16 records, and each record's figures stay in their ranges (R141). -/
def faultsSound (t : Trips) : Prop :=
  t.faults.length ≤ 16 ∧
  (∀ c, activeCount c t.faults = if t.latched.get c = true then 1 else 0) ∧
  (∀ r ∈ t.faults, recordSound r)

/-! ### The plan (R109, R110, R123) -/

/-- A stored SEGMENT RECORD within the ranges of R110. -/
def segmentSound (seg : Segment) : Prop :=
  1 ≤ seg.length ∧ seg.length ≤ 5000 ∧ -200 ≤ seg.grade ∧ seg.grade ≤ 200 ∧ 300 ≤ seg.target ∧ seg.target ≤ 7000

/-- A head effective speed of HEAD `seg`: 300..7000, at most the target, and PLAN_INFEASIBLE only with PLAN_DERATED
(R123). -/
def headSound (seg : Segment) (h : HeadLimit) : Prop :=
  300 ≤ h.speed ∧ h.speed ≤ 7000 ∧ h.speed ≤ seg.target ∧ (h.infeasible = true → h.derated = true)

/-- The row of R109's table that the plan state names. -/
def planStateSound (p : Planner) : Prop :=
  match p.state with
  | .empty => p.queue = [] ∧ p.progress = 0 ∧ p.head = none
  | .loaded => p.queue ≠ [] ∧ p.progress = 0 ∧ p.head = none
  | .active =>
    ∃ seg rest h, p.queue = seg :: rest ∧ p.progress < seg.length * 3600 ∧ p.head = some h ∧ headSound seg h

/-- The plan as R109 and R110 keep it: at most 16 segments, each in range, the table of R109, and the counts of completed
and abandoned plans in 0..65535. -/
def planSound (p : Planner) : Prop :=
  p.queue.length ≤ 16 ∧ (∀ seg ∈ p.queue, segmentSound seg) ∧ planStateSound p ∧
  p.completed ≤ 65535 ∧ p.abandoned ≤ 65535

/-! ### Start-up (R17, R44, R129) -/

/-- The mode is STARTUP exactly while RESET_N is low or validation runs; then no pass runs, no MEASURE is held and the Row
Programmer is IDLE (R19, R44, R129, R137). -/
def startupSound (s : State) : Prop :=
  (s.mode = .startup ↔ s.resetLow = true ∨ s.validation.isSome = true) ∧
  (s.mode = .startup → s.engine.pass = none ∧ s.heldMeasure = none ∧ s.store.programmer = .idle)

/-! ### The tables (R2, R7, R18, R179, R180) -/

/-- The pair of rows k and k + 4 has been decided: validation does not run, or has gone past row k + 4 (R18). -/
def pairDecided (s : State) (k : Nat) : Prop := ∀ r, s.validation = some r → k + 4 < r

/-- Every row of the WORKING IMAGE passes its range test, and each PROPEL_CONT entry of a decided pair is at or below the
PROPEL_PEAK entry of the same index (R2, R7, R18, R179). -/
def imageSound (s : State) : Prop :=
  (∀ r, r < 23 → rangePasses r (imageRow s.store.image r) = true) ∧
  (∀ k, k < 4 → pairDecided s k → pairAgrees (imageRow s.store.image k) (imageRow s.store.image (k + 4)) = true)

/-- The STAGE BUFFER holds a row of the tables (R176). While the Row Programmer is not IDLE, its row is in the buffer and
passed the range test of R179 against the WORKING IMAGE as it stands (R178 to R180). -/
def programmerSound (t : Store) : Prop :=
  (∀ st, t.stage = some st → st.row < 23) ∧
  (t.programmer ≠ .idle →
    ∃ st, t.stage = some st ∧ commitRangePasses t.image st.row st.entries = true)

/-- The receive state of a port that owes, or is sending, the reply to an accepted RESTART (R188). -/
def restartAccepted : Receive → Prop
  | .replyPending _ code (some body) => code = restartCode ∧ body.result = .ok
  | .replying reply => reply.code = restartCode ∧ reply.body.result = .ok
  | _ => False

/-- From the acceptance of a RESTART to the warm restart that follows its reply the Row Programmer is IDLE, and L3 starts no
frame between the two: a warm restart does not fall during a program (R184, R188). -/
def restartSound (s : State) : Prop :=
  (restartAccepted s.portL3.receive → s.store.programmer = .idle) ∧
  (s.restartDue = true → s.store.programmer = .idle ∧ s.portL3.receive = .idle)

/-- The promises about the tables that go together: start-up, WORKING IMAGE, Row Programmer, RESTART. -/
def tablesSound (s : State) : Prop := startupSound s ∧ imageSound s ∧ programmerSound s.store ∧ restartSound s

/-! ### The GRANT (R52, R55, R57, R59) -/

/-- The torque of a wheel within what its regime and the limit of its sign allow: 0 in COAST, 0..PL in PROPEL, −RL..0 in
RETARD (R57). -/
def withinLimit (regime : Regime) (pl rl : Nat) (torque : Int) : Prop :=
  match regime with
  | .coast => torque = 0
  | .propel => 0 ≤ torque ∧ torque ≤ pl
  | .retard => -(rl : Int) ≤ torque ∧ torque ≤ 0

/-- Each granted torque, and each torque a pass in flight has formed, lies within the limit computed for it in the same
pass (R57). -/
def grantSound (e : Engine) : Prop :=
  (∀ w, withinLimit e.grant.regime (e.grant.propelLimit.get w) (e.grant.retardLimit.get w) (e.grant.torque.get w)) ∧
  (∀ p, e.pass = some (.computed p) →
    ∀ w, withinLimit p.regime (p.propelLimit.get w) (p.retardLimit.get w) (p.torque.get w))

/-- The derates in 0..1000 (R92, R98). -/
def deratesSound (t : Thermal) : Prop := t.gd ≤ 1000 ∧ ∀ w, (t.motor.get w).md ≤ 1000

/-- What a pass in flight has copied and not yet used, within the ranges that its limits rest on: derates in 0..1000, rows
that pass their range test, speeds in 300..7000 (R45, R49, R59). -/
def snapshotSound (n : Snapshot) : Prop :=
  n.gd ≤ 1000 ∧ (∀ w, n.md.get w ≤ 1000) ∧ n.payloadBand ≤ 7 ∧ 300 ≤ n.headSpeed ∧ n.headSpeed ≤ 7000 ∧
  (∀ v, n.demand.setpoint = some v → 300 ≤ v ∧ v ≤ 7000) ∧
  (∀ r, r < 23 → rangePasses r (imageRow n.image r) = true)

/-- Limits and speed limit of the GRANT RECORD and of a pass in flight within the ranges of R59: PL and RL in 0..1600, SL
in 300..7000, the SL in force among it; a pass that has yet to form them has a sound snapshot. -/
def grantRanges (e : Engine) : Prop :=
  (∀ w, e.grant.propelLimit.get w ≤ 1600 ∧ e.grant.retardLimit.get w ≤ 1600) ∧
  300 ≤ e.grant.speedLimit ∧ e.grant.speedLimit ≤ 7000 ∧ 300 ≤ e.speedLimit ∧ e.speedLimit ≤ 7000 ∧
  (∀ p, e.pass = some (.computed p) →
    (∀ w, p.propelLimit.get w ≤ 1600 ∧ p.retardLimit.get w ≤ 1600) ∧ 300 ≤ p.speedLimit ∧ p.speedLimit ≤ 7000) ∧
  (∀ n, e.pass = some (.snapshotTaken n) → snapshotSound n)

/-! ### Passes and replies (R44, R58, R62) -/

/-- A held MEASURE waits for a pass in flight; a pass in flight has a record; a reply owed but not formed is that of a
MEASURE whose pass is in flight, on L1 (R44, R62, R157). -/
def passSound (s : State) : Prop :=
  (s.heldMeasure.isSome = true → s.engine.pass.isSome = true) ∧
  (s.engine.pass.isSome = true → s.intake.measurement.isSome = true) ∧
  (∀ a c, s.portL1.receive = .replyPending a c none → s.engine.pass.isSome = true) ∧
  (∀ a c, s.portL2.receive ≠ .replyPending a c none) ∧
  (∀ a c, s.portL3.receive ≠ .replyPending a c none)

/-! ### The INTAKE UNIT (R23, R25, R27, R29, R30, R32 to R39) -/

/-- The stored DEMAND RECORD within the bounds of R27. -/
def demandSound (d : DemandRecord) : Prop :=
  d.throttle ≤ 1000 ∧ d.lever ≤ 1000 ∧ -400 ≤ d.steer ∧ d.steer ≤ 400 ∧ d.payload ≤ 400 ∧ d.pressure ≤ 300 ∧
  (∀ h, d.hold = some h → 300 ≤ h ∧ h ≤ 7000)

/-- The stored MEASUREMENT RECORD within the bounds of R23, the temperatures stored as received, with the marks of R24. -/
def measurementSound (m : MeasurementRecord) : Prop :=
  (∀ w, -7000 ≤ m.wheelSpeed.get w ∧ m.wheelSpeed.get w ≤ 7000) ∧ m.refSpeed ≤ 7000 ∧
  (∀ w, -2000 ≤ m.achieved.get w ∧ m.achieved.get w ≤ 2000) ∧
  (∀ w, carries (m.winding.get w) ∧ (m.windingValid.get w = true ↔ -50 ≤ m.winding.get w ∧ m.winding.get w ≤ 300)) ∧
  m.gridPower ≤ 6000 ∧ carries m.gridSensor ∧ (m.gridSensorValid = true ↔ -50 ≤ m.gridSensor ∧ m.gridSensor ≤ 700) ∧
  m.voltage ≤ 65535 ∧ -50 ≤ m.ambient ∧ m.ambient ≤ 60

/-- The FALLBACK DEMAND: what it took from the DEMAND RECORD in bounds, and a setpoint of 500..7000 (R36, R37). -/
def fallbackSound (f : FallbackDemand) : Prop :=
  f.lever ≤ 1000 ∧ -400 ≤ f.steer ∧ f.steer ≤ 400 ∧ f.pressure ≤ 300 ∧ 500 ≤ f.setpoint ∧ f.setpoint ≤ 7000

/-- The INTAKE UNIT's records in bounds, and its freshness states consistent: the record absent exactly while L1 is NEVER
(R25), no count while a link is not FRESH (R32), the fallback exactly while L2 is STALE (R35, R36, R38), the grace count
only then (R39), the standstill counter only on a FRESH L1 (R29). -/
def intakeSound (i : Intake) : Prop :=
  demandSound i.demand ∧ (∀ m, i.measurement = some m → measurementSound m) ∧ (∀ f, i.fallback = some f → fallbackSound f) ∧
  (i.l1 = .never ↔ i.measurement = none) ∧ (i.l1 ≠ .fresh → i.l1Count = 0) ∧ (i.l2 ≠ .fresh → i.l2Count = 0) ∧
  (i.l2 = .stale ↔ i.fallback.isSome = true) ∧ (i.l2 ≠ .stale → i.grace = 0) ∧
  (i.l1 ≠ .fresh → i.standstill = 0) ∧ i.standstill ≤ 65535 ∧ i.payload ≤ 400

/-- The present marks of the two link conditions: PROP_LINK_LOST exactly while L1 is STALE (R34), CHASSIS_LINK_LOST only
while L2 is STALE (R39). -/
def linkMarksSound (s : State) : Prop :=
  (s.present.propLinkLost = true ↔ s.intake.l1 = .stale) ∧ (s.present.chassisLinkLost = true → s.intake.l2 = .stale)

/-! ### The THERMAL MONITOR (R87, R91, R92, R95, R98, R100) -/

/-- The seeded grid: G in −800..10400, the effective temperature in −50..700 with its band, the input copy in bounds, its
sensor temperature of 16 bits (R87, R89, R91, R92). -/
def gridSound (g : Grid) : Prop :=
  -800 ≤ g.g ∧ g.g ≤ 10400 ∧ -50 ≤ g.effective ∧ g.effective ≤ 700 ∧ g.band = gridBandOf g.effective ∧
  g.power ≤ 6000 ∧ -50 ≤ g.ambient ∧ g.ambient ≤ 60 ∧ carries g.sensor ∧
  (g.sensorValid = true → -50 ≤ g.sensor ∧ g.sensor ≤ 700)

/-- A BOOST TIMER: the count in 0..6000, in IDLE 0 and no reference band; a reference band belongs to RECOVER (R100). -/
def timerSound (t : BoostTimer) : Prop :=
  t.count ≤ 6000 ∧ (t.state = .idle → t.count = 0) ∧ (t.state ≠ .recover → t.reference = none) ∧ (∀ b, t.reference = some b → b ≤ 7)

/-- A motor: the row of R95's table that the hold state names, a temperature in force of −50..300, which a VALID reading gave
(R24, R96), the band it gives, Md 0 while the band is absent (R98). -/
def motorSound (m : Motor) : Prop :=
  (m.hold = .none → m.temp = none ∧ m.holdCount = 0) ∧ (m.hold = .live → m.temp.isSome = true ∧ m.holdCount = 0) ∧
  (m.hold = .holding → m.temp.isSome = true ∧ m.holdCount ≤ 9) ∧ (m.hold = .expired → m.temp = none) ∧ m.holdCount ≤ 10 ∧
  (∀ x, m.temp = some x → -50 ≤ x ∧ x ≤ 300) ∧ m.band = motorBandNow m ∧ (m.band = none → m.md = 0) ∧ timerSound m.boost

/-- The THERMAL MONITOR: while G is UNSEEDED, Gd is 0 (R87). -/
def thermalSound (t : Thermal) : Prop :=
  (∀ g, t.grid = some g → gridSound g) ∧ (t.grid = none → t.gd = 0) ∧ ∀ w, motorSound (t.motor.get w)

/-! ### Counters that hold at their ends -/

/-- The seven counters of a port in 0..65535 (R161). -/
def portSound (p : Port) : Prop :=
  p.counters.goodFrames ≤ 65535 ∧ p.counters.checkFailures ≤ 65535 ∧ p.counters.framingErrors ≤ 65535 ∧
  p.counters.gapTimeouts ≤ 65535 ∧ p.counters.lengthErrors ≤ 65535 ∧ p.counters.misaddressed ≤ 65535 ∧
  p.counters.superseded ≤ 65535

/-- The traction factors that a pass in flight has copied and not yet used (R45, R69). -/
def copiedFactorsSound (e : Engine) : Prop :=
  ∀ n, e.pass = some (.snapshotTaken n) → ∀ w, 250 ≤ n.tf.get w ∧ n.tf.get w ≤ 1000

/-- The counts that the entries of the tables bound: freshness counters (R32), grace count (R39), shortfall count (R126),
lockout (R172), service idle count (R174). -/
def countsSound (s : State) : Prop :=
  s.intake.l1Count ≤ 50 ∧ s.intake.l2Count ≤ 50 ∧ s.intake.grace ≤ 1200 ∧ s.planner.shortfall ≤ 600 ∧
  (∀ n, s.store.lockout = some n → 1 ≤ n ∧ n ≤ 6000) ∧ s.store.idleCount ≤ 36000

/-- The counters of the part within their ranges: ports (R161), overflow (R143), write failures (R181), excess (R67),
steering pressure (R83), traction factors (R69), the steering reserve (R11, R77), ACCESS LEVEL and failure count (R169, R172),
and the counts that entries of the tables bound. The standstill counter is intakeSound's, hold and BOOST counts are thermalSound's, the plan's counts are
planSound's, the occurrences are faultsSound's. -/
def countersSound (s : State) : Prop :=
  portSound s.portL1 ∧ portSound s.portL2 ∧ portSound s.portL3 ∧ s.trips.overflow ≤ 255 ∧ s.store.writeFail ≤ 65535 ∧
  (∀ w, s.engine.excess.get w ≤ 5) ∧ s.traction.pressureCount ≤ 20 ∧
  (∀ w, 250 ≤ s.traction.tf.get w ∧ s.traction.tf.get w ≤ 1000) ∧ s.traction.reserve ≤ 500 ∧ copiedFactorsSound s.engine ∧
  s.store.accessLevel ≤ 2 ∧ s.store.failures ≤ 2 ∧ countsSound s

end Sys2Proof.Safety
end

