-- ==== Sys2Proof/WellFormed.lean ====
section
/-! DEFINITION. Which commands can arise on the hardware, as far as that does not depend on the state. -/

namespace Sys2Proof

/-- The payload fits a frame: the length byte is at most 48 (R152). -/
def payloadFits (payload : List Byte) : Bool := decide (payload.length ≤ Machine.maxPayload)

/-- A command is well formed:
- the payload of a frame fits (R152);
- the length byte of LENGTH_ERROR is above 48 (R155);
- the code of UNKNOWN_REQUEST is one the port does not list (R156);
- FAULT_READ comes on L2 or L3 (R147). -/
def WellFormed (i : Instr) : Bool :=
  match i with
  | .coldReset => true
  | .resetNRelease => true
  | .validationComplete => true
  | .warmRestart => true
  | .baseIntervalExpiry => true
  | .l1LinkStale => true
  | .l2LinkStale => true
  | .chassisLinkLost => true
  | .sensorHoldExpired _ => true
  | .boostWindowEnd _ => true
  | .recoverEnd _ => true
  | .steerPressureLow => true
  | .planAdvance => true
  | .retardShortfall => true
  | .lockoutEnd => true
  | .serviceIdleTimeout => true
  | .markerCharacter _ _ => true
  | .framingError _ => true
  | .gapTimeout _ => true
  | .lengthError _ length => decide (Machine.maxPayload < length.toNat)
  | .shortBreak _ => true
  | .longBreak _ => true
  | .checkFailure _ _ payload _ => payloadFits payload
  | .unknownRequest port code payload => payloadFits payload && !Machine.isListed port code
  | .replyBegin _ => true
  | .replyComplete _ => true
  | .measure payload => payloadFits payload
  | .passCompletion _ => true
  | .grantRead payload => payloadFits payload
  | .linkStatus _ payload => payloadFits payload
  | .demand payload => payloadFits payload
  | .planAppend payload => payloadFits payload
  | .planStart payload => payloadFits payload
  | .planClear payload => payloadFits payload
  | .planRead payload => payloadFits payload
  | .tripClear payload => payloadFits payload
  | .faultRead port payload => payloadFits payload && decide (port ≠ .l1)
  | .faultAck payload => payloadFits payload
  | .access payload => payloadFits payload
  | .logout payload => payloadFits payload
  | .rowRead payload => payloadFits payload
  | .rowStage payload => payloadFits payload
  | .rowCommit payload => payloadFits payload
  | .programVerify _ => true
  | .storeStatus payload => payloadFits payload
  | .countersRead payload => payloadFits payload
  | .modelRead payload => payloadFits payload
  | .identRead payload => payloadFits payload
  | .restart payload => payloadFits payload

end Sys2Proof
end

