-- ==== Sys2Proof/Certificates/Slice0/Obligations.lean ====
section
/-! DEFINITION. The statements for the provers. Each docstring names the rules of spec/ that its statement formalises.

"Released" is RESET_N high. A port "listens" to address `a` when it collects a frame addressed to `a`: the state in which
a request's last character completes it (R154, R156). -/

namespace Sys2Proof.Claims

open Sys2Proof.Machine Sys2Proof.Safety

/-! ### Words the statements share -/

/-- RESET_N is high and port `p` collects a frame addressed to `a`. -/
def listens (s : State) (p : PortId) (a : Byte) : Prop := s.resetLow = false ∧ (s.port p).receive = .addressed a

/-- A port counter stepped: it holds at 65535 (R161). -/
def stepped (n : Nat) : Nat := min (n + 1) 65535

/-- A port that has taken a sound frame and owes `body` for it (R156). -/
def owing (x : Port) (a code : Byte) (body : Option ReplyBody) : Port :=
  { receive := .replyPending a code body, counters := { x.counters with goodFrames := stepped x.counters.goodFrames } }

/-- A port that has taken a sound frame and owes the reply with result `r` and `payload` (R156, R157). -/
def answered (x : Port) (a code : Byte) (r : Result) (payload : List Byte) : Port := owing x a code (some ⟨r, payload⟩)

/-- The store after the notice of a sound frame on L3: the service idle count is 0 (R174). -/
def noticed (t : Store) : Store := { t with idleCount := 0 }

/-- The engine with the torques of the GRANT RECORD replaced and all else kept. -/
def onlyTorque (e : Engine) (t : Both Int) : Engine := { e with grant := { e.grant with torque := t } }

/-- Each positive torque set to 0, each negative torque kept (R61). -/
def noPositive (t : Both Int) : Both Int := Both.of fun w => if 0 < t.get w then 0 else t.get w

/-! ### The reset values of the tables -/

/-- The INTAKE UNIT of R43's table. -/
def resetIntake : Intake :=
  { demand := { throttle := 0, lever := 0, direction := .neutral, steer := 0, payload := 0, pressure := 0, park := true,
                service := false, hold := none }
    measurement := none, l1 := .never, l1Count := 0, l2 := .never, l2Count := 0
    direction := .neutral, directionHeld := false, standstill := 0, payload := 0, fallback := none, grace := 0 }

/-- The ALLOCATION ENGINE of R68's table. -/
def resetEngine : Engine :=
  { grant := { sequence := 0, torque := ⟨0, 0⟩, propelLimit := ⟨0, 0⟩, retardLimit := ⟨0, 0⟩, speedLimit := 7000
               boost := ⟨false, false⟩, tractionReduced := ⟨false, false⟩, powerLimited := false, speedLimited := false
               regime := .coast }
    speedLimit := 7000, source := .none, retardFraction := 0, pass := none, excess := ⟨0, 0⟩ }

/-- The DESCENT PLANNER of R128's table. -/
def resetPlanner : Planner :=
  { queue := [], state := .empty, progress := 0, head := none, completed := 0, abandoned := 0, shortfall := 0 }

/-- A LINK PORT of R168's table. -/
def resetPort : Port := { receive := .idle, counters := ⟨0, 0, 0, 0, 0, 0, 0⟩ }

/-- A motor of R108's table, with the BOOST TIMER given. -/
def resetMotor (timer : BoostTimer) : Motor :=
  { hold := .none, holdCount := 0, temp := none, band := none, md := 0, boost := timer }

/-- No code marked. -/
def noMarks : TripMarks :=
  ⟨false, false, false, false, false, false, false, false, false, false, false, false⟩

/-- The blocks that both resets set to the same values (R43, R68, R86, R128, R168, R189): the fields of `t` that a cold
reset and a warm restart share. -/
def resetShared (t : State) : Prop :=
  t.mode = .startup ∧ t.tripOut = true ∧ t.portL1 = resetPort ∧ t.portL2 = resetPort ∧ t.portL3 = resetPort ∧
  t.heldMeasure = none ∧ t.intake = resetIntake ∧ t.engine = resetEngine ∧ t.planner = resetPlanner ∧
  t.traction = { tf := ⟨1000, 1000⟩, reserve := steerResHi t.store.image, pressureCount := 0 } ∧
  t.present = noMarks ∧ t.restartDue = false ∧
  t.store.accessLevel = 0 ∧ t.store.failures = 0 ∧ t.store.lockout = none ∧ t.store.idleCount = 0 ∧
  t.store.stage = none ∧ t.store.programmer = .idle ∧ (∀ r, isSuspect t.store r = false) ∧ t.store.writeFail = 0

/-- Every WORKING IMAGE row holds its LIMP SET values with source LIMP (R17). -/
def allLimp (im : Image) : Prop := ∀ r, r < 23 → imageRow im r = limpRow r ∧ rowIsLimp im r = true

/-- Row `r` of the NONVOLATILE ARRAY is the row the Row Programmer is writing. -/
def beingWritten (t : Store) (r : Nat) : Prop := t.programmer = .programming ∧ ∃ st, t.stage = some st ∧ st.row = r

/-! ### Start-up validation (R17, R18) -/

/-- Row `r` is valid alone: the CHECK WORD test and the range test (R17). -/
def aloneValid (t : Store) (r : Nat) : Bool := checkPasses r (nvRow t r) && rangePasses r (nvRow t r).entries

/-- Row `r` ends validation with source NV: rows 0 to 7 by the case table of R18, the others when valid alone (R17). -/
def endsNv (t : Store) (r : Nat) : Bool :=
  if r < 4 then
    match aloneValid t r, aloneValid t (r + 4) with
    | true, true => pairAgrees (nvRow t r).entries (nvRow t (r + 4)).entries
    | true, false => (nvRow t r).entries.toList.all fun e => decide (e.toNat ≤ 800)
    | false, _ => false
  else if r < 8 then
    match aloneValid t (r - 4), aloneValid t r with
    | true, true => pairAgrees (nvRow t (r - 4)).entries (nvRow t r).entries
    | false, true => (nvRow t r).entries.toList.all fun e => decide (800 ≤ e.toNat)
    | _, false => false
  else aloneValid t r

/-- Row `q` stands with source NV after validation has taken the rows below `r`: a row of PROPEL_CONT by itself until its pair
is decided, every other row taken by its end (R17, R18). -/
def tookNv (t : Store) (r q : Nat) : Bool :=
  if r ≤ q then false else if q < 4 ∧ r ≤ q + 4 then aloneValid t q else endsNv t q

/-- The WORKING IMAGE stands as validation leaves it when it has taken the rows below `r` (R17, R18, R19). -/
def standsAfter (t : Store) (r : Nat) : Prop :=
  ∀ q, q < 23 → imageRow t.image q = (if tookNv t r q then (nvRow t q).entries else limpRow q) ∧
    rowIsLimp t.image q = !tookNv t r q

end Sys2Proof.Claims

open Sys2Proof Sys2Proof.Machine Sys2Proof.Safety Sys2Proof.Claims

/-! ### The step and the part held in reset -/

/-- A step runs the command at the front of the queue on the state with the queue's rest; with no command waiting, no
validation running and no pass with stages to run it idles (the model's choice: logs 6, 7 and 15). -/
def Obligations.StepRunsTheFrontCommand : Prop :=
  (∀ (s : State) (c : Instr) (rest : List Instr), s.pending = c :: rest → step s = exec c { s with pending := rest }) ∧
  (∀ s : State, s.pending = [] → s.validation = none → (∀ n, s.engine.pass ≠ some (.snapshotTaken n)) → step s = .next s)

/-- While RESET_N is low, no command but a cold reset and the release changes anything (the model's reading of R1 and R168:
log 1). -/
def Obligations.ResetLowHoldsThePart : Prop :=
  ∀ (s : State) (c : Instr), s.resetLow = true → c ≠ .coldReset → c ≠ .resetNRelease → exec c s = .next s

/-! ### Resets and validation -/

/-- COLD_RESET (R43, R68, R86, R108, R128, R150, R168, R189, R1, R184): every block takes the value of its table, the
NONVOLATILE ARRAY is kept but for a row being written, whose every entry keeps each bit from the old or the new entry. That
RESET_N is then low is the model's (log 1), and so are the bits of the cut-off row (log 9). -/
def Obligations.ColdResetSetsEveryBlock : Prop :=
  ∀ s : State, ∃ t, exec .coldReset s = .next t ∧ resetShared t ∧ t.resetLow = true ∧ t.validation = none ∧ t.stamp = 0 ∧
    t.trips = { latched := noMarks, level := .none, faults := [], overflow := 0 } ∧
    t.thermal = { grid := none, gd := 0, motor := ⟨resetMotor ⟨.idle, 0, none⟩, resetMotor ⟨.idle, 0, none⟩⟩ } ∧
    (∀ r, ¬beingWritten s.store r → nvRow t.store r = nvRow s.store r) ∧
    (∀ st, s.store.programmer = .programming → s.store.stage = some st → st.row < 23 →
      ∀ e, e < 8 → ∀ b,
        (rowEntry (nvRow t.store st.row).entries e).getLsbD b = (rowEntry (nvRow s.store st.row).entries e).getLsbD b ∨
        (rowEntry (nvRow t.store st.row).entries e).getLsbD b = (rowEntry st.entries e).getLsbD b) ∧
    t.pending = s.pending

/-- RESET_N_RELEASE (R17, R78): validation starts on a WORKING IMAGE all LIMP, the steering reserve is formed, and nothing
else changes. -/
def Obligations.ReleaseStartsValidation : Prop :=
  ∀ s : State, s.resetLow = true → ∃ t, exec .resetNRelease s = .next t ∧ allLimp t.store.image ∧
    t = { s with
      resetLow := false
      validation := some 0
      store := { s.store with image := t.store.image }
      traction := { s.traction with reserve := reserveOf t.store.image s.intake.l2 (demandInForce s.intake).pressure } }

/-- Validation (R17, R18, R19, R130, R137, R78). With no command waiting, a step takes row r: a row of PROPEL_PEAK decides its
pair, any other is NV where it is valid alone, and row 18 re-forms the steering reserve. VALIDATION_COMPLETE decides every row
not taken yet: each row ends NV with its NONVOLATILE ARRAY entries exactly where R17 and R18 say so, else LIMP with its LIMP
SET entries; the mode goes from STARTUP to PARKED, TRIP_OUT_N stays asserted only for a trip level D, and nothing else
changes. That the rows are taken on idle steps and the rest by VALIDATION_COMPLETE is the model's choice (log 6). -/
def Obligations.ValidationDecidesEveryRow : Prop :=
  (∀ (s : State) (r : Nat), s.resetLow = false → s.pending = [] → s.validation = some r → s.engine.pass = none →
    standsAfter s.store r →
    (r < 23 → ∃ t, step s = .next t ∧ standsAfter t.store (r + 1) ∧
      t = { s with
        validation := some (r + 1)
        store := { s.store with image := t.store.image }
        traction := { s.traction with
          reserve :=
            if r = 18 then reserveOf t.store.image s.intake.l2 (demandInForce s.intake).pressure
            else s.traction.reserve } }) ∧
    (23 ≤ r → step s = .next s)) ∧
  (∀ (s : State) (r : Nat), s.resetLow = false → s.validation = some r → s.mode = .startup → s.store.programmer = .idle →
    r ≤ 23 → standsAfter s.store r →
    ∃ t, exec .validationComplete s = .next t ∧
      (∀ q, q < 23 → imageRow t.store.image q = (if endsNv s.store q then (nvRow s.store q).entries else limpRow q) ∧
        rowIsLimp t.store.image q = !endsNv s.store q) ∧
      t = { s with
        mode := .parked
        validation := none
        tripOut := decide (s.trips.level = .d)
        store := { s.store with image := t.store.image }
        traction := { s.traction with
          reserve :=
            if r ≤ 18 then reserveOf t.store.image s.intake.l2 (demandInForce s.intake).pressure
            else s.traction.reserve } })

/-- WARM_RESTART (R184, R188, R43, R68, R86, R108, R128, R150, R168, R189): after the reply of an accepted RESTART, which the
mark `restartDue` stands for, and with the Row Programmer IDLE, every block takes its warm-restart values and validation
starts; the trips, the FAULT LIST, the stamp, the grid estimate, the BOOST TIMERS and the NONVOLATILE ARRAY are kept. No warm
restart falls during a program or a waiting swap, nor where none is due (the mark, and that the command then changes nothing,
are the model's: logs 4 and 12). -/
def Obligations.WarmRestartKeepsTripsAndHeat : Prop :=
  ∀ s : State, s.resetLow = false →
    (s.restartDue = true → s.store.programmer = .idle → ∃ t, exec .warmRestart s = .next t ∧ resetShared t ∧
      t.resetLow = false ∧ t.validation = some 0 ∧ allLimp t.store.image ∧ t.store.nv = s.store.nv ∧
      t.trips = s.trips ∧ t.stamp = s.stamp ∧
      t.thermal = { grid := s.thermal.grid.map fun g => { g with sensorValid := false }
                    gd := s.thermal.gd
                    motor := ⟨resetMotor s.thermal.motor.left.boost, resetMotor s.thermal.motor.right.boost⟩ } ∧
      t.pending = s.pending ∧ t.freeCount = s.freeCount) ∧
    (s.restartDue = false ∨ s.store.programmer ≠ .idle → exec .warmRestart s = .next s)

/-! ### The interval expiry -/

/-- Code `c` is latched in `t` and was not in `s`. -/
def Sys2Proof.Claims.newlyLatched (s t : State) (c : TripCode) : Prop :=
  s.trips.latched.get c = false ∧ t.trips.latched.get c = true

/-- What the latches between `s` and `t` do to torques, level and line (R60, R61, R135, R137): class D zeroes both torques, a
rise from NONE by class P alone (or `overload`, a payload band that becomes 7) withdraws the positive ones, and with no latch
all of them stay. -/
def Sys2Proof.Claims.effectOfLatches (overload : Prop) (s t : State) : Prop :=
  ((∃ c, c.classD = true ∧ newlyLatched s t c) → t.engine.grant.torque = ⟨0, 0⟩) ∧
  ((∀ c, newlyLatched s t c → c.classD = false) →
    ((overload ∨ s.trips.level = .none ∧ ∃ c, newlyLatched s t c) →
      t.engine.grant.torque = noPositive s.engine.grant.torque) ∧
    (¬overload → (s.trips.level ≠ .none ∨ ∀ c, ¬newlyLatched s t c) →
      t.engine.grant.torque = s.engine.grant.torque)) ∧
  ((∃ c, newlyLatched s t c) → levelSound t.trips ∧ (t.tripOut = true ↔ t.trips.level = .d ∨ s.mode = .startup)) ∧
  ((∀ c, ¬newlyLatched s t c) → t.trips.level = s.trips.level ∧ t.tripOut = s.tripOut)

/-- A record with one more occurrence, holding at 255, and its last stamp at `stamp` (R139). -/
def Sys2Proof.Claims.counted (stamp : BitVec 32) (r : FaultRecord) : FaultRecord :=
  { r with occurrences := min (r.occurrences + 1) 255, last := stamp }

/-- A list without its `n` oldest CLEARED records (R143). -/
def Sys2Proof.Claims.withoutOldest : Nat → List FaultRecord → List FaultRecord
  | 0, records => records
  | _ + 1, [] => []
  | n + 1, r :: rest => if r.cleared then withoutOldest n rest else r :: withoutOldest (n + 1) rest

/-- The records of one event that latches as many codes as `new` has records, from the list it finds: for each latch that finds
16 records the oldest CLEARED one has gone (R143). -/
def Sys2Proof.Claims.droppedFor (new records : List FaultRecord) : Nat :=
  min (records.filter fun r => r.cleared).length (new.length - (16 - records.length))

/-- The FAULT LIST from `s` to `t` over an event that raises each code of `raisedNow` once (R138, R139, R141, R143): every code
newly latched has one ACTIVE record at the tail with the figures of the latch, in some order; the CLEARED records that had to
make room have gone, each counted in the overflow; a record that was ACTIVE for a latched code raised is counted, with its last
stamp; every other record stands as it was, in its place. The grid temperature of a new record, which depends on the order of
the blocks (log 8), is left unsaid. -/
def Sys2Proof.Claims.recordsFollow (raisedNow : TripCode → Prop) (stamp : BitVec 32) (refSpeed : Nat)
    (detail : TripCode → Option Int) (s t : State) : Prop :=
  ∃ kept new : List FaultRecord, t.trips.faults = kept ++ new ∧
    (new.map fun r => r.code).Nodup ∧ (∀ c, newlyLatched s t c ↔ ∃ r ∈ new, r.code = c) ∧
    (∀ r ∈ new, r.cleared = false ∧ r.first = stamp ∧ r.last = stamp ∧ r.occurrences = 1 ∧ r.refSpeed = refSpeed ∧
      r.detail = detail r.code) ∧
    (let n := droppedFor new s.trips.faults
     let before := withoutOldest n s.trips.faults
     kept.length = before.length ∧
     (∀ (i : Nat) (r : FaultRecord), before[i]? = some r →
       (s.trips.latched.get r.code = true ∧ r.cleared = false ∧ raisedNow r.code → kept[i]? = some (counted stamp r)) ∧
       (¬(s.trips.latched.get r.code = true ∧ r.cleared = false ∧ raisedNow r.code) → kept[i]? = some r)) ∧
     t.trips.overflow = if n = 0 then s.trips.overflow else min (s.trips.overflow + n) 255)

/-- The detail of a code raised at an expiry that leads to `t` (R134). -/
def Sys2Proof.Claims.detailAtExpiry (t : State) : TripCode → Option Int
  | .gridOvertemp => t.thermal.grid.map fun g => g.effective
  | .steerPressureLow => some ((demandInForce t.intake).pressure : Int)
  | .retardShortfall => some (refSpeedOr0 t.intake : Int)
  | _ => none

/-- L1 goes STALE at the next expiry (R32). -/
def Sys2Proof.Claims.l1Ends (s : State) : Prop := s.intake.l1 = .fresh ∧ s.intake.l1Count ≤ 1

/-- The codes that an expiry from `s` to `t` raises (R34, R39, R84, R93, R127): L1 going STALE, the steering-pressure counter
going from 19 to 20, and the other conditions of an expiry where they go from absent to present. -/
def Sys2Proof.Claims.raisedAtExpiry (s t : State) : TripCode → Prop
  | .propLinkLost => l1Ends s
  | .steerPressureLow => s.traction.pressureCount = 19 ∧ t.traction.pressureCount = 20
  | .gridOvertemp => t.present.gridOvertemp = true ∧ s.present.gridOvertemp = false
  | .chassisLinkLost => t.present.chassisLinkLost = true ∧ s.present.chassisLinkLost = false
  | .retardShortfall => t.present.retardShortfall = true ∧ s.present.retardShortfall = false
  | _ => False

/-- The trips at an expiry from `s` to `t` (R34, R40, R84, R134, R138, R139, R142): a code judged at MEASURE alone keeps its
mark; a condition that comes present is latched, or counted in its ACTIVE record where its code is latched, with the stamp that
includes the expiry; with none coming present the TRIP UNIT stays as it is. -/
def Sys2Proof.Claims.tripsAtExpiry (s t : State) : Prop :=
  (∀ c ∈ [TripCode.motorOvertempL, .motorOvertempR, .dcLinkOvervolt, .inverterFault, .torqueExcessL, .torqueExcessR,
      .overspeed], t.present.get c = s.present.get c) ∧
  (∀ c, t.trips.latched.get c = true ↔ s.trips.latched.get c = true ∨ raisedAtExpiry s t c) ∧
  effectOfLatches (t.intake.payload ≠ s.intake.payload ∧ 290 ≤ t.intake.payload) s t ∧
  recordsFollow (raisedAtExpiry s t) (s.stamp + 1) (refSpeedOr0 s.intake) (detailAtExpiry t) s t ∧
  ((∀ c, ¬raisedAtExpiry s t c) → t.trips = s.trips)

/-- BASE_INTERVAL_EXPIRY (R142, R172, R174, R161): the stamp steps by one, the lockout and the service idle count run, and
the mode, the ports, the held MEASURE, the tables, the GRANT RECORD but for its torques and the records of the INTAKE UNIT stay
as they are. The trips follow the conditions that come present, counted in their records where latched, and torques and line
follow the latches (R34, R40, R60, R61, R84, R93, R134 to R139, R141, R143). -/
def Obligations.ExpiryStampAndStore : Prop :=
  ∀ s : State, s.resetLow = false → ∃ t, exec .baseIntervalExpiry s = .next t ∧ t.stamp = s.stamp + 1 ∧
    t.store = { s.store with
      lockout := (match s.store.lockout with
        | none => none
        | some n => if n ≤ 1 then none else some (n - 1))
      accessLevel :=
        if s.store.accessLevel ≠ 0 ∧ serviceIdle s.store.image ≤ s.store.idleCount + 1 then 0 else s.store.accessLevel
      idleCount :=
        if s.store.accessLevel = 0 ∨ serviceIdle s.store.image ≤ s.store.idleCount + 1 then 0
        else s.store.idleCount + 1 } ∧
    tripsAtExpiry s t ∧ t.engine = onlyTorque s.engine t.engine.grant.torque ∧
    t.intake.demand = s.intake.demand ∧ t.intake.measurement = s.intake.measurement ∧
    t.intake.direction = s.intake.direction ∧ t.intake.directionHeld = s.intake.directionHeld ∧
    t.resetLow = s.resetLow ∧ t.mode = s.mode ∧ t.portL1 = s.portL1 ∧ t.portL2 = s.portL2 ∧ t.portL3 = s.portL3 ∧
    t.heldMeasure = s.heldMeasure ∧ t.traction.tf = s.traction.tf ∧ t.validation = s.validation ∧
    t.restartDue = s.restartDue ∧ t.freeCount = s.freeCount ∧ t.pending = s.pending

/-- The expiry on L1 (R29, R30, R32, R34): a FRESH counter runs down and goes STALE on reaching 0, with PROP_LINK_LOST
present and, where it was not latched, latched at class D with the torques zeroed and TRIP_OUT_N asserted; the standstill
counter and the latched payload follow. -/
def Obligations.ExpiryOnTheInverterLink : Prop :=
  ∀ s : State, s.resetLow = false → ∃ t, exec .baseIntervalExpiry s = .next t ∧
    (s.intake.l1 ≠ .fresh → t.intake.l1 = s.intake.l1 ∧ t.intake.l1Count = s.intake.l1Count) ∧
    (s.intake.l1 = .fresh → 2 ≤ s.intake.l1Count →
      t.intake.l1 = .fresh ∧ t.intake.l1Count = s.intake.l1Count - 1) ∧
    (s.intake.l1 = .fresh → s.intake.l1Count ≤ 1 →
      t.intake.l1 = .stale ∧ t.intake.l1Count = 0 ∧ t.present.propLinkLost = true ∧ t.trips.latched.propLinkLost =
        true ∧ (s.trips.latched.propLinkLost = false →
          t.trips.level = .d ∧ t.engine.grant.torque = ⟨0, 0⟩ ∧ t.tripOut = true)) ∧
    t.intake.standstill =
      (if t.intake.l1 ≠ .fresh then 0
       else if atStandstill s.intake then min (s.intake.standstill + 1) 65535
       else s.intake.standstill) ∧
    t.intake.payload =
      (if payloadSettle s.store.image ≤ t.intake.standstill then s.intake.demand.payload else s.intake.payload)

/-- The expiry on L2 (R32, R36, R37, R39, R78): a FRESH counter runs down and goes STALE on reaching 0, where the FALLBACK
DEMAND is formed from the DEMAND RECORD, the held direction, the reference speed and the last SL; while STALE the setpoint
falls by STALE_DECEL to its floor of 500, and the grace count runs to L2_GRACE, where CHASSIS_LINK_LOST is present; its mark
stays as it was before that, and while L2 is NEVER or FRESH. The steering reserve changes where L2 goes STALE and nowhere else.
That a count which a swap has left at or above a lowered L2_GRACE makes it present at the next expiry is the model's reading
(log 19). -/
def Obligations.ExpiryOnTheChassisLink : Prop :=
  ∀ s : State, s.resetLow = false → ∃ t, exec .baseIntervalExpiry s = .next t ∧
    (s.intake.l2 = .never → t.intake.l2 = .never ∧ t.intake.l2Count = s.intake.l2Count ∧
      t.intake.fallback = s.intake.fallback ∧ t.intake.grace = s.intake.grace ∧
      t.traction.reserve = s.traction.reserve) ∧
    (s.intake.l2 ≠ .stale → t.present.chassisLinkLost = s.present.chassisLinkLost) ∧
    (s.intake.l2 = .fresh → 2 ≤ s.intake.l2Count →
      t.intake.l2 = .fresh ∧ t.intake.l2Count = s.intake.l2Count - 1 ∧ t.intake.fallback = s.intake.fallback ∧
      t.intake.grace = s.intake.grace ∧ t.traction.reserve = s.traction.reserve) ∧
    (s.intake.l2 = .fresh → s.intake.l2Count ≤ 1 →
      t.intake.l2 = .stale ∧ t.intake.l2Count = 0 ∧ t.intake.grace = 0 ∧
      t.intake.fallback = some
        { lever := s.intake.demand.lever, direction := s.intake.direction, steer := s.intake.demand.steer
          pressure := s.intake.demand.pressure, park := s.intake.demand.park, service := s.intake.demand.service
          setpoint := max 500 (min (refSpeedOr0 s.intake) s.engine.speedLimit) } ∧
      t.traction.reserve = steerResHi s.store.image) ∧
    (s.intake.l2 = .stale →
      t.intake.l2 = .stale ∧ t.intake.l2Count = s.intake.l2Count ∧ t.traction.reserve = s.traction.reserve ∧
      (s.intake.fallback = none → t.intake.fallback = none) ∧
      (∀ f, s.intake.fallback = some f →
        t.intake.fallback = some { f with setpoint := max 500 (f.setpoint - staleDecel s.store.image) }) ∧
      t.intake.grace = min (s.intake.grace + 1) (l2Grace s.store.image) ∧
      (s.intake.grace + 1 < l2Grace s.store.image → t.present.chassisLinkLost = s.present.chassisLinkLost) ∧
      (l2Grace s.store.image ≤ s.intake.grace + 1 → t.present.chassisLinkLost = true) ∧
      (l2Grace s.store.image ≤ s.intake.grace + 1 → s.present.chassisLinkLost = false →
        t.trips.latched.chassisLinkLost = true))

/-- The grid at an expiry (R87, R90, R91, R92, R93): while UNSEEDED nothing changes, the GRID_OVERTEMP mark included; else G +
heat − cooling within −800..10400, the cooling truncated toward zero, the inputs kept, the effective temperature, the band and
Gd formed from the new G, and GRID_OVERTEMP present from GRID_TRIP on and latched where it comes present. -/
def Obligations.ExpiryHeatsTheGrid : Prop :=
  ∀ s : State, s.resetLow = false → ∃ t, exec .baseIntervalExpiry s = .next t ∧
    (s.thermal.grid = none → t.thermal.grid = none ∧ t.thermal.gd = s.thermal.gd ∧
      t.present.gridOvertemp = s.present.gridOvertemp) ∧
    ∀ g, s.thermal.grid = some g → ∃ h, t.thermal.grid = some h ∧
      (let d := g.g - 16 * g.ambient
       let k := if g.blower then kGcOn s.store.image else kGcOff s.store.image
       let cooling := if 0 ≤ d then (d.toNat * k / 4096 : Int) else -(((-d).toNat * k / 4096 : Nat) : Int)
       h.g = max (-800) (min 10400 (g.g + (g.power * kGh s.store.image / 4096 : Nat) - cooling))) ∧
      h.power = g.power ∧ h.blower = g.blower ∧ h.ambient = g.ambient ∧ h.sensor = g.sensor ∧
      h.sensorValid = g.sensorValid ∧
      h.effective = (if g.sensorValid then max (Int.tdiv h.g 16) g.sensor else Int.tdiv h.g 16) ∧
      h.band = gridBandOf h.effective ∧ t.thermal.gd = gridDerate s.store.image h.band ∧
      (t.present.gridOvertemp = true ↔ (gridTrip s.store.image : Int) ≤ h.effective) ∧
      (t.present.gridOvertemp = true → s.present.gridOvertemp = false →
        t.trips.latched.gridOvertemp = true)

/-- One motor's hold at an expiry (R97): HOLDING counts, and at 10 goes to EXPIRED with no temperature in force. -/
def Sys2Proof.Claims.holdAfterExpiry (m m' : Motor) : Prop :=
  (m.hold ≠ .holding → m'.hold = m.hold ∧ m'.holdCount = m.holdCount ∧ m'.temp = m.temp) ∧
  (m.hold = .holding → m.holdCount + 1 < 10 →
    m'.hold = .holding ∧ m'.holdCount = m.holdCount + 1 ∧ m'.temp = m.temp) ∧
  (m.hold = .holding → 10 ≤ m.holdCount + 1 → m'.hold = .expired ∧ m'.holdCount = 10 ∧ m'.temp = none)

/-- A motor's band and Md by its hold state (R95, R98). -/
def Sys2Proof.Claims.bandFollowsHold (im : Image) (m : Motor) : Prop :=
  (m.hold = .none → m.band = none ∧ m.md = 0) ∧
  (m.hold = .expired → m.band = some 7 ∧ m.md = motorDerate im 7) ∧
  (m.hold = .live ∨ m.hold = .holding → ∀ x, m.temp = some x →
    m.band = some (motorBandOf x) ∧ m.md = motorDerate im (motorBandOf x))

/-- One BOOST TIMER at an expiry, by the motor band formed at it (R102, R103, R104, R105): a motor whose band is absent
hands none. -/
def Sys2Proof.Claims.timerAfterExpiry (im : Image) (band : Option Nat) (b b' : BoostTimer) : Prop :=
  (b.state = .idle → b' = b) ∧
  (b.state = .boost → boostA im ≤ b.count + 1 → b' = ⟨.recover, 0, band⟩) ∧
  (b.state = .boost → b.count + 1 < boostA im → (∀ x, band = some x → x ≤ boostBandMax im) →
    b' = { b with count := b.count + 1 }) ∧
  (b.state = .boost → b.count + 1 < boostA im → ∀ x, band = some x → boostBandMax im < x → b' = ⟨.recover, 0, some x⟩) ∧
  (b.state = .recover → boostB im ≤ b.count + 1 → b' = ⟨.idle, 0, none⟩) ∧
  (b.state = .recover → b.count + 1 < boostB im → ∀ x y, band = some x → b.reference = some y →
    b' = if y < x then ⟨.recover, 0, some x⟩ else { b with count := b.count + 1 }) ∧
  (b.state = .recover → b.count + 1 < boostB im → ∀ x, band = some x → b.reference = none →
    b' = ⟨.recover, b.count + 1, some x⟩) ∧
  (b.state = .recover → b.count + 1 < boostB im → band = none → b' = { b with count := b.count + 1 })

/-- The motors at an expiry (R97, R98, R102 to R105): each wheel's hold, band, Md and BOOST TIMER. -/
def Obligations.ExpiryRunsHoldsAndTimers : Prop :=
  ∀ s : State, s.resetLow = false → ∃ t, exec .baseIntervalExpiry s = .next t ∧
    ∀ w, holdAfterExpiry (s.thermal.motor.get w) (t.thermal.motor.get w) ∧
      bandFollowsHold s.store.image (t.thermal.motor.get w) ∧
      timerAfterExpiry s.store.image (t.thermal.motor.get w).band (s.thermal.motor.get w).boost
        (t.thermal.motor.get w).boost

/-- The steering-pressure counter and the shortfall count at an expiry (R83, R84, R126, R127): each runs or returns to 0 by
its table, read after the expiry's freshness changes; the condition comes present when the count reaches its end from below,
is absent at 0, and is latched where it comes present. A count already at its end raises nothing. -/
def Obligations.ExpiryRunsPressureAndShortfall : Prop :=
  ∀ s : State, s.resetLow = false → ∃ t, exec .baseIntervalExpiry s = .next t ∧
    t.traction.pressureCount =
      (if (demandInForce t.intake).pressure < steerMin s.store.image ∧ isMoving s.intake = true
       then min (s.traction.pressureCount + 1) 20 else 0) ∧
    (t.present.steerPressureLow = true ↔ t.traction.pressureCount = 20) ∧
    (s.traction.pressureCount = 19 → t.traction.pressureCount = 20 → t.trips.latched.steerPressureLow = true) ∧
    t.planner.shortfall =
      (if t.intake.l1 = .fresh ∧ s.engine.grant.regime = .retard ∧ s.engine.retardFraction = 1000 ∧
          s.engine.speedLimit + shortfallMargin s.store.image < refSpeedOr0 s.intake
       then min (s.planner.shortfall + 1) (shortfallIntervals s.store.image) else 0) ∧
    (t.planner.shortfall = 0 → t.present.retardShortfall = false) ∧
    (t.planner.shortfall ≠ 0 →
      (s.planner.shortfall < shortfallIntervals s.store.image → t.planner.shortfall = shortfallIntervals s.store.image →
        t.present.retardShortfall = true) ∧
      (s.planner.shortfall = shortfallIntervals s.store.image ∨ t.planner.shortfall < shortfallIntervals s.store.image →
        t.present.retardShortfall = s.present.retardShortfall)) ∧
    (t.present.retardShortfall = true → s.present.retardShortfall = false → t.trips.latched.retardShortfall = true)

/-- The metres of `n` segments at the front of a queue, in the units of the progress (R119). -/
def Sys2Proof.Claims.metresOf (n : Nat) (queue : List Segment) : Nat :=
  ((queue.take n).map fun seg => seg.length * 3600).sum

/-- The plan after an advance that removes at least one segment (R119): the progress is carried over, and the plan ends and
is counted completed with its last segment, or goes on with a HEAD its progress has not finished. -/
def Sys2Proof.Claims.advanced (s t : State) (progress : Nat) : Prop :=
  ∃ n, 1 ≤ n ∧ n ≤ s.planner.queue.length ∧ metresOf n s.planner.queue ≤ progress ∧
    t.planner.abandoned = s.planner.abandoned ∧
    ((n = s.planner.queue.length ∧ t.planner.queue = [] ∧ t.planner.state = .empty ∧ t.planner.progress = 0 ∧
        t.planner.head = none ∧ t.planner.completed = min (s.planner.completed + 1) 65535) ∨
     ∃ seg rest, s.planner.queue.drop n = seg :: rest ∧ t.planner.queue = seg :: rest ∧ t.planner.state = .active ∧
        t.planner.progress = progress - metresOf n s.planner.queue ∧ t.planner.progress < seg.length * 3600 ∧
        t.planner.head = some (headLimitNow t seg) ∧ t.planner.completed = s.planner.completed)

/-- The progress of an expiry (R118): the reference speed while the plan is ACTIVE, the held direction FORWARD and L1 FRESH
after the expiry's freshness change. -/
def Sys2Proof.Claims.progressed (s : State) (l1 : Freshness) : Nat :=
  if s.planner.state = .active ∧ s.intake.direction = .forward ∧ l1 = .fresh then
    s.planner.progress + refSpeedOr0 s.intake
  else s.planner.progress

/-- The plan at an expiry (R118, R119, R124): an ACTIVE plan adds the reference speed, and a HEAD that the progress finishes
leaves the queue; a HEAD that stays has its limit formed afresh on a grid notice or a newly latched payload, and keeps it
otherwise; a plan not ACTIVE is left as it is. -/
def Obligations.ExpiryTravelsThePlan : Prop :=
  ∀ s : State, s.resetLow = false → ∃ t, exec .baseIntervalExpiry s = .next t ∧
    (s.planner.state ≠ .active →
      t.planner = { s.planner with shortfall := t.planner.shortfall }) ∧
    (∀ seg rest, s.planner.state = .active → s.planner.queue = seg :: rest →
      (progressed s t.intake.l1 < seg.length * 3600 →
        t.planner.queue = s.planner.queue ∧ t.planner.state = .active ∧
        t.planner.progress = progressed s t.intake.l1 ∧ t.planner.completed = s.planner.completed ∧
        t.planner.abandoned = s.planner.abandoned ∧
        (let noticed := (s.thermal.grid.map fun g => g.band) ≠ (t.thermal.grid.map fun g => g.band) ∨
           s.thermal.gd ≠ t.thermal.gd ∨ s.intake.payload ≠ t.intake.payload
         (noticed → t.planner.head = some (headLimitNow t seg)) ∧ (¬noticed → t.planner.head = s.planner.head))) ∧
      (seg.length * 3600 ≤ progressed s t.intake.l1 → advanced s t (progressed s t.intake.l1)))

/-! ### The events of an expiry, one row each (log 4) -/

/-- Code `c` latched anew by a raise with `detail`, the rest of the trip state by R135, R137, R138 and R141: an ACTIVE record
at the tail with the figures of the latch, the level formed afresh, the line with it, class D zeroing both torques and a
rise from NONE to P withdrawing the positive ones. `s` is the state the raise finds, `t` the state after. -/
def Sys2Proof.Claims.latchedAnew (c : TripCode) (detail : Option Int) (s t : State) : Prop :=
  t.trips.latched = s.trips.latched.set c true ∧
  levelSound t.trips ∧
  (t.tripOut = true ↔ t.trips.level = .d ∨ t.mode = .startup) ∧
  (∃ kept, t.trips.faults = kept ++
      [{ code := c, cleared := false, first := s.stamp, last := s.stamp, occurrences := 1
         refSpeed := refSpeedOr0 s.intake, gridTemp := s.thermal.grid.map fun g => g.effective, detail := detail }] ∧
    (s.trips.faults.length < 16 → kept = s.trips.faults ∧ t.trips.overflow = s.trips.overflow) ∧
    (s.trips.faults.length = 16 → ∀ before r after, s.trips.faults = before ++ r :: after →
      (∀ x ∈ before, x.cleared = false) → r.cleared = true →
      kept = before ++ after ∧ t.trips.overflow = min (s.trips.overflow + 1) 255)) ∧
  t.engine = onlyTorque s.engine
    (if c.classD then ⟨0, 0⟩ else if s.trips.level = .none then noPositive s.engine.grant.torque
     else s.engine.grant.torque)

/-- A raise of a latched code `c`: its ACTIVE record counts the occurrence and takes the stamp, all else stays (R139). -/
def Sys2Proof.Claims.mergedInto (c : TripCode) (s t : State) : Prop :=
  t.engine = s.engine ∧ t.tripOut = s.tripOut ∧
  ∃ faults, t.trips = { s.trips with faults := faults } ∧ faults.length = s.trips.faults.length ∧
    ∀ (i : Nat) (r : FaultRecord), s.trips.faults[i]? = some r →
      (r.code = c ∧ r.cleared = false → faults[i]? = some (counted s.stamp r)) ∧
      (¬(r.code = c ∧ r.cleared = false) → faults[i]? = some r)

/-- A raise of `c` with `detail` from `s` to `t`: latched anew, or merged where `c` is latched (R138, R139). -/
def Sys2Proof.Claims.raised (c : TripCode) (detail : Option Int) (s t : State) : Prop :=
  (s.trips.latched.get c = false → latchedAnew c detail s t) ∧ (s.trips.latched.get c = true → mergedInto c s t)

/-- L1_LINK_STALE (R34, R29), L2_LINK_STALE (R36, R37, R39, R78) and CHASSIS_LINK_LOST (R39), each where the next expiry
brings it about; nothing else changes (log 4). That a grace count at or above a lowered L2_GRACE brings CHASSIS_LINK_LOST about
is the model's reading (log 19). -/
def Obligations.LinkEventsTakeTheirEffect : Prop :=
  (∀ s : State, s.resetLow = false → s.intake.l1 = .fresh → s.intake.l1Count ≤ 1 →
    ∃ t, exec .l1LinkStale s = .next t ∧ raised .propLinkLost none s t ∧
      t = { s with
        intake := { s.intake with l1 := .stale, l1Count := 0, standstill := 0 }
        present := { s.present with propLinkLost := true }
        trips := t.trips, engine := t.engine, tripOut := t.tripOut }) ∧
  (∀ s : State, s.resetLow = false → s.intake.l2 = .fresh → s.intake.l2Count ≤ 1 →
    exec .l2LinkStale s = .next { s with
      intake := { s.intake with
        l2 := .stale, l2Count := 0, grace := 0
        fallback := some
          { lever := s.intake.demand.lever, direction := s.intake.direction, steer := s.intake.demand.steer
            pressure := s.intake.demand.pressure, park := s.intake.demand.park, service := s.intake.demand.service
            setpoint := max 500 (min (refSpeedOr0 s.intake) s.engine.speedLimit) } }
      traction := { s.traction with reserve := steerResHi s.store.image } }) ∧
  (∀ s : State, s.resetLow = false → s.intake.l2 = .stale → l2Grace s.store.image ≤ s.intake.grace + 1 →
    s.present.chassisLinkLost = false →
    ∃ t, exec .chassisLinkLost s = .next t ∧ raised .chassisLinkLost none s t ∧
      t = { s with
        intake := { s.intake with grace := l2Grace s.store.image }
        present := { s.present with chassisLinkLost := true }
        trips := t.trips, engine := t.engine, tripOut := t.tripOut })

/-- STEER_PRESSURE_LOW (R84) and RETARD_SHORTFALL (R127), each where the next expiry brings its count from below to its end;
nothing else changes (log 4). -/
def Obligations.PressureAndShortfallEventsLatch : Prop :=
  (∀ s : State, s.resetLow = false → s.traction.pressureCount = 19 →
    (demandInForce s.intake).pressure < steerMin s.store.image → isMoving s.intake = true →
    ∃ t, exec .steerPressureLow s = .next t ∧
      raised .steerPressureLow (some ((demandInForce s.intake).pressure : Int)) s t ∧
      t = { s with
        traction := { s.traction with pressureCount := 20 }
        present := { s.present with steerPressureLow := true }
        trips := t.trips, engine := t.engine, tripOut := t.tripOut }) ∧
  (∀ s : State, s.resetLow = false → s.intake.l1 = .fresh → s.engine.grant.regime = .retard →
    s.engine.retardFraction = 1000 → s.engine.speedLimit + shortfallMargin s.store.image < refSpeedOr0 s.intake →
    s.planner.shortfall + 1 = shortfallIntervals s.store.image → s.present.retardShortfall = false →
    ∃ t, exec .retardShortfall s = .next t ∧
      raised .retardShortfall (some (refSpeedOr0 s.intake : Int)) s t ∧
      t = { s with
        planner := { s.planner with shortfall := shortfallIntervals s.store.image }
        present := { s.present with retardShortfall := true }
        trips := t.trips, engine := t.engine, tripOut := t.tripOut })

/-- SENSOR_HOLD_EXPIRED (R97, R98, R103), BOOST_WINDOW_END (R102) and RECOVER_END (R104) of a wheel, each where the next
expiry brings it about; only that wheel's motor changes (log 4). -/
def Obligations.MotorEventsTakeTheirEffect : Prop :=
  ∀ (s : State) (w : Wheel), s.resetLow = false →
    ((s.thermal.motor.get w).hold = .holding → 9 ≤ (s.thermal.motor.get w).holdCount →
      ∃ m', exec (.sensorHoldExpired w) s =
          .next { s with thermal := { s.thermal with motor := s.thermal.motor.set w m' } } ∧
        m'.hold = .expired ∧ m'.holdCount = 10 ∧ m'.temp = none ∧ m'.band = some 7 ∧
        m'.md = motorDerate s.store.image 7 ∧
        ((s.thermal.motor.get w).boost.state = .idle → m'.boost = (s.thermal.motor.get w).boost) ∧
        ((s.thermal.motor.get w).boost.state = .boost → boostBandMax s.store.image < 7 →
          m'.boost = ⟨.recover, 0, some 7⟩) ∧
        ((s.thermal.motor.get w).boost.state = .recover → ∀ x, (s.thermal.motor.get w).boost.reference = some x →
          m'.boost = if x < 7 then ⟨.recover, 0, some 7⟩ else (s.thermal.motor.get w).boost)) ∧
    ((s.thermal.motor.get w).boost.state = .boost → boostA s.store.image ≤ (s.thermal.motor.get w).boost.count + 1 →
      exec (.boostWindowEnd w) s = .next { s with
        thermal := { s.thermal with
          motor := s.thermal.motor.set w { s.thermal.motor.get w with
            boost := ⟨.recover, 0, (s.thermal.motor.get w).band⟩ } } }) ∧
    ((s.thermal.motor.get w).boost.state = .recover → boostB s.store.image ≤ (s.thermal.motor.get w).boost.count + 1 →
      exec (.recoverEnd w) s = .next { s with
        thermal := { s.thermal with
          motor := s.thermal.motor.set w { s.thermal.motor.get w with boost := ⟨.idle, 0, none⟩ } } })

/-- PLAN_ADVANCE (R118, R119), LOCKOUT_END (R172) and SERVICE_IDLE_TIMEOUT (R174), each where the next expiry brings it
about; nothing else changes (log 4). -/
def Obligations.PlanAndServiceEventsTakeTheirEffect : Prop :=
  (∀ (s : State) (seg : Segment) (rest : List Segment), s.resetLow = false → s.planner.state = .active →
    s.planner.queue = seg :: rest → seg.length * 3600 ≤ progressed s s.intake.l1 →
    ∃ t, exec .planAdvance s = .next t ∧ advanced s t (progressed s s.intake.l1) ∧
      t.planner.shortfall = s.planner.shortfall ∧ t = { s with planner := t.planner }) ∧
  (∀ s : State, s.resetLow = false → s.store.lockout = some 1 →
    exec .lockoutEnd s = .next { s with store := { s.store with lockout := none } }) ∧
  (∀ s : State, s.resetLow = false → s.store.accessLevel ≠ 0 → serviceIdle s.store.image ≤ s.store.idleCount + 1 →
    exec .serviceIdleTimeout s = .next { s with store := { s.store with accessLevel := 0, idleCount := 0 } })

/-! ### The line of a port -/

/-- A MARKER CHARACTER with `address` taken as the start of a frame by port `p`, whose own address is `own` (R153,
R154). -/
def Sys2Proof.Claims.startsFrame (p : PortId) (own address : Byte) (c : Counters) : Port :=
  if address = own then ⟨.addressed address, c⟩
  else if p = .l3 then ⟨.ignoring, c⟩
  else ⟨.ignoring, { c with misaddressed := stepped c.misaddressed }⟩

/-- The station address port `p` answers (R153). -/
def Sys2Proof.Claims.ownAddress (p : PortId) (im : Image) : Byte :=
  match p with
  | .l1 => 1
  | .l2 => 2
  | .l3 => (rowEntry (imageRow im 22) 4).setWidth 8

/-- MARKER_CHARACTER (R153, R154, R155, R158): in IDLE and IGNORING a frame starts; in ADDRESSED the frame begun is abandoned
and counted first; in REPLY_PENDING the owed reply is dropped and counted first; in REPLYING it is lost. Only the port
changes. What L3 does while a warm restart is due is O21's. -/
def Obligations.MarkerStartsAFrame : Prop :=
  ∀ (s : State) (p : PortId) (a : Byte), s.resetLow = false → (p = .l3 → s.restartDue = false) →
    exec (.markerCharacter p a) s = .next (s.withPort p
      (match (s.port p).receive with
        | .idle => startsFrame p (ownAddress p s.store.image) a (s.port p).counters
        | .ignoring => startsFrame p (ownAddress p s.store.image) a (s.port p).counters
        | .addressed _ => startsFrame p (ownAddress p s.store.image) a
            { (s.port p).counters with framingErrors := stepped (s.port p).counters.framingErrors }
        | .replyPending _ _ _ => startsFrame p (ownAddress p s.store.image) a
            { (s.port p).counters with superseded := stepped (s.port p).counters.superseded }
        | .replying _ => s.port p))

/-- FRAMING_ERROR, GAP_TIMEOUT, LENGTH_ERROR (above 48) and CHECK_FAILURE (a sum that is not 0) on a port (R154, R155, R156):
a frame being collected is abandoned and counted once in the counter of its cause; elsewhere as the table of R154 says. Only
the port changes. -/
def Obligations.FrameErrorsAreCountedOnce : Prop :=
  ∀ (s : State) (p : PortId), s.resetLow = false →
    exec (.framingError p) s = .next (s.withPort p
      (match (s.port p).receive with
        | .addressed _ =>
          ⟨.ignoring, { (s.port p).counters with framingErrors := stepped (s.port p).counters.framingErrors }⟩
        | .replying _ => s.port p
        | r => ⟨r, { (s.port p).counters with framingErrors := stepped (s.port p).counters.framingErrors }⟩)) ∧
    exec (.gapTimeout p) s = .next (s.withPort p
      (match (s.port p).receive with
        | .addressed _ => ⟨.idle, { (s.port p).counters with gapTimeouts := stepped (s.port p).counters.gapTimeouts }⟩
        | .ignoring => ⟨.idle, (s.port p).counters⟩
        | _ => s.port p)) ∧
    (∀ (a n : Byte), (s.port p).receive = .addressed a → 48 < n.toNat →
      exec (.lengthError p n) s = .next (s.withPort p
        ⟨.ignoring, { (s.port p).counters with lengthErrors := stepped (s.port p).counters.lengthErrors }⟩)) ∧
    (∀ (a code check : Byte) (payload : List Byte), (s.port p).receive = .addressed a → payload.length ≤ 48 →
      byteSum (a :: code :: BitVec.ofNat 8 payload.length :: (payload ++ [check])) ≠ 0 →
      exec (.checkFailure p code payload check) s = .next (s.withPort p
        ⟨.idle, { (s.port p).counters with checkFailures := stepped (s.port p).counters.checkFailures }⟩))

/-- SHORT_BREAK (R159) and LONG_BREAK (R160, R173): a short break is counted and ends a frame but not an owed reply; a long
break makes the port IDLE with its counters at 0, on L1 discards the held MEASURE and on L3 drops the ACCESS LEVEL. In
REPLYING neither is judged. Nothing else changes, the other two ports among it. -/
def Obligations.BreaksResynchroniseThePort : Prop :=
  ∀ (s : State) (p : PortId), s.resetLow = false →
    exec (.shortBreak p) s = .next (s.withPort p
      (match (s.port p).receive with
        | .replying _ => s.port p
        | .replyPending a c b =>
          ⟨.replyPending a c b, { (s.port p).counters with framingErrors := stepped (s.port p).counters.framingErrors }⟩
        | _ => ⟨.idle, { (s.port p).counters with framingErrors := stepped (s.port p).counters.framingErrors }⟩)) ∧
    ((∃ r, (s.port p).receive = .replying r) → exec (.longBreak p) s = .next s) ∧
    ((∀ r, (s.port p).receive ≠ .replying r) →
      exec (.longBreak p) s = .next
        (match p with
          | .l1 => { s with portL1 := resetPort, heldMeasure := none }
          | .l2 => { s with portL2 := resetPort }
          | .l3 => { s with portL3 := resetPort, store := { s.store with accessLevel := 0 } }))

/-- UNKNOWN_REQUEST (R156, R174), REPLY_BEGIN (R154, R157) and REPLY_COMPLETE (R154, R188): a code the port does not list is
answered UNKNOWN with no payload; a formed reply begins and ends; the last character of an accepted RESTART's reply makes
the warm restart due, and until it is made L3 starts no frame at a MARKER CHARACTER, so that no program comes between (R184; the
mark and this are the model's: log 12). Nothing else changes. -/
def Obligations.UnknownCodesAndRepliesSent : Prop :=
  (∀ (s : State) (p : PortId) (a code : Byte) (payload : List Byte), listens s p a → code ∉ listedCodes p →
    payload.length ≤ 48 →
    exec (.unknownRequest p code payload) s = .next
      (match p with
        | .l1 => { s with portL1 := answered s.portL1 a code .unknown [] }
        | .l2 => { s with portL2 := answered s.portL2 a code .unknown [] }
        | .l3 => { s with portL3 := answered s.portL3 a code .unknown [], store := noticed s.store })) ∧
  (∀ (s : State) (p : PortId) (a code : Byte) (b : ReplyBody), s.resetLow = false →
    (s.port p).receive = .replyPending a code (some b) →
    exec (.replyBegin p) s = .next (s.withPort p ⟨.replying ⟨a, code, b⟩, (s.port p).counters⟩)) ∧
  (∀ (s : State) (p : PortId) (r : Reply), s.resetLow = false → (s.port p).receive = .replying r →
    ¬(p = .l3 ∧ r.code = 0x3A ∧ r.body.result = .ok) →
    exec (.replyComplete p) s = .next (s.withPort p ⟨.idle, (s.port p).counters⟩)) ∧
  (∀ (s : State) (r : Reply), s.resetLow = false → s.portL3.receive = .replying r → r.code = 0x3A → r.body.result = .ok →
    exec (.replyComplete .l3) s = .next { s with portL3 := ⟨.idle, s.portL3.counters⟩, restartDue := true }) ∧
  (∀ (s : State) (a : Byte), s.restartDue = true → exec (.markerCharacter .l3 a) s = .next s)

/-! ### Requests: what every one of them shares -/

/-- `s` after port `p` has taken a sound frame and owes the reply `body` for it: nothing changes but the port and, on L3, the
service idle count, which is set to 0 (R156, R157, R174). -/
def Sys2Proof.Claims.owes (s : State) (p : PortId) (a code : Byte) (body : Option ReplyBody) : State :=
  match p with
  | .l1 => { s with portL1 := owing s.portL1 a code body }
  | .l2 => { s with portL2 := owing s.portL2 a code body }
  | .l3 => { s with portL3 := owing s.portL3 a code body, store := noticed s.store }

/-- `owes` with the reply's result and payload given. -/
def Sys2Proof.Claims.replied (s : State) (p : PortId) (a code : Byte) (r : Result) (payload : List Byte) : State :=
  owes s p a code (some ⟨r, payload⟩)

/-- The payload lengths that the catalogue of R156 gives for a code. -/
def Sys2Proof.Claims.cataloguedLength (code : Byte) (n : Nat) : Prop :=
  (code = 0x10 ∧ n = 23) ∨ (code = 0x20 ∧ n = 14) ∨ (code = 0x21 ∧ n % 7 = 0 ∧ 7 ≤ n ∧ n ≤ 42) ∨
  (code = 0x30 ∧ n = 5) ∨ (code = 0x33 ∧ n % 2 = 0 ∧ 4 ≤ n ∧ n ≤ 18) ∨
  (code ∈ [0x26, 0x32, 0x34, 0x38] ∧ n = 1) ∨
  (code ∈ [0x11, 0x1F, 0x22, 0x23, 0x24, 0x25, 0x31, 0x35, 0x36, 0x37, 0x39, 0x3A] ∧ n = 0)

/-- A request whose payload has a length the catalogue does not give (R156, R22, R26, R112, R144, R147, R148, R170, R173,
R175, R176, R178, R185 to R188): LENGTH, before anything else is judged, and nothing changes but the port and, on L3, the
idle count. PLAN_APPEND, PLAN_START and PLAN_CLEAR carry the PLAN SUMMARY and TRIP_CLEAR the map all the same (R157). The
plan requests in STARTUP are R111's. A length byte above 48 abandons the frame, and in a state other than ADDRESSED the
characters are discarded (log 5). -/
def Obligations.WrongLengthsAreRefused : Prop :=
  ∀ (s : State) (p : PortId) (code : Byte) (payload : List Byte), s.resetLow = false → code ∈ listedCodes p →
    (∀ a, (s.port p).receive = .addressed a → payload.length ≤ 48 → ¬cataloguedLength code payload.length →
      (code ∈ [0x21, 0x22, 0x23, 0x24] → s.mode ≠ .startup) →
      exec (requestOf p code payload) s = .next (replied s p a code .length
        (if code = 0x21 ∨ code = 0x22 ∨ code = 0x23 then planSummary s.planner
         else if code = 0x25 then tripMapBytes s
         else []))) ∧
    (∀ a, (s.port p).receive = .addressed a → 48 < payload.length →
      exec (requestOf p code payload) s = .next (s.withPort p
        ⟨.ignoring, { (s.port p).counters with lengthErrors := stepped (s.port p).counters.lengthErrors }⟩)) ∧
    ((∀ a, (s.port p).receive ≠ .addressed a) → exec (requestOf p code payload) s = .next s)

/-- The reads of the links (R116, R147, R162, R163, R175, R185, R186, R187): each answers OK from the state as it stands when
the request is handled, its own frame counted, or RANGE for a number out of range, and changes nothing but its port and, on
L3, the idle count. PLAN_READ in STARTUP is refused REFUSED_MODE, whatever its payload (R111). -/
def Obligations.ReadsChangeNothing : Prop :=
  ∀ (s : State) (a : Byte),
    (listens s .l1 a → exec (.grantRead []) s =
      .next (replied s .l1 a 0x11 .ok (grantBytes s.engine.grant s.trips.level s.mode))) ∧
    (∀ p, listens s p a → exec (.linkStatus p []) s =
      .next (replied s p a 0x1F .ok
        (counterBytes { (s.port p).counters with goodFrames := stepped (s.port p).counters.goodFrames } ++
          oneByte s.intake.l1.code ++ oneByte s.intake.l2.code ++ oneByte s.mode.code ++ oneByte s.trips.level.code))) ∧
    (listens s .l2 a → exec (.planRead []) s =
      .next (if s.mode = .startup then replied s .l2 a 0x24 .refusedMode []
             else replied s .l2 a 0x24 .ok (planReadBytes s.planner))) ∧
    (∀ payload : List Byte, listens s .l2 a → payload.length ≤ 48 → s.mode = .startup →
      exec (.planRead payload) s = .next (replied s .l2 a 0x24 .refusedMode [])) ∧
    (∀ p n, p ≠ .l1 → listens s p a → exec (.faultRead p [n]) s =
      .next (if n.toNat ≤ 15 then replied s p a 0x26 .ok (faultReadBytes n.toNat s.trips)
             else replied s p a 0x26 .range [])) ∧
    (listens s .l3 a →
      (∀ n, exec (.rowRead [n]) s =
        .next (if n.toNat ≤ 22 then replied s .l3 a 0x32 .ok (rowReadBytes n.toNat s.store)
               else replied s .l3 a 0x32 .range [])) ∧
      exec (.storeStatus []) s = .next (replied s .l3 a 0x35 .ok (storeStatusBytes s.store)) ∧
      exec (.countersRead []) s = .next (replied s .l3 a 0x37 .ok
        (counterBytes s.portL1.counters ++ counterBytes s.portL2.counters ++
          counterBytes { s.portL3.counters with goodFrames := stepped s.portL3.counters.goodFrames })) ∧
      (∀ n, exec (.modelRead [n]) s =
        .next (if n = 0 then replied s .l3 a 0x38 .ok (modelPage0 s)
               else if n = 1 then replied s .l3 a 0x38 .ok (modelPage1 s)
               else replied s .l3 a 0x38 .range [])) ∧
      exec (.identRead []) s = .next (replied s .l3 a 0x39 .ok (identBytes s.store.image)))

/-- The reply payloads have the lengths of R162 and Tables 8-2, 8-4 to 8-8, and every one fits a frame (R152); the
IDENT_READ text has at most 48 characters (R187). -/
def Obligations.RepliesHaveTheirLengths : Prop :=
  ∀ s : State,
    (∀ level mode, (grantBytes s.engine.grant level mode).length = 18) ∧ (∀ p, (linkStatusBytes p s).length = 18) ∧
    (statusBytes s).length = 23 ∧ (planSummary s.planner).length = 5 ∧ (planReadBytes s.planner).length = 20 ∧
    (tripMapBytes s).length = 2 ∧ (∀ r, (faultBytes r).length = 17) ∧
    (∀ n, (faultReadBytes n s.trips).length = 2 + 17 * min 2 (s.trips.faults.length - n)) ∧
    (∀ r, (rowReadBytes r s.store).length = 18) ∧ (storeStatusBytes s.store).length = 12 ∧
    (countersReadBytes s).length = 42 ∧ (modelPage0 s).length = 46 ∧ (modelPage1 s).length = 25 ∧
    (identBytes s.store.image).length ≤ 48

/-- The codes of the enumerated fields that replies carry (R164), and the numbers of the trip codes (R134). -/
def Sys2Proof.Claims.codesFollow : Prop :=
  [Mode.startup, .parked, .ready, .drive].map Mode.code = [0, 1, 2, 3] ∧
  [TripLevel.none, .p, .d].map TripLevel.code = [0, 1, 2] ∧
  [Regime.coast, .propel, .retard].map Regime.code = [0, 1, 2] ∧
  [LimitSource.plan, .payload, .corner, .limp, .fallback, .none].map LimitSource.code = [0, 1, 2, 3, 4, 5] ∧
  [Result.ok, .busy, .refusedMode, .refusedAccess, .range, .length, .unknown, .queueFull, .lockedOut, .notStaged].map
    Result.code = List.range 10 ∧
  [Freshness.never, .fresh, .stale].map Freshness.code = [0, 1, 2] ∧
  [PlanState.empty, .loaded, .active].map PlanState.code = [0, 1, 2] ∧
  [HoldState.none, .live, .holding, .expired].map HoldState.code = [0, 1, 2, 3] ∧
  [BoostState.idle, .boost, .recover].map BoostState.code = [0, 1, 2] ∧
  [Programmer.idle, .programming, .swapPending].map Programmer.code = [0, 1, 2] ∧
  [TripCode.propLinkLost, .gridOvertemp, .motorOvertempL, .motorOvertempR, .dcLinkOvervolt, .inverterFault, .torqueExcessL,
    .torqueExcessR, .chassisLinkLost, .overspeed, .steerPressureLow, .retardShortfall].map TripCode.number = List.range 12

/-- A reply frame read back: address, code echoed, result, length, payload, and the CHECK BYTE that makes the sum of all its
bytes 0 (R152). -/
def Sys2Proof.Claims.frameReads (r : Reply) : Prop :=
  let b := replyFrame r
  b.length = r.body.payload.length + 5 ∧ byteAt b 0 = r.address ∧ byteAt b 1 = r.code ∧
  (byteAt b 2).toNat = r.body.result.code ∧ (byteAt b 3).toNat = r.body.payload.length ∧
  (b.drop 4).take r.body.payload.length = r.body.payload ∧ byteSum b = 0

/-- The seven counters as sent read back in the order of R161. -/
def Sys2Proof.Claims.countersRead (c : Counters) : Prop :=
  (List.range 7).map (fun i => unsignedAt (counterBytes c) (2 * i)) =
    [c.goodFrames, c.checkFailures, c.framingErrors, c.gapTimeouts, c.lengthErrors, c.misaddressed, c.superseded]

/-- A FAULT RECORD read back (Table 8-5): an absent grid temperature or detail is sent as 0 with its presence bit clear; the
detail of DC_LINK_OVERVOLT is unsigned, that of every other code signed. -/
def Sys2Proof.Claims.recordReads (r : FaultRecord) : Prop :=
  let b := faultBytes r
  (byteAt b 0).toNat = r.code.number ∧
  (List.range 8).map (fun i => (byteAt b 1).getLsbD i) =
    [r.code.classD, r.cleared, r.detail.isSome, r.gridTemp.isSome, false, false, false, false] ∧
  longAt b 2 = r.first ∧ longAt b 6 = r.last ∧ (byteAt b 10).toNat = r.occurrences ∧ unsignedAt b 11 = r.refSpeed ∧
  signedAt b 13 = r.gridTemp.getD 0 ∧
  (r.code = .dcLinkOvervolt → (unsignedAt b 15 : Int) = r.detail.getD 0) ∧
  (r.code ≠ .dcLinkOvervolt → signedAt b 15 = r.detail.getD 0)

/-- The FAULT_READ payload from position `start` read back: the number of records, the overflow count, then the records at
`start` and the position after it, oldest first, where there are any (R147, Table 8-6). -/
def Sys2Proof.Claims.faultsRead (start : Nat) (t : Trips) : Prop :=
  let b := faultReadBytes start t
  (byteAt b 0).toNat = t.faults.length ∧ (byteAt b 1).toNat = t.overflow ∧
  b.length = 2 + 17 * min 2 (t.faults.length - start) ∧
  ∀ (i : Nat) (r : FaultRecord), i < 2 → t.faults[start + i]? = some r → (b.drop (2 + 17 * i)).take 17 = faultBytes r

/-- The map of TRIP_CLEAR's reply read back: bit n is set while code n is latched, bits 12 to 15 are 0 (R164, Table 8-6). -/
def Sys2Proof.Claims.mapReads (s : State) : Prop :=
  (∀ c : TripCode, (wordAt (tripMapBytes s) 0).getLsbD c.number = s.trips.latched.get c) ∧
  unsignedAt (tripMapBytes s) 0 < 4096

/-- The bytes of a text in ASCII codes (log 20). -/
def Sys2Proof.Claims.ascii (text : List Char) : List Byte := text.map fun c => BitVec.ofNat 8 c.toNat

/-- The IDENT_READ text (R187): the four pairs, with a capital for the revision letter (a free value: log 13) and the count of
LIMP rows in decimal. -/
def Sys2Proof.Claims.identReads (im : Image) : Prop :=
  let count := ((List.range 23).filter fun r => rowIsLimp im r).length
  ∃ letter, 65 ≤ letter ∧ letter ≤ 90 ∧
    identBytes im =
      ascii ['v', 'e', 'n', 'd', 'o', 'r', ':', 'U', 's', 't', 'o', 'p', 'a', 'l', ';'] ++
      ascii ['p', 'a', 'r', 't', ':', 'W', 'e', 'f', 't', 'a', 'n', ' ', '4', '4', '0', ';'] ++
      ascii ['r', 'e', 'v', ':'] ++ [BitVec.ofNat 8 letter] ++ ascii [';', 'l', 'i', 'm', 'p', ':'] ++
      (if count < 10 then [BitVec.ofNat 8 (48 + count)]
       else [BitVec.ofNat 8 (48 + count / 10), BitVec.ofNat 8 (48 + count % 10)])

/-- The CHASSIS STATUS RECORD read back (Table 8-4). -/
def Sys2Proof.Claims.statusReads (s : State) : Prop :=
  let b := statusBytes s
  (byteAt b 0).toNat = s.mode.code ∧ (byteAt b 1).toNat = s.trips.level.code ∧
  (∀ c : TripCode, (wordAt b 2).getLsbD c.number = s.trips.latched.get c) ∧ unsignedAt b 2 < 4096 ∧
  unsignedAt b 4 = s.engine.speedLimit ∧ (byteAt b 6).toNat = s.engine.source.code ∧
  unsignedAt b 7 = s.engine.grant.retardLimit.left + s.engine.grant.retardLimit.right ∧
  signedAt b 9 = (s.thermal.grid.map fun g => g.effective).getD (-32768) ∧
  (byteAt b 11).toNat = (s.thermal.grid.map fun g => g.band).getD 255 ∧
  (byteAt b 12).toNat = s.planner.state.code ∧ (byteAt b 13).toNat = s.planner.queue.length ∧
  unsignedAt b 14 = (s.planner.head.map fun h => h.speed).getD 65535 ∧
  (List.range 8).map (fun i => (byteAt b 16).getLsbD i) =
    [(s.planner.head.map fun h => h.derated).getD false, (s.planner.head.map fun h => h.infeasible).getD false,
     decide (290 ≤ s.intake.payload), s.intake.directionHeld, envelopeLimp s.store.image, false, false, false] ∧
  unsignedAt b 17 = s.intake.payload ∧ (byteAt b 19).toNat = payloadBandOf s.intake.payload ∧
  unsignedAt b 20 = s.traction.reserve ∧ (byteAt b 22).toNat = s.intake.l1.code

/-- The PLAN_READ payload read back: PLAN SUMMARY, which the other plan replies carry alone, HEAD (seven bytes of 0 while
absent), progress, counts (Table 8-6). -/
def Sys2Proof.Claims.planReads (p : Planner) : Prop :=
  let b := planReadBytes p
  planSummary p = b.take 5 ∧
  (byteAt b 0).toNat = p.state.code ∧ (byteAt b 1).toNat = p.queue.length ∧
  unsignedAt b 2 = (p.head.map fun h => h.speed).getD 65535 ∧
  (List.range 8).map (fun i => (byteAt b 4).getLsbD i) =
    [(p.head.map fun h => h.derated).getD false, (p.head.map fun h => h.infeasible).getD false,
     false, false, false, false, false, false] ∧
  (p.queue = [] → (b.drop 5).take 7 = List.replicate 7 0) ∧
  (∀ seg rest, p.queue = seg :: rest →
    unsignedAt b 5 = seg.length ∧ signedAt b 7 = seg.grade ∧ unsignedAt b 9 = seg.target ∧
    byteAt b 11 = (match seg.surface with
      | .dry => 1
      | .wet => 2)) ∧
  (longAt b 12).toNat = p.progress ∧ unsignedAt b 16 = p.completed ∧ unsignedAt b 18 = p.abandoned

/-- The ROW_READ payload of row `r` read back: entries 0 to 3 of row 22 are 0 (R15, R175). -/
def Sys2Proof.Claims.rowReads (r : Nat) (t : Store) : Prop :=
  let b := rowReadBytes r t
  (byteAt b 0).toNat = r ∧
  (∀ i, (byteAt b 1).getLsbD i = true ↔
    (i = 0 ∧ rowIsLimp t.image r = true) ∨
    (i = 1 ∧ t.programmer = .swapPending ∧ ∃ st, t.stage = some st ∧ st.row = r)) ∧
  ∀ e, e < 8 → wordAt b (2 + 2 * e) = if r = 22 ∧ e < 4 then 0 else rowEntry (imageRow t.image r) e

/-- The STORE_STATUS payload read back: a row map of three bytes has row `r` at bit `r` (R164, R185). -/
def Sys2Proof.Claims.storeStatusReads (t : Store) : Prop :=
  let b := storeStatusBytes t
  (byteAt b 0).toNat = t.programmer.code ∧ (byteAt b 1).toNat = (t.stage.map fun st => st.row).getD 255 ∧
  (byteAt b 2).toNat = (if t.programmer = .swapPending then (t.stage.map fun st => st.row).getD 255 else 255) ∧
  (∀ r, r < 24 → (byteAt b (5 - r / 8)).getLsbD (r % 8) = (decide (r < 23) && isSuspect t r)) ∧
  (∀ r, r < 24 → (byteAt b (8 - r / 8)).getLsbD (r % 8) = (decide (r < 23) && rowIsLimp t.image r)) ∧
  unsignedAt b 9 = t.writeFail ∧
  (∀ i, (byteAt b 11).getLsbD i = true ↔ i = 0 ∧ ∃ r, r < 23 ∧ isSuspect t r = true)

/-- One wheel of MODEL_READ page 0, eight bytes from `o` on, read back (Table 8-8). -/
def Sys2Proof.Claims.motorReads (b : List Byte) (o : Nat) (m : Motor) : Prop :=
  (byteAt b o).toNat / 16 = m.hold.code ∧ (byteAt b o).toNat % 16 = m.holdCount ∧
  signedAt b (o + 1) = m.temp.getD (-32768) ∧ (byteAt b (o + 3)).toNat / 16 = m.boost.state.code ∧
  (byteAt b (o + 3)).toNat % 16 = m.band.getD 15 ∧ unsignedAt b (o + 4) = m.md ∧ unsignedAt b (o + 6) = m.boost.count

/-- MODEL_READ page 0 read back (Table 8-8). -/
def Sys2Proof.Claims.pageZeroReads (s : State) : Prop :=
  let b := modelPage0 s
  signedAt b 0 = (s.thermal.grid.map fun g => g.g).getD (-32768) ∧
  signedAt b 2 = (s.thermal.grid.map fun g => g.effective).getD (-32768) ∧
  (byteAt b 4).toNat = (s.thermal.grid.map fun g => g.band).getD 255 ∧ unsignedAt b 5 = s.thermal.gd ∧
  motorReads b 7 s.thermal.motor.left ∧ motorReads b 15 s.thermal.motor.right ∧
  unsignedAt b 23 = s.traction.tf.left ∧ unsignedAt b 25 = s.traction.tf.right ∧
  unsignedAt b 27 = s.intake.standstill ∧ (longAt b 29).toNat = s.planner.progress ∧
  unsignedAt b 33 = (s.intake.fallback.map fun f => f.setpoint).getD 65535 ∧
  (byteAt b 35).toNat / 16 = s.engine.excess.left ∧ (byteAt b 35).toNat % 16 = s.engine.excess.right ∧
  (byteAt b 36).toNat = s.traction.pressureCount ∧ unsignedAt b 37 = s.planner.shortfall ∧
  unsignedAt b 39 = s.engine.speedLimit ∧ (byteAt b 41).toNat = s.engine.source.code ∧ longAt b 42 = s.stamp

/-- The MEASUREMENT RECORD of a MEASURE payload, bounded and marked as R23 and R24 state (Table 8-1). -/
def Sys2Proof.Claims.measureOf (p : List Byte) : MeasurementRecord :=
  { wheelSpeed := ⟨max (-7000) (min 7000 (signedAt p 0)), max (-7000) (min 7000 (signedAt p 2))⟩
    refSpeed := min 7000 (unsignedAt p 4)
    achieved := ⟨max (-2000) (min 2000 (signedAt p 6)), max (-2000) (min 2000 (signedAt p 8))⟩
    winding := ⟨signedAt p 10, signedAt p 12⟩
    windingValid := ⟨decide (-50 ≤ signedAt p 10 ∧ signedAt p 10 ≤ 300), decide (-50 ≤ signedAt p 12 ∧ signedAt p 12 ≤ 300)⟩
    gridPower := min 6000 (unsignedAt p 14)
    gridSensor := signedAt p 16
    gridSensorValid := decide (-50 ≤ signedAt p 16 ∧ signedAt p 16 ≤ 700)
    voltage := unsignedAt p 18
    ambient := max (-50) (min 60 (signedAt p 20))
    blower := (byteAt p 22).getLsbD 0
    inverterFault := ⟨(byteAt p 22).getLsbD 1, (byteAt p 22).getLsbD 2⟩ }

/-- MODEL_READ page 1 read back: 25 bytes of 0 while the record is absent, else the record as stored with its marks
(R186). -/
def Sys2Proof.Claims.pageOneReads (s : State) : Prop :=
  let b := modelPage1 s
  (s.intake.measurement = none → b = List.replicate 25 0) ∧
  ∀ m, s.intake.measurement = some m →
    byteAt b 0 = 1 ∧ measureOf (b.drop 1) = m ∧
    (List.range 8).map (fun i => (byteAt b 24).getLsbD i) =
      [m.windingValid.left, m.windingValid.right, m.gridSensorValid, false, false, false, false, false]

/-- The GRANT RECORD read back (Table 8-2). -/
def Sys2Proof.Claims.grantReads (g : GrantRecord) (level : TripLevel) (mode : Mode) : Prop :=
  let b := grantBytes g level mode
  wordAt b 0 = g.sequence ∧ signedAt b 2 = g.torque.left ∧ signedAt b 4 = g.torque.right ∧
  unsignedAt b 6 = g.propelLimit.left ∧ unsignedAt b 8 = g.propelLimit.right ∧
  unsignedAt b 10 = g.retardLimit.left ∧ unsignedAt b 12 = g.retardLimit.right ∧ unsignedAt b 14 = g.speedLimit ∧
  (List.range 8).map (fun i => (byteAt b 16).getLsbD i) =
    [g.boost.left, g.boost.right, g.tractionReduced.left, g.tractionReduced.right, g.powerLimited, g.speedLimited,
     false, false] ∧
  (byteAt b 17).toNat % 4 = g.regime.code ∧ (byteAt b 17).toNat / 4 % 4 = level.code ∧ (byteAt b 17).toNat / 16 = mode.code

/-- Every record and payload that a reply carries reads back field by field at the offsets of Tables 8-2 and 8-4 to 8-8, each
enumerated field and result by its code (R164), and so does the reply frame itself (R152): GRANT RECORD, FAULT RECORD and
FAULT_READ (R147), the counters in their order (R161, R162), the map of TRIP_CLEAR, CHASSIS STATUS RECORD, PLAN_READ, ROW_READ
with entries 0 to 3 of row 22 as 0, STORE_STATUS, MODEL_READ and the IDENT_READ text. The figures lie within promises that every
step keeps. An absent signed figure outside a FAULT RECORD is sent as -32768 and the text in ASCII codes (the model's readings:
logs 17 and 20); the revision letter is a free value (log 13). -/
def Obligations.RecordsReadBack : Prop :=
  codesFollow ∧
  (∀ r : Reply, r.body.payload.length ≤ 48 → frameReads r) ∧
  (∀ (g : GrantRecord) (level : TripLevel) (mode : Mode),
    (∀ w, -1600 ≤ g.torque.get w ∧ g.torque.get w ≤ 1600 ∧ g.propelLimit.get w ≤ 1600 ∧ g.retardLimit.get w ≤ 1600) →
    g.speedLimit ≤ 7000 → grantReads g level mode) ∧
  (∀ r : FaultRecord, recordSound r → recordReads r) ∧
  (∀ im : Image, identReads im) ∧
  (∀ s : State, intakeSound s.intake → thermalSound s.thermal → deratesSound s.thermal → planSound s.planner →
    grantRanges s.engine → countersSound s → faultsSound s.trips → programmerSound s.store →
    statusReads s ∧ planReads s.planner ∧ (∀ r, r < 23 → rowReads r s.store) ∧ storeStatusReads s.store ∧
    pageZeroReads s ∧ pageOneReads s ∧ mapReads s ∧ (∀ n, n ≤ 15 → faultsRead n s.trips) ∧
    ∀ p, countersRead (s.port p).counters)

/-! ### The requests of L3 -/

/-- FAULT_ACK (R148), LOGOUT (R173) and RESTART (R188): FAULT_ACK from ACCESS LEVEL 1 on removes every CLEARED record and
answers with the count that remains; LOGOUT sets the ACCESS LEVEL to 0; RESTART is answered by the first of R188's checks
that fails, or OK, and changes nothing by itself. Nothing else changes but the port and the idle count. -/
def Obligations.FaultAckLogoutAndRestart : Prop :=
  ∀ (s : State) (a : Byte), listens s .l3 a →
    (1 ≤ s.store.accessLevel → exec (.faultAck []) s = .next
      { replied s .l3 a 0x36 .ok (oneByte (s.trips.faults.filter fun r => !r.cleared).length) with
        trips := { s.trips with faults := s.trips.faults.filter fun r => !r.cleared } }) ∧
    (s.store.accessLevel = 0 → exec (.faultAck []) s = .next (replied s .l3 a 0x36 .refusedAccess [])) ∧
    exec (.logout []) s = .next
      { replied s .l3 a 0x31 .ok [] with store := { s.store with idleCount := 0, accessLevel := 0 } } ∧
    exec (.restart []) s = .next (replied s .l3 a 0x3A
      (if s.mode = .startup then .busy
       else if s.store.accessLevel < 2 then .refusedAccess
       else if s.store.programmer ≠ .idle then .busy
       else if s.mode = .parked ∧ 10 ≤ s.intake.standstill then .ok
       else .refusedMode) [])

/-- ACCESS (R170, R171, R172): a level byte other than 1 or 2 is RANGE, a lockout LOCKED_OUT, neither with any other change;
with row 22 NV the code is compared with entries 0 and 1, or 2 and 3, high entry first: a match sets the level and clears the
failure count, a mismatch sets the level to 0 and counts, and the third one starts a lockout of LOCKOUT expiries; with row 22
LIMP the truck alone is judged. Nothing else changes but the port and the idle count. -/
def Obligations.AccessJudgesTheCode : Prop :=
  ∀ (s : State) (a level : Byte) (c0 c1 c2 c3 : Byte), listens s .l3 a →
    (level ≠ 1 → level ≠ 2 → exec (.access [level, c0, c1, c2, c3]) s = .next (replied s .l3 a 0x30 .range [])) ∧
    (level = 1 ∨ level = 2 →
      (s.store.lockout.isSome = true →
        exec (.access [level, c0, c1, c2, c3]) s = .next (replied s .l3 a 0x30 .lockedOut [])) ∧
      (s.store.lockout = none → rowIsLimp s.store.image 22 = true →
        exec (.access [level, c0, c1, c2, c3]) s = .next
          (if s.mode = .parked ∧ 10 ≤ s.intake.standstill then
            { replied s .l3 a 0x30 .ok [2] with
              store := { s.store with idleCount := 0, accessLevel := 2, failures := 0 } }
           else replied s .l3 a 0x30 .refusedAccess [])) ∧
      (s.store.lockout = none → rowIsLimp s.store.image 22 = false →
        (let row := imageRow s.store.image 22
         let code := if level = 1 then (rowEntry row 0, rowEntry row 1) else (rowEntry row 2, rowEntry row 3)
         exec (.access [level, c0, c1, c2, c3]) s = .next
          (if (c0 ++ c1, c2 ++ c3) = code then
            { replied s .l3 a 0x30 .ok [level] with
              store := { s.store with idleCount := 0, accessLevel := level.toNat, failures := 0 } }
           else if 2 ≤ s.store.failures then
            { replied s .l3 a 0x30 .refusedAccess [] with
              store := { s.store with
                idleCount := 0, accessLevel := 0, failures := 0, lockout := some (lockoutLength s.store.image) } }
           else
            { replied s .l3 a 0x30 .refusedAccess [] with
              store := { s.store with idleCount := 0, accessLevel := 0, failures := s.store.failures + 1 } }))))

/-- ROW_STAGE of k values, k from 1 to 8 (R176, R177, R169): judged BUSY, RANGE, REFUSED_ACCESS in that order with nothing
changed, else the STAGE BUFFER holds the row with value j at entry (e + j) mod 8 and the other entries from the buffer's own
image of the row or, failing that, from the WORKING IMAGE. -/
def Obligations.RowStageFillsTheBuffer : Prop :=
  ∀ (s : State) (a row e : Byte) (values : List Word), listens s .l3 a → 1 ≤ values.length → values.length ≤ 8 →
    (s.mode = .startup ∨ s.store.programmer ≠ .idle →
      exec (.rowStage (row :: e :: values.flatMap wordBytes)) s = .next (replied s .l3 a 0x33 .busy [])) ∧
    (s.mode ≠ .startup → s.store.programmer = .idle →
      (22 < row.toNat ∨ 7 < e.toNat →
        exec (.rowStage (row :: e :: values.flatMap wordBytes)) s = .next (replied s .l3 a 0x33 .range [])) ∧
      (row.toNat ≤ 22 → e.toNat ≤ 7 → s.store.accessLevel < (if row.toNat ∈ [12, 15, 16] then 1 else 2) →
        exec (.rowStage (row :: e :: values.flatMap wordBytes)) s = .next (replied s .l3 a 0x33 .refusedAccess [])) ∧
      (row.toNat ≤ 22 → e.toNat ≤ 7 → (if row.toNat ∈ [12, 15, 16] then 1 else 2) ≤ s.store.accessLevel →
        ∃ image : Row,
          exec (.rowStage (row :: e :: values.flatMap wordBytes)) s = .next
            { replied s .l3 a 0x33 .ok [] with
              store := { s.store with idleCount := 0, stage := some ⟨row.toNat, image⟩ } } ∧
          (∀ j, j < values.length → rowEntry image ((e.toNat + j) % 8) = values.getD j 0) ∧
          (∀ i, i < 8 → (∀ j, j < values.length → (e.toNat + j) % 8 ≠ i) →
            (∀ st, s.store.stage = some st → st.row = row.toNat → rowEntry image i = rowEntry st.entries i) ∧
            ((∀ st, s.store.stage = some st → st.row ≠ row.toNat) →
              rowEntry image i = rowEntry (imageRow s.store.image row.toNat) i))))

/-- The pair rule of R179 for a staged image of row `r`, against the WORKING IMAGE. -/
def Sys2Proof.Claims.pairHolds (im : Image) (r : Nat) (row : Row) : Prop :=
  (r < 4 → ∀ e, e < 8 → (rowEntry row e).toNat ≤ param im (r + 4) e) ∧
  (4 ≤ r → r < 8 → ∀ e, e < 8 → param im (r - 4) e ≤ (rowEntry row e).toNat)

/-- ROW_COMMIT of row `row` (R178, R179, R180): the checks of R178 in order, each refusal with nothing changed; a commit that
passes them all is answered OK, and the Row Programmer goes to PROGRAMMING. -/
def Obligations.RowCommitIsJudgedInOrder : Prop :=
  ∀ (s : State) (a row : Byte), listens s .l3 a →
    (s.mode = .startup → exec (.rowCommit [row]) s = .next (replied s .l3 a 0x34 .busy [])) ∧
    (s.mode ≠ .startup → (∀ st, s.store.stage = some st → st.row ≠ row.toNat) →
      exec (.rowCommit [row]) s = .next (replied s .l3 a 0x34 .notStaged [])) ∧
    (∀ st, s.mode ≠ .startup → s.store.stage = some st → st.row = row.toNat →
      (s.store.accessLevel < (if st.row ∈ [12, 15, 16] then 1 else 2) →
        exec (.rowCommit [row]) s = .next (replied s .l3 a 0x34 .refusedAccess [])) ∧
      ((if st.row ∈ [12, 15, 16] then 1 else 2) ≤ s.store.accessLevel →
        (¬(s.mode = .parked ∧ 10 ≤ s.intake.standstill) →
          exec (.rowCommit [row]) s = .next (replied s .l3 a 0x34 .refusedMode [])) ∧
        (s.mode = .parked → 10 ≤ s.intake.standstill →
          (¬(rangePasses st.row st.entries = true ∧ pairHolds s.store.image st.row st.entries) →
            exec (.rowCommit [row]) s = .next (replied s .l3 a 0x34 .range [])) ∧
          (rangePasses st.row st.entries = true → pairHolds s.store.image st.row st.entries →
            (s.store.programmer ≠ .idle → exec (.rowCommit [row]) s = .next (replied s .l3 a 0x34 .busy [])) ∧
            (s.store.programmer = .idle →
              exec (.rowCommit [row]) s = .next
                { replied s .l3 a 0x34 .ok [] with
                  store := { s.store with idleCount := 0, programmer := .programming } })))))

/-- The store of `t` is that of `s` after the swap of `st` (R182): the row replaced whole with source NV, every other row
kept, the programmer IDLE and the buffer empty. -/
def Sys2Proof.Claims.swapped (st : StagedRow) (s t : State) : Prop :=
  imageRow t.store.image st.row = st.entries ∧ rowIsLimp t.store.image st.row = false ∧
  (∀ r, r ≠ st.row → imageRow t.store.image r = imageRow s.store.image r ∧
    rowIsLimp t.store.image r = rowIsLimp s.store.image r) ∧
  t.store.programmer = .idle ∧ t.store.stage = none

/-- PROGRAM_VERIFY (R180, R181, R182, R183): the cells hold what was written with its CHECK WORD, or what `found` says
(log 10). Equal entries remove the SUSPECT mark, and the swap is made at once in PARKED with no pass in flight, else it
waits; different entries mark the row SUSPECT and count. Nothing outside the store changes but the steering reserve at a
swap of row 18. -/
def Obligations.ProgramVerifyDecides : Prop :=
  ∀ (s : State) (found : Option NvRow) (st : StagedRow), s.resetLow = false → s.store.programmer = .programming →
    s.store.stage = some st → st.row < 23 →
    (let cells : NvRow := found.getD ⟨st.entries, checkWord st.row st.entries⟩
     ∃ t, exec (.programVerify found) s = .next t ∧
      nvRow t.store st.row = cells ∧ (∀ r, r ≠ st.row → nvRow t.store r = nvRow s.store r) ∧
      (∀ r, r ≠ st.row → isSuspect t.store r = isSuspect s.store r) ∧
      (cells.entries ≠ st.entries →
        isSuspect t.store st.row = true ∧ t.store.writeFail = min (s.store.writeFail + 1) 65535 ∧
        t.store.programmer = .idle ∧ t.store.stage = some st ∧ t.store.image = s.store.image ∧
        t.traction = s.traction) ∧
      (cells.entries = st.entries →
        isSuspect t.store st.row = false ∧ t.store.writeFail = s.store.writeFail ∧
        (s.mode = .parked → s.engine.pass = none →
          swapped st s t ∧ (st.row ≠ 18 → t.traction = s.traction) ∧
          (st.row = 18 → t.traction = { s.traction with
            reserve := reserveOf t.store.image s.intake.l2 (demandInForce s.intake).pressure })) ∧
        (¬(s.mode = .parked ∧ s.engine.pass = none) →
          t.store.programmer = .swapPending ∧ t.store.stage = some st ∧ t.store.image = s.store.image ∧
          t.traction = s.traction)) ∧
      t = { s with
        traction := t.traction
        store := { s.store with
          nv := t.store.nv, suspect := t.store.suspect, writeFail := t.store.writeFail
          programmer := t.store.programmer, stage := t.store.stage, image := t.store.image } })

/-! ### The requests of L2 -/

/-- The DEMAND RECORD of a DEMAND payload, bounded as R27 states (Table 8-3). -/
def Sys2Proof.Claims.demandOf (p : List Byte) : DemandRecord :=
  { throttle := min 1000 (unsignedAt p 0)
    lever := min 1000 (unsignedAt p 2)
    direction := if byteAt p 4 = 1 then .forward else if byteAt p 4 = 2 then .reverse else .neutral
    steer := max (-400) (min 400 (signedAt p 5))
    payload := min 400 (unsignedAt p 7)
    pressure := min 300 (unsignedAt p 9)
    park := (byteAt p 11).getLsbD 0
    service := (byteAt p 11).getLsbD 1
    hold := if unsignedAt p 12 = 65535 then none else some (max 300 (min 7000 (unsignedAt p 12))) }

/-- The held direction and DIRECTION_HELD after a DEMAND for `d` (R28). -/
def Sys2Proof.Claims.heldAfter (d : Direction) (i : Intake) : Direction × Bool :=
  if d = i.direction then (i.direction, false)
  else if i.measurement.isSome ∧ refSpeedOr0 i < 50 then (d, false)
  else (i.direction, true)

/-- DEMAND, the INTAKE UNIT's part (R26, R27, R28, R30, R38, R77, R78, R149): the record is replaced bounded, L2 is FRESH with
its counter reloaded, a fallback ends, the direction and the payload are judged, the steering reserve is formed, and the
reply carries the CHASSIS STATUS RECORD as it stands after all of it. Mode, plan, GRANT torques, line and tables are the
next statement's; nothing else changes. The reserve of any L2 freshness and pressure is that of R77's table, from entries 2 to
5 of row 18. -/
def Obligations.DemandIsTaken : Prop :=
  (∀ (im : Image) (l2 : Freshness) (pressure : Nat),
    (let row := imageRow im 18
     reserveOf im l2 pressure =
       (if l2 = .stale then (rowEntry row 4).toNat
        else if pressure < (rowEntry row 2).toNat then (rowEntry row 4).toNat
        else if pressure < (rowEntry row 3).toNat then (rowEntry row 5).toNat
        else 0))) ∧
  ∀ (s : State) (a : Byte) (payload : List Byte), listens s .l2 a → payload.length = 14 →
    ∃ t, exec (.demand payload) s = .next t ∧
      t.intake = { s.intake with
        demand := demandOf payload, l2 := .fresh, l2Count := l2Timeout s.store.image, fallback := none, grace := 0
        direction := (heldAfter (demandOf payload).direction s.intake).1
        directionHeld := (heldAfter (demandOf payload).direction s.intake).2
        payload := if payloadSettle s.store.image ≤ s.intake.standstill then (demandOf payload).payload
          else s.intake.payload } ∧
      t.present = { s.present with chassisLinkLost := false } ∧
      t.traction = { s.traction with reserve := reserveOf t.store.image .fresh (demandOf payload).pressure } ∧
      t.portL2 = answered s.portL2 a 0x20 .ok (statusBytes t) ∧
      t = { s with
        portL2 := t.portL2, intake := t.intake, present := t.present, traction := t.traction
        mode := t.mode, planner := t.planner, engine := t.engine, tripOut := t.tripOut, store := t.store }

/-- The mode after a DEMAND: a change of held direction first (R132), then the park flag (R131). -/
def Sys2Proof.Claims.modeAfterDemand (s : State) (d : DemandRecord) : Mode :=
  let held := (heldAfter d.direction s.intake).1
  let m :=
    if held = s.intake.direction then s.mode
    else if s.mode = .ready ∧ held ≠ .neutral then .drive
    else if s.mode = .drive ∧ held = .neutral then .ready
    else s.mode
  if m = .startup then .startup
  else if m = .parked then
    if d.park then .parked else if held = .neutral then .ready else .drive
  else if d.park ∧ ¬(s.intake.measurement.isSome ∧ 50 ≤ refSpeedOr0 s.intake) then .parked
  else m

/-- DEMAND, what it hands on (R131, R132, R133, R61, R120, R124, R137, R182): the mode moves by the held direction and then by
the park flag; a brake flag, an exit from DRIVE or a payload band that becomes 7 sets each positive torque to 0; REVERSE
abandons an ACTIVE plan, and a new payload re-forms its head limit; a change of mode sets TRIP_OUT_N, and an entry to PARKED
with no pass in flight makes a swap that waits, which changes nothing in the store but the row, the programmer and the
buffer. -/
def Obligations.DemandHandsOn : Prop :=
  ∀ (s : State) (a : Byte) (payload : List Byte), listens s .l2 a → payload.length = 14 →
    ∃ t, exec (.demand payload) s = .next t ∧
      t.mode = modeAfterDemand s (demandOf payload) ∧
      (t.mode = s.mode → t.tripOut = s.tripOut) ∧ (t.mode ≠ s.mode → (t.tripOut = true ↔ s.trips.level = .d)) ∧
      t.engine = onlyTorque s.engine
        (if (demandOf payload).park = true ∨ (demandOf payload).service = true ∨ (s.mode = .drive ∧ t.mode ≠ .drive) ∨
            (t.intake.payload ≠ s.intake.payload ∧ 290 ≤ t.intake.payload)
         then noPositive s.engine.grant.torque else s.engine.grant.torque) ∧
      (s.planner.state = .active → t.intake.direction = .reverse → s.intake.direction ≠ .reverse →
        t.planner = { s.planner with
          queue := [], state := .empty, progress := 0, head := none
          abandoned := min (s.planner.abandoned + 1) 65535 }) ∧
      (∀ seg rest, s.planner.state = .active → (t.intake.direction = .reverse → s.intake.direction = .reverse) →
        s.planner.queue = seg :: rest → t.intake.payload ≠ s.intake.payload →
        t.planner = { s.planner with
          head := some (headLimitOf seg.target
            (sustainableSpeed s.store.image s.thermal.gd t.intake.payload seg.grade)) }) ∧
      ((t.intake.direction = .reverse → s.intake.direction = .reverse) → t.intake.payload = s.intake.payload →
        t.planner = s.planner) ∧
      (s.planner.state ≠ .active → t.planner = s.planner) ∧
      (∀ st, s.mode ≠ .parked → t.mode = .parked → s.store.programmer = .swapPending → s.store.stage = some st →
        st.row < 23 → s.engine.pass = none → swapped st s t) ∧
      t.store = { s.store with
        programmer := t.store.programmer, stage := t.store.stage, image := t.store.image } ∧
      (s.mode = .parked ∨ t.mode ≠ .parked ∨ s.store.programmer ≠ .swapPending ∨ s.engine.pass ≠ none →
        t.store = s.store)

/-- A SEGMENT RECORD as carried: length, grade, target and surface byte (Table 8-3). -/
abbrev Sys2Proof.Claims.Carried := Word × Word × Word × Byte

/-- The seven bytes of a carried segment. -/
def Sys2Proof.Claims.carriedBytes (x : Carried) : List Byte :=
  wordBytes x.1 ++ wordBytes x.2.1 ++ wordBytes x.2.2.1 ++ [x.2.2.2]

/-- A carried segment lies within the ranges of R110. -/
def Sys2Proof.Claims.carriedInRange (x : Carried) : Prop :=
  1 ≤ x.1.toNat ∧ x.1.toNat ≤ 5000 ∧ -200 ≤ x.2.1.toInt ∧ x.2.1.toInt ≤ 200 ∧ 300 ≤ x.2.2.1.toNat ∧
  x.2.2.1.toNat ≤ 7000 ∧ x.2.2.2.toNat ≤ 2

/-- Segment `seg` is what carried segment `x` is stored as behind the queue `before`: an absent surface takes the one at the
tail, DRY where the queue is empty (R113). -/
def Sys2Proof.Claims.storedAs (before : List Segment) (x : Carried) (seg : Segment) : Prop :=
  seg.length = x.1.toNat ∧ seg.grade = x.2.1.toInt ∧ seg.target = x.2.2.1.toNat ∧
  (x.2.2.2 = 1 → seg.surface = .dry) ∧ (x.2.2.2 = 2 → seg.surface = .wet) ∧
  (x.2.2.2 = 0 → before = [] → seg.surface = .dry) ∧
  (∀ front last, x.2.2.2 = 0 → before = front ++ [last] → seg.surface = last.surface)

/-- PLAN_APPEND of one to six segments (R111, R112, R113): REFUSED_MODE in STARTUP whatever the payload, RANGE for a field out
of range, QUEUE_FULL above 16 segments, each with the plan unchanged; else all are added at the tail in order, and an EMPTY
plan becomes LOADED. The reply carries the PLAN SUMMARY, and only plan and port change. -/
def Obligations.PlanAppendIsAllOrNothing : Prop :=
  ∀ (s : State) (a : Byte), listens s .l2 a →
    (∀ payload : List Byte, payload.length ≤ 48 → s.mode = .startup →
      exec (.planAppend payload) s = .next (replied s .l2 a 0x21 .refusedMode (planSummary s.planner))) ∧
    (∀ xs : List Carried, s.mode ≠ .startup → 1 ≤ xs.length → xs.length ≤ 6 →
      ((∃ x ∈ xs, ¬carriedInRange x) →
        exec (.planAppend (xs.flatMap carriedBytes)) s =
          .next (replied s .l2 a 0x21 .range (planSummary s.planner))) ∧
      ((∀ x ∈ xs, carriedInRange x) → 16 < s.planner.queue.length + xs.length →
        exec (.planAppend (xs.flatMap carriedBytes)) s =
          .next (replied s .l2 a 0x21 .queueFull (planSummary s.planner))) ∧
      ((∀ x ∈ xs, carriedInRange x) → s.planner.queue.length + xs.length ≤ 16 →
        ∃ added : List Segment, added.length = xs.length ∧
          (∀ i x seg, xs[i]? = some x → added[i]? = some seg → storedAs (s.planner.queue ++ added.take i) x seg) ∧
          (let p := { s.planner with
             queue := s.planner.queue ++ added, state := if s.planner.state = .empty then .loaded else s.planner.state }
           exec (.planAppend (xs.flatMap carriedBytes)) s =
             .next { replied s .l2 a 0x21 .ok (planSummary p) with planner := p })))

/-- PLAN_START (R111, R114, R122, R123) and PLAN_CLEAR (R111, R115): REFUSED_MODE in STARTUP, whatever the payload. PLAN_START
of a LOADED plan with the held direction FORWARD makes it ACTIVE with progress 0 and the head limit computed at once; any
other PLAN_START is refused REFUSED_MODE. PLAN_CLEAR empties the plan and keeps its counts. Only plan and port change. The
sustainable speed is R122's of entries 3, 6 and 7 of row 19, the head limit with its flags is R123's, and a head limit formed
in a state is that of its WORKING IMAGE, Gd and latched payload. -/
def Obligations.PlanStartAndClear : Prop :=
  (∀ (im : Image) (gd payload : Nat) (grade : Int),
    (let row := imageRow im 19
     let gnet := -grade - ((rowEntry row 7).toNat : Int)
     let mass := (rowEntry row 6).toNat + payload
     sustainableSpeed im gd payload grade =
       (if gnet ≤ 0 then 7000
        else min 7000 ((rowEntry row 3).toNat * gd / 1000 * 36000000 / (mass * gnet.natAbs * 981))))) ∧
  (∀ target sustainable : Nat,
    (headLimitOf target sustainable).speed = max 300 (min target sustainable) ∧
    ((headLimitOf target sustainable).derated = true ↔ sustainable < target) ∧
    ((headLimitOf target sustainable).infeasible = true ↔ sustainable < 300)) ∧
  (∀ (s : State) (seg : Segment), headLimitNow s seg =
    headLimitOf seg.target (sustainableSpeed s.store.image s.thermal.gd s.intake.payload seg.grade)) ∧
  ∀ (s : State) (a : Byte), listens s .l2 a →
    (∀ payload : List Byte, payload.length ≤ 48 → s.mode = .startup →
      exec (.planStart payload) s = .next (replied s .l2 a 0x22 .refusedMode (planSummary s.planner)) ∧
      exec (.planClear payload) s = .next (replied s .l2 a 0x23 .refusedMode (planSummary s.planner))) ∧
    (s.mode ≠ .startup →
      (∀ seg rest, s.planner.state = .loaded → s.intake.direction = .forward → s.planner.queue = seg :: rest →
        (let p := { s.planner with
           state := .active, progress := 0
           head := some (headLimitOf seg.target
             (sustainableSpeed s.store.image s.thermal.gd s.intake.payload seg.grade)) }
         exec (.planStart []) s = .next { replied s .l2 a 0x22 .ok (planSummary p) with planner := p })) ∧
      (¬(s.planner.state = .loaded ∧ s.intake.direction = .forward) →
        exec (.planStart []) s = .next (replied s .l2 a 0x22 .refusedMode (planSummary s.planner))) ∧
      (let p := { s.planner with queue := [], state := .empty, progress := 0, head := none }
       exec (.planClear []) s = .next { replied s .l2 a 0x23 .ok (planSummary p) with planner := p }))

/-- The condition of a code has gone (R145). -/
def Sys2Proof.Claims.gone (s : State) (c : TripCode) : Prop :=
  let im := s.store.image
  match c with
  | .propLinkLost => s.intake.l1 = .fresh
  | .chassisLinkLost => s.intake.l2 = .fresh
  | .gridOvertemp => ∃ g, s.thermal.grid = some g ∧ g.effective < (gridTrip im : Int) - 50
  | .motorOvertempL => ∃ m, s.intake.measurement = some m ∧ m.windingValid.left = true ∧
      m.winding.left < (motorTrip im : Int) - 20
  | .motorOvertempR => ∃ m, s.intake.measurement = some m ∧ m.windingValid.right = true ∧
      m.winding.right < (motorTrip im : Int) - 20
  | .dcLinkOvervolt => ∃ m, s.intake.measurement = some m ∧ m.voltage ≤ dcOv im
  | .inverterFault => ∃ m, s.intake.measurement = some m ∧ m.inverterFault = ⟨false, false⟩
  | .steerPressureLow => steerMin im ≤ (demandInForce s.intake).pressure
  | .overspeed => True
  | .retardShortfall => True
  | .torqueExcessL => True
  | .torqueExcessR => True

/-- TRIP_CLEAR (R144, R145, R135, R137): refused REFUSED_MODE with nothing changed unless STANDSTILL is CONFIRMED and the
DEMAND RECORD's throttle is 0; else every latched code whose condition has gone is unlatched and its records are CLEARED in
place, the others stay, level and TRIP_OUT_N are formed afresh, and the reply carries the map that remains. -/
def Obligations.TripClearUnlatchesWhatHasGone : Prop :=
  ∀ (s : State) (a : Byte), listens s .l2 a →
    (¬(10 ≤ s.intake.standstill ∧ s.intake.demand.throttle = 0) →
      exec (.tripClear []) s = .next (replied s .l2 a 0x25 .refusedMode (tripMapBytes s))) ∧
    (10 ≤ s.intake.standstill → s.intake.demand.throttle = 0 →
      ∃ t, exec (.tripClear []) s = .next t ∧
        (∀ c, t.trips.latched.get c = true ↔ s.trips.latched.get c = true ∧ ¬gone s c) ∧
        levelSound t.trips ∧ (t.tripOut = true ↔ t.trips.level = .d ∨ s.mode = .startup) ∧
        t.trips.overflow = s.trips.overflow ∧ t.trips.faults.length = s.trips.faults.length ∧
        (∀ (i : Nat) (r : FaultRecord), s.trips.faults[i]? = some r →
          ((s.trips.latched.get r.code = true ∧ gone s r.code) →
            t.trips.faults[i]? = some { r with cleared := true }) ∧
          (¬(s.trips.latched.get r.code = true ∧ gone s r.code) → t.trips.faults[i]? = some r)) ∧
        t = { s with
          portL2 := answered s.portL2 a 0x25 .ok (tripMapBytes t), trips := t.trips, tripOut := t.tripOut })

/-! ### MEASURE -/

/-- The detail of a code raised at a MEASURE with record `m` that leads to `t` (R134, R42). -/
def Sys2Proof.Claims.detailAtMeasure (m : MeasurementRecord) (t : State) : TripCode → Option Int
  | .gridOvertemp => t.thermal.grid.map fun g => g.effective
  | .motorOvertempL => some m.winding.left
  | .motorOvertempR => some m.winding.right
  | .dcLinkOvervolt => some (m.voltage : Int)
  | .inverterFault =>
    some (if m.inverterFault.left = true ∧ m.inverterFault.right = true then 3
      else if m.inverterFault.right = true then 2
      else 1)
  | .torqueExcessL => some m.achieved.left
  | .torqueExcessR => some m.achieved.right
  | .overspeed => some (m.refSpeed : Int)
  | _ => none

/-- The codes that a MEASURE from `s` to `t` raises (R40, R41, R42, R67, R99, R125): an excess count going from 4 to 5, and every
other condition where its mark goes from absent to present. -/
def Sys2Proof.Claims.raisedAtMeasure (s t : State) : TripCode → Prop
  | .torqueExcessL => s.engine.excess.left = 4 ∧ t.engine.excess.left = 5
  | .torqueExcessR => s.engine.excess.right = 4 ∧ t.engine.excess.right = 5
  | c => t.present.get c = true ∧ s.present.get c = false

/-- MEASURE, the records and conditions (R22, R23, R24, R29, R34, R41, R42, R60, R61, R125, R134, R138, R141): the record is
replaced bounded, L1 is FRESH with its counter reloaded, the standstill counter follows, each judged condition's mark follows
the record, and a condition that comes present, or an excess that goes from 4 to 5, is latched with a record that carries the
stamp, the new reference speed and its detail, or, where its code is latched, is counted in its ACTIVE record (R139, R143); where
none comes present the TRIP UNIT stays as it is (R40). A class-D latch zeroes both torques, a rise from NONE by OVERSPEED alone
withdraws the positive ones, and level and line follow. Nothing but the fields named at the end changes. -/
def Obligations.MeasureIsTaken : Prop :=
  ∀ (s : State) (a : Byte) (payload : List Byte), listens s .l1 a → payload.length = 23 →
    ∃ t, exec (.measure payload) s = .next t ∧
      (let m := measureOf payload
       t.intake = { s.intake with
         measurement := some m, l1 := .fresh, l1Count := l1Timeout s.store.image
         standstill := if 50 ≤ m.refSpeed then 0 else s.intake.standstill } ∧
       t.present.propLinkLost = false ∧
       (t.present.dcLinkOvervolt = true ↔ dcOv s.store.image < m.voltage) ∧
       (t.present.inverterFault = true ↔ m.inverterFault.left = true ∨ m.inverterFault.right = true) ∧
       (t.present.overspeed = true ↔ overspeedAbs s.store.image < m.refSpeed)) ∧
      t.present.chassisLinkLost = s.present.chassisLinkLost ∧ t.present.steerPressureLow = s.present.steerPressureLow ∧
      t.present.retardShortfall = s.present.retardShortfall ∧
      (∀ c, t.trips.latched.get c = true ↔ s.trips.latched.get c = true ∨ raisedAtMeasure s t c) ∧
      effectOfLatches False s t ∧
      recordsFollow (raisedAtMeasure s t) s.stamp (measureOf payload).refSpeed (detailAtMeasure (measureOf payload) t) s t ∧
      ((∀ c, ¬raisedAtMeasure s t c) → t.trips = s.trips) ∧
      t.engine = { onlyTorque s.engine t.engine.grant.torque with pass := t.engine.pass, excess := t.engine.excess } ∧
      t.planner = { s.planner with head := t.planner.head } ∧
      t = { s with
        portL1 := t.portL1, heldMeasure := t.heldMeasure, intake := t.intake, engine := t.engine, thermal := t.thermal
        planner := t.planner, present := t.present, trips := t.trips, tripOut := t.tripOut }

/-- One motor's hold after a reading with its mark (R96). -/
def Sys2Proof.Claims.holdAfterReading (reading : Int) (valid : Bool) (m m' : Motor) : Prop :=
  (valid = true → m'.hold = .live ∧ m'.temp = some reading ∧ (m.hold = .holding ∨ m.hold = .expired → m'.holdCount = 0)) ∧
  (valid = false →
    (m.hold = .none → m'.hold = .expired ∧ m'.temp = m.temp) ∧
    (m.hold = .live → m'.hold = .holding ∧ m'.holdCount = 0 ∧ m'.temp = m.temp) ∧
    (m.hold = .holding ∨ m.hold = .expired → m'.hold = m.hold ∧ m'.holdCount = m.holdCount ∧ m'.temp = m.temp))

/-- MEASURE, the THERMAL MONITOR's part (R88, R89, R91, R92, R93, R96, R98, R99, R124): G is seeded if UNSEEDED and kept
otherwise, the input copy is replaced, effective temperature, band and Gd are formed and handed to an ACTIVE plan where band
or Gd changed, each wheel's hold, band and Md follow its reading, and the overtemperature marks are judged. -/
def Obligations.MeasureFeedsTheThermalMonitor : Prop :=
  ∀ (s : State) (a : Byte) (payload : List Byte), listens s .l1 a → payload.length = 23 →
    ∃ t h, exec (.measure payload) s = .next t ∧ t.thermal.grid = some h ∧
      (let m := measureOf payload
       h.g = (match s.thermal.grid with
         | some g => g.g
         | none => if m.gridSensorValid then max (-800) (min 10400 (16 * m.gridSensor)) else 16 * (m.ambient + 150)) ∧
       h.power = m.gridPower ∧ h.blower = m.blower ∧ h.ambient = m.ambient ∧ h.sensor = m.gridSensor ∧
       h.sensorValid = m.gridSensorValid ∧
       h.effective = (if m.gridSensorValid then max (Int.tdiv h.g 16) m.gridSensor else Int.tdiv h.g 16) ∧
       h.band = gridBandOf h.effective ∧ t.thermal.gd = gridDerate s.store.image h.band ∧
       (t.present.gridOvertemp = true ↔ (gridTrip s.store.image : Int) ≤ h.effective) ∧
       (∀ seg rest, s.planner.state = .active → s.planner.queue = seg :: rest →
         ((s.thermal.grid.map fun g => g.band) ≠ some h.band ∨ s.thermal.gd ≠ t.thermal.gd →
           t.planner.head = some (headLimitNow t seg)) ∧
         ((s.thermal.grid.map fun g => g.band) = some h.band → s.thermal.gd = t.thermal.gd →
           t.planner.head = s.planner.head)) ∧
       (s.planner.state ≠ .active → t.planner.head = s.planner.head) ∧
       ∀ w, holdAfterReading (m.winding.get w) (m.windingValid.get w) (s.thermal.motor.get w) (t.thermal.motor.get w) ∧
         bandFollowsHold s.store.image (t.thermal.motor.get w) ∧
         (m.windingValid.get w = true → (t.present.get (motorOvertempOf w) = true ↔
           (motorTrip s.store.image : Int) ≤ m.winding.get w)) ∧
         (m.windingValid.get w = false →
           t.present.get (motorOvertempOf w) = s.present.get (motorOvertempOf w)))

/-- MEASURE, torque supervision (R66, R67): in every mode but STARTUP each wheel's achieved torque is compared with the torque
granted when the MEASURE was received; an excess counts up to 5, a compliant one returns the count to 0, the mark stands at 5,
and going from 4 to 5 raises the code, whose new record carries the achieved torque, or whose ACTIVE record, where the code is
latched, counts the occurrence and takes the stamp (R139); without that its ACTIVE record stands as it is. In STARTUP nothing is
compared. -/
def Obligations.MeasureSupervisesTorque : Prop :=
  ∀ (s : State) (a : Byte) (payload : List Byte), listens s .l1 a → payload.length = 23 →
    ∃ t, exec (.measure payload) s = .next t ∧ ∀ w,
      (let granted := s.engine.grant.torque.get w
       let achieved := (measureOf payload).achieved.get w
       let tol : Int := tqTol s.store.image
       let exceeds := (0 ≤ granted ∧ (granted + tol < achieved ∨ achieved < -tol)) ∨
         (granted < 0 ∧ (achieved < granted - tol ∨ tol < achieved))
       let code := torqueExcessOf w
       (s.mode ≠ .startup →
         (exceeds → t.engine.excess.get w = min (s.engine.excess.get w + 1) 5) ∧
         (¬exceeds → t.engine.excess.get w = 0) ∧
         (t.present.get code = true ↔ t.engine.excess.get w = 5) ∧
         (t.trips.latched.get code = true ↔
           s.trips.latched.get code = true ∨ (s.engine.excess.get w = 4 ∧ t.engine.excess.get w = 5)) ∧
         (s.trips.latched.get code = false → t.trips.latched.get code = true →
           ∃ r ∈ t.trips.faults, r.code = code ∧ r.cleared = false ∧ r.first = s.stamp ∧ r.detail = some achieved)) ∧
       (∀ r ∈ s.trips.faults, r.code = code → r.cleared = false →
         (s.trips.latched.get code = true ∧ s.engine.excess.get w = 4 ∧ t.engine.excess.get w = 5 →
           counted s.stamp r ∈ t.trips.faults) ∧
         (¬(s.trips.latched.get code = true ∧ s.engine.excess.get w = 4 ∧ t.engine.excess.get w = 5) →
           r ∈ t.trips.faults)) ∧
       (s.mode = .startup → t.engine.excess.get w = s.engine.excess.get w ∧
         t.present.get code = s.present.get code ∧ t.trips.latched.get code = s.trips.latched.get code))

/-- A BOOST TIMER handed the band just formed (R103, R105). -/
def Sys2Proof.Claims.timerAfterBand (im : Image) (band : Option Nat) (b : BoostTimer) : BoostTimer :=
  match band with
  | none => b
  | some x =>
    if b.state = .boost ∧ boostBandMax im < x then ⟨.recover, 0, some x⟩
    else if b.state = .recover ∧ b.reference = none then { b with reference := some x }
    else if b.state = .recover ∧ b.reference.getD 7 < x then ⟨.recover, 0, some x⟩
    else b

/-- The snapshot of R45 on record `m` of a state `t`. -/
def Sys2Proof.Claims.snapshotOf (m : MeasurementRecord) (t : State) : Snapshot :=
  { measurement := m, demand := demandInForce t.intake, l2Stale := decide (t.intake.l2 = .stale)
    direction := t.intake.direction, payload := t.intake.payload, payloadBand := payloadBandOf t.intake.payload
    mode := t.mode, tripLevel := t.trips.level, envelopeLimp := envelopeLimp t.store.image, image := t.store.image
    tf := t.traction.tf, boost := Both.of fun w => (t.thermal.motor.get w).boost.state, gd := t.thermal.gd
    md := Both.of fun w => (t.thermal.motor.get w).md, seeded := t.thermal.grid.isSome
    planActive := decide (t.planner.state = .active), headSpeed := (t.planner.head.map fun h => h.speed).getD 7000
    headSurface := (t.planner.queue.head?.map fun seg => seg.surface).getD .dry, previous := t.engine.grant.torque }

/-- `t` is a state in which a pass on record `m` has just started (R44, R45): it is in flight on its snapshot, and none of its
stages has run (log 7). -/
def Sys2Proof.Claims.passStarted (m : MeasurementRecord) (t : State) : Prop :=
  t.engine.pass = some (.snapshotTaken (snapshotOf m t))

/-- The regime of a pass on snapshot `n`, which no boost request touches (R50, R51). -/
def Sys2Proof.Claims.regimeOfPass (n : Snapshot) : Regime := (computePass n ⟨false, false⟩).regime

/-- In state `s` the pass on snapshot `n` requests boost for wheel `w` and the wheel enters BOOST: a PROPEL pass, a throttle of
950 or more, PROPEL_PEAK above PROPEL_CONT at the wheel's index, an IDLE timer in the snapshot (R51), and an IDLE timer with a
motor band at or below BOOST_BAND_MAX as they stand in `s` (R101). -/
def Sys2Proof.Claims.entersBoost (n : Snapshot) (s : State) (w : Wheel) : Bool :=
  let i := speedIndex (n.measurement.wheelSpeed.get w).natAbs
  decide (regimeOfPass n = .propel ∧ 950 ≤ n.demand.throttle ∧ propelCont n.image i < propelPeak n.image i ∧
    n.boost.get w = .idle ∧ (s.thermal.motor.get w).boost.state = .idle) &&
  (s.thermal.motor.get w).band.any fun b => decide (b ≤ boostBandMax s.store.image)

/-- `t` is `s` after the pass on snapshot `n` has run stages 1 to 8: its working values are kept for completion, the traction
factors are updated, a wheel that enters BOOST has its timer in BOOST with count 0, and nothing else changes (R51, R53,
R101). -/
def Sys2Proof.Claims.stagesRun (n : Snapshot) (s t : State) : Prop :=
  t.engine.pass = some (.computed (computePass n (Both.of (entersBoost n s)))) ∧
  t.traction.tf = newFactors n (regimeOfPass n) ∧
  (∀ w, t.thermal.motor.get w =
    if entersBoost n s w then
      { s.thermal.motor.get w with boost := { (s.thermal.motor.get w).boost with state := .boost, count := 0 } }
    else s.thermal.motor.get w) ∧
  t = { s with
    engine := { s.engine with pass := t.engine.pass }
    traction := { s.traction with tf := t.traction.tf }
    thermal := { s.thermal with motor := t.thermal.motor } }

/-- MEASURE, the ALLOCATION ENGINE's part (R44, R45, R51, R62, R63, R101, R103, R105): in STARTUP the GRANT RECORD is the reply;
with no pass in flight a pass starts on the new record and the reply is owed; with a pass in flight the MEASURE takes the held
slot, and the pass goes on untouched; each BOOST TIMER receives its band. With no command waiting, a step runs stages 1 to 8 of
a pass that has taken its snapshot, its boost requests answered from timers and bands as they stand then; that they run there
is the model's choice (log 7). -/
def Obligations.MeasureStartsOrHoldsThePass : Prop :=
  (∀ (s : State) (a : Byte) (payload : List Byte), listens s .l1 a → payload.length = 23 →
    ∃ t, exec (.measure payload) s = .next t ∧
      (∀ w, (t.thermal.motor.get w).boost =
        timerAfterBand s.store.image (t.thermal.motor.get w).band (s.thermal.motor.get w).boost) ∧
      (s.mode = .startup →
        t.portL1 = answered s.portL1 a 0x10 .ok (grantBytes t.engine.grant t.trips.level .startup) ∧
        t.heldMeasure = s.heldMeasure ∧ t.engine.pass = s.engine.pass) ∧
      (s.mode ≠ .startup → s.engine.pass = none →
        t.portL1 = owing s.portL1 a 0x10 none ∧ t.heldMeasure = s.heldMeasure ∧ passStarted (measureOf payload) t) ∧
      (s.mode ≠ .startup → s.engine.pass ≠ none →
        t.portL1 = owing s.portL1 a 0x10 none ∧ t.heldMeasure = some payload ∧ t.engine.pass = s.engine.pass)) ∧
  (∀ (s : State) (n : Snapshot), s.resetLow = false → s.pending = [] → s.validation = none →
    s.engine.pass = some (.snapshotTaken n) → ∃ t, step s = .next t ∧ stagesRun n s t)

/-! ### The pass -/

/-- The torques gated by the state at completion (R56). -/
def Sys2Proof.Claims.gated (s : State) (torque : Both Int) : Both Int :=
  if s.trips.level = .d ∨ s.mode = .startup ∨ s.mode = .parked then ⟨0, 0⟩
  else if s.trips.level = .p ∨ s.mode = .ready ∨ 290 ≤ s.intake.payload ∨ (demandInForce s.intake).park = true ∨
      (demandInForce s.intake).service = true then noPositive torque
  else torque

/-- PASS_COMPLETION (R56, R57, R58, R63, R182): the gated torques, limits, flags and regime of the pass are written, the
sequence advances by one, a waiting swap is made in PARKED, and then either the held MEASURE's pass starts or the reply of
this pass is formed and begins, where it is still owed (held back while a break holds the line: the model's operand, log 11).
A pass that has not run stages 1 to 8 runs them first, and a pass that starts has its snapshot alone: both are the model's
choice (log 7). -/
def Obligations.PassCompletionWritesTheGrant : Prop :=
  (∀ (s : State) (lineAtSpace : Bool) (n : Snapshot), s.resetLow = false → s.engine.pass = some (.snapshotTaken n) →
    ∃ u, stagesRun n s u ∧ exec (.passCompletion lineAtSpace) s = exec (.passCompletion lineAtSpace) u) ∧
  ∀ (s : State) (lineAtSpace : Bool) (w : PassWork), s.resetLow = false → s.engine.pass = some (.computed w) →
    ∃ t, exec (.passCompletion lineAtSpace) s = .next t ∧
      t.engine = { grant :=
          { sequence := s.engine.grant.sequence + 1, torque := gated s w.torque, propelLimit := w.propelLimit
            retardLimit := w.retardLimit, speedLimit := w.speedLimit, boost := w.boost
            tractionReduced := w.tractionReduced, powerLimited := w.powerLimited, speedLimited := w.speedLimited
            regime := w.regime }
                   speedLimit := w.speedLimit, source := w.source, retardFraction := w.retardFraction
                   pass := t.engine.pass, excess := s.engine.excess } ∧
      (∀ st, s.store.programmer = .swapPending → s.mode = .parked → s.store.stage = some st → st.row < 23 →
        swapped st s t ∧ (st.row = 18 → t.traction.reserve =
          reserveOf t.store.image s.intake.l2 (demandInForce s.intake).pressure) ∧
        (st.row ≠ 18 → t.traction.reserve = s.traction.reserve)) ∧
      (¬(s.store.programmer = .swapPending ∧ s.mode = .parked) →
        t.store = s.store ∧ t.traction.reserve = s.traction.reserve) ∧
      (s.heldMeasure = none →
        t.heldMeasure = none ∧ t.engine.pass = none ∧
        (let reply : ReplyBody := ⟨.ok, grantBytes t.engine.grant s.trips.level s.mode⟩
         (∀ a c, s.portL1.receive = .replyPending a c none →
           t.portL1 = ⟨if lineAtSpace then .replyPending a c (some reply) else .replying ⟨a, c, reply⟩,
             s.portL1.counters⟩) ∧
         ((∀ a c, s.portL1.receive ≠ .replyPending a c none) → t.portL1 = s.portL1))) ∧
      (∀ p m, s.heldMeasure = some p → s.intake.measurement = some m →
        t.heldMeasure = none ∧ t.portL1 = s.portL1 ∧ passStarted m t) ∧
      t = { s with
        portL1 := t.portL1, heldMeasure := t.heldMeasure, engine := t.engine
        store := { s.store with
          programmer := t.store.programmer, stage := t.store.stage, image := t.store.image }
        traction := { s.traction with reserve := t.traction.reserve } }

/-- The sources of the speed limit that apply to a pass, each with its value (R47). -/
def Sys2Proof.Claims.applies (n : Snapshot) (src : LimitSource) (v : Nat) : Prop :=
  match src with
  | .plan => n.planActive = true ∧ v = n.headSpeed
  | .payload => v = speedCap n.image n.payloadBand
  | .corner => v = cornerSpeed n.image (steerBandOf n.demand.steer)
  | .limp => n.envelopeLimp = true ∧ v = limpSpeed n.image
  | .fallback => n.l2Stale = true ∧ n.demand.setpoint = some v
  | .none => v = 7000

/-- Stage 1 (R47): the speed limit of a pass is the value of a source that applies, no source that applies gives a smaller
one, and none before it in the order PLAN, PAYLOAD, CORNER, LIMP, FALLBACK, NONE gives the same. -/
def Obligations.SpeedLimitIsTheSmallestSource : Prop :=
  ∀ (n : Snapshot) (entered : Both Bool),
    (let p := computePass n entered
     applies n p.source p.speedLimit ∧
     ∀ src v, applies n src v →
       p.speedLimit ≤ v ∧ (v = p.speedLimit → p.source.code ≤ src.code))

/-- Stages 2 and 3 (R48, R49, R50, R51): the limits of each wheel, the retard fraction from the lever and the excess of speed
above the retard setpoint, and the regime, RETARD before PROPEL before COAST. -/
def Obligations.LimitsFractionAndRegime : Prop :=
  ∀ (n : Snapshot) (entered : Both Bool),
    (let p := computePass n entered
     let sp := match n.demand.hold with
       | some h => min p.speedLimit h
       | none => p.speedLimit
     (∀ w, p.boost.get w = (decide (n.boost.get w = .boost) || entered.get w) ∧
       (let i := speedIndex (n.measurement.wheelSpeed.get w).natAbs
        p.propelLimit.get w =
          (if p.boost.get w then propelPeak n.image i else propelCont n.image i) * n.md.get w / 1000 ∧
        p.retardLimit.get w =
          (if n.seeded then
            (max 0 (min 1600 ((retardCap n.image i : Int) + 2 * retardTrim n.image (i / 4)))).toNat * n.gd / 1000 *
              n.md.get w / 1000
           else 0))) ∧
     p.retardFraction =
       (if n.mode = .ready ∨ n.mode = .drive then
         max n.demand.lever (if sp < n.measurement.refSpeed then
           min 1000 ((n.measurement.refSpeed - sp) * ksh n.image / 16) else 0)
        else 0) ∧
     (p.regime = .retard ↔ 0 < p.retardFraction) ∧
     (p.regime = .propel ↔ p.retardFraction = 0 ∧ n.mode = .drive ∧ n.tripLevel = .none ∧ 0 < n.demand.throttle ∧
       n.demand.park = false ∧ n.demand.service = false ∧ n.payloadBand < 7 ∧
       n.measurement.refSpeed + 100 < p.speedLimit) ∧
     (p.speedLimited = true ↔ p.speedLimit ≤ n.measurement.refSpeed + 100))

/-- The new torque of R55's table from a target, the previous grant and the rate. -/
def Sys2Proof.Claims.ratedTorque (rate : Nat) (previous target : Int) : Int :=
  if target = 0 then 0
  else if 0 < target then min target (if previous < 0 then (rate : Int) else previous + rate)
  else max target (if 0 < previous then -(rate : Int) else previous - rate)

/-- Stages 3 to 8 (R50 to R55, R70 to R72, R74, R75, R77, R79, R80, R81): the total is shared by the steer angle, clamped to
each wheel's limit, cut by the traction factor just updated, in PROPEL scaled to the power left by the steering reserve, and
signed and limited in growth. WET is an ACTIVE plan whose HEAD is WET. The rate limit for any torques: a target of 0 gives 0,
one of the sign of the previous torque, or after 0, grows by no more than the rate, one of the opposite sign starts from 0, and
the magnitude never passes that of the target. -/
def Obligations.StagesThreeToEightFormTheTorques : Prop :=
  (∀ (rate : Nat) (previous target : Int),
    (let n := rateLimited rate previous target
     (target = 0 → n = 0) ∧
     (0 < target → 0 ≤ previous → n = min target (previous + rate)) ∧
     (0 < target → previous < 0 → n = min target rate) ∧
     (target < 0 → previous ≤ 0 → n = max target (previous - rate)) ∧
     (target < 0 → 0 < previous → n = max target (-(rate : Int))) ∧ n.natAbs ≤ target.natAbs)) ∧
  ∀ (n : Snapshot) (entered : Both Bool),
    (let p := computePass n entered
     let wet := n.planActive = true ∧ n.headSurface = .wet
     let total := match p.regime with
       | .retard => p.retardFraction * (p.retardLimit.left + p.retardLimit.right) / 1000
       | .propel => n.demand.throttle * (p.propelLimit.left + p.propelLimit.right) / 1000
       | .coast => 0
     let split := if n.l2Stale ∨ n.demand.steer = 0 then 0 else steerSplit n.image (steerBandOf n.demand.steer)
     let share := fun w : Wheel => if (w = .left ↔ 0 < n.demand.steer) then 500 + split else 500 - split
     let limit := fun w => if p.regime = .propel then p.propelLimit.get w else p.retardLimit.get w
     let threshold : Int := if wet then (slipTh n.image / 2 : Nat) else slipTh n.image
     let departs := fun w =>
       (p.regime = .propel ∧
         threshold < ((n.measurement.wheelSpeed.get w).natAbs : Int) - n.measurement.refSpeed) ∨
       (p.regime = .retard ∧
         threshold < (n.measurement.refSpeed : Int) - (n.measurement.wheelSpeed.get w).natAbs)
     let factor := fun w =>
       if departs w then max 250 (n.tf.get w * 3 / 4) else min 1000 (n.tf.get w + tfRecover n.image)
     let gripped := fun w => min (total * share w / 1000) (limit w) * factor w / 1000
     let power := fun w => gripped w * (n.measurement.wheelSpeed.get w).natAbs * kpw n.image / 100000
     let available := pRated n.image -
       reserveOf n.image (if n.l2Stale then .stale else .fresh) n.demand.pressure
     let scaled := p.regime = .propel ∧ available < power .left + power .right
     let final := fun w => if scaled then gripped w * available / (power .left + power .right) else gripped w
     let rate := if wet then torqueRate n.image / 2 else torqueRate n.image
     ∀ w, newFactors n p.regime = Both.of factor ∧ (p.tractionReduced.get w = true ↔ factor w < 1000) ∧
       (p.powerLimited = true ↔ scaled) ∧
       p.torque.get w = ratedTorque rate (n.previous.get w)
         (match p.regime with
           | .propel => (final w : Int)
           | .retard => -(final w : Int)
           | .coast => 0))

/-- The power budget (R81): above the power available each torque is scaled in proportion and the flag is set, at or below it
nothing changes; no torque is raised, and the power of the scaled torques, formed again by R80, is at most P_avail + 1
kW. -/
def Obligations.PowerBudgetHolds : Prop :=
  ∀ (im : Image) (available : Nat) (torque : Both Nat) (speed : Both Int),
    (let power := Both.of fun w => wheelPower im (torque.get w) (speed.get w)
     let answer := budgetTorque available power torque
     (power.left + power.right ≤ available → answer = (torque, false)) ∧
     (available < power.left + power.right →
       answer.2 = true ∧
       (∀ w, answer.1.get w = torque.get w * available / (power.left + power.right) ∧ answer.1.get w ≤ torque.get w) ∧
       wheelPower im answer.1.left speed.left + wheelPower im answer.1.right speed.right ≤ available + 1))

/-! ### Trips -/

/-- A raise of a latched code (R139): the code's ACTIVE record counts the occurrence and takes the last stamp; everything else
stays. -/
def Obligations.RaiseOfALatchedCodeMerges : Prop :=
  ∀ (s : State) (c : TripCode) (detail : Option Int), s.trips.latched.get c = true →
    ∃ faults, raiseTrip c detail s = { s with trips := { s.trips with faults := faults } } ∧
      faults.length = s.trips.faults.length ∧
      ∀ (i : Nat) (r : FaultRecord), s.trips.faults[i]? = some r →
        (r.code = c ∧ r.cleared = false → faults[i]? = some (counted s.stamp r)) ∧
        (¬(r.code = c ∧ r.cleared = false) → faults[i]? = some r)

/-- What only certain commands do (R57, R142, R130, R169, R145, R1, R182): the sequence advances by one at a completion, the
stamp at an expiry; STARTUP is left by VALIDATION_COMPLETE, the ACCESS LEVEL raised by ACCESS, a trip released by TRIP_CLEAR;
cells are written at the end of a program (log 9); a WORKING IMAGE row changes by validation or by a swap made in PARKED.
Resets apart. -/
def Obligations.OnlyTheirCommandsChange : Prop :=
  ∀ (s t : State) (c : Instr), exec c s = .next t → c ≠ .coldReset →
    (t.engine.grant.sequence ≠ s.engine.grant.sequence →
      c = .warmRestart ∨ ∃ b, c = .passCompletion b ∧ t.engine.grant.sequence = s.engine.grant.sequence + 1) ∧
    (t.stamp ≠ s.stamp → c = .baseIntervalExpiry ∧ t.stamp = s.stamp + 1) ∧
    (s.mode = .startup → t.mode ≠ .startup → c = .validationComplete) ∧
    (s.store.accessLevel < t.store.accessLevel → ∃ payload, c = .access payload) ∧
    (∀ code, s.trips.latched.get code = true → t.trips.latched.get code = false → ∃ payload, c = .tripClear payload) ∧
    (t.store.nv ≠ s.store.nv → ∃ found, c = .programVerify found) ∧
    (t.store.image ≠ s.store.image →
      c = .resetNRelease ∨ c = .validationComplete ∨ c = .warmRestart ∨
      (t.mode = .parked ∧ (s.engine.pass = none ∨ ∃ b, c = .passCompletion b) ∧
        ∃ st, s.store.stage = some st ∧ t.store.image = s.store.image.setIfInBounds st.row ⟨st.entries, .nv⟩))

/-! ### Promises that every step keeps -/

/-- Every step keeps the promise of the trip level, TRIP_OUT_N and the torques behind it (R135, R137). -/
def Obligations.StepKeepsTheLine : Prop :=
  ∀ s t : State, lineSound s → step s = .next t → lineSound t

/-- Every step keeps R61: no granted torque is positive but in DRIVE at trip level NONE, below payload band 7, with no brake
flag set. The premises are promises kept by steps of their own. -/
def Obligations.StepKeepsPropelWithheld : Prop :=
  ∀ s t : State, propelSound s → lineSound s → intakeSound s.intake → step s = .next t → propelSound t

/-- Every step keeps the FAULT LIST as R141 has it: one ACTIVE record for each latched trip and for no other, 16 records at
most, and the figures of each record in their ranges. The promises of the records that the figures are taken from are premises
with statements of their own. -/
def Obligations.StepKeepsTheFaultList : Prop :=
  ∀ s t : State, faultsSound s.trips → intakeSound s.intake → thermalSound s.thermal → step s = .next t →
    faultsSound t.trips

/-- Every step keeps the plan as R109, R110 and R123 have it. -/
def Obligations.StepKeepsThePlan : Prop :=
  ∀ s t : State, planSound s.planner → step s = .next t → planSound t.planner

/-- Every step keeps the tables in range with each PROPEL_CONT entry of a decided pair at or below its PROPEL_PEAK entry, the
image of a program fit for its swap, STARTUP to reset and validation, and the Row Programmer IDLE from the acceptance of a
RESTART to its warm restart, so that none falls during a program (R7, R18, R44, R129, R179, R184, R188). -/
def Obligations.StepKeepsTheTables : Prop :=
  ∀ s t : State, tablesSound s → step s = .next t → tablesSound t

/-- Every step keeps each torque of the GRANT RECORD, and of a pass in flight, within the limit of its sign of the same pass
(R57). -/
def Obligations.StepKeepsTorquesWithinLimits : Prop :=
  ∀ s t : State, grantSound s.engine → countersSound s → step s = .next t → grantSound t.engine

/-- Every step keeps the derates in 0..1000, the limits in 0..1600 and the speed limit in 300..7000, in the GRANT RECORD, in a
pass in flight and as the SL in force (R47, R59, R92, R98). -/
def Obligations.StepKeepsLimitsInRange : Prop :=
  ∀ s t : State, grantRanges s.engine → deratesSound s.thermal → tablesSound s → planSound s.planner →
    intakeSound s.intake → step s = .next t → grantRanges t.engine ∧ deratesSound t.thermal

/-- Every step keeps passes, held MEASURE and owed replies together, and every counter of countersSound within its range:
ports, overflow, write failures, excess, steering pressure, traction factors, steering reserve, ACCESS LEVEL, failures,
freshness, grace, shortfall, lockout and service idle counts (R11, R32, R39, R44, R62, R67, R69, R77, R83, R126, R143, R157,
R161, R169, R172, R174, R181). The promise of the tables, which bound the reserve and the last five, is a premise with a
statement of its own. -/
def Obligations.StepKeepsPassesAndCounters : Prop :=
  ∀ s t : State, passSound s → countersSound s → tablesSound s → step s = .next t → passSound t ∧ countersSound t

/-- Every step keeps the INTAKE UNIT's records in bounds, temperatures of 16 signed bits among them, its freshness states
consistent and the marks of the two link conditions with them (R23 to R25, R27, R29, R32 to R39). -/
def Obligations.StepKeepsTheIntake : Prop :=
  ∀ s t : State, intakeSound s.intake → linkMarksSound s → step s = .next t → intakeSound t.intake ∧ linkMarksSound t

/-- Every step keeps the THERMAL MONITOR as R87, R91, R92, R95, R98 and R100 have it, the temperatures and the BOOST counts in
their ranges among it. The promise of the tables, which bound BOOST_A and BOOST_B, is a premise with a statement of its
own. -/
def Obligations.StepKeepsTheThermalMonitor : Prop :=
  ∀ s t : State, thermalSound s.thermal → tablesSound s → step s = .next t → thermalSound t.thermal

/-- The promises that steps keep hold after a cold reset, over whatever the NONVOLATILE ARRAY holds, and so at the model's
reset state. -/
def Obligations.ColdResetKeepsEveryPromise : Prop :=
  ∀ nv : Vector NvRow 23,
    (let s := State.coldReset nv
     lineSound s ∧ propelSound s ∧ faultsSound s.trips ∧ planSound s.planner ∧ tablesSound s ∧ grantSound s.engine ∧
     grantRanges s.engine ∧ deratesSound s.thermal ∧ passSound s ∧ countersSound s ∧ intakeSound s.intake ∧
     linkMarksSound s ∧ thermalSound s.thermal) ∧
    ∃ erased, State.reset = State.coldReset erased

/-! ### Frames -/

/-- A character as R151 has it: start bit at space, data bits least significant bit first, marker bit, stop bit at mark. -/
def Sys2Proof.Claims.hasItsBits (marker : Bool) (b : Byte) (bits : Character) : Prop :=
  bits[0] = .space ∧ (∀ (i : Nat) (h : i < 8), bits[i + 1] = .mark ↔ b.getLsbD i = true) ∧
  (bits[9] = .mark ↔ marker = true) ∧ bits[10] = .mark

/-- What eleven bits of the line from a start bit at space on are taken for (R151): with the stop bit at mark a MARKER CHARACTER
or a data character by the marker bit; with it at space a framing error, unless the line is at space throughout. With the first
bit at mark no character starts. -/
def Sys2Proof.Claims.isTakenFor (bits : Character) : Prop :=
  (∀ marker b, hasItsBits marker b bits → readCharacter bits = some (if marker then .marker b else .data b)) ∧
  (bits[0] = .space → bits[10] = .space →
    ((∀ l ∈ bits.toList, l = .space) → readCharacter bits = some .heldAtSpace) ∧
    ((∃ l ∈ bits.toList, l = .mark) → readCharacter bits = some .framingError)) ∧
  (bits[0] = .mark → readCharacter bits = none)

/-- The command that one item of the line of `p` brings about, and the frame collected then (R151, R154, R155, R159, R160). -/
def Sys2Proof.Claims.itemsSpell (p : PortId) (frame : Option Collected) : Prop :=
  (∀ c a, readCharacter c = some (.marker a) →
    hearItem p (.character c) frame = (some (.markerCharacter p a), some (a, []))) ∧
  (∀ c, readCharacter c = some .framingError → hearItem p (.character c) frame = (some (.framingError p), none)) ∧
  (∀ c, readCharacter c = some .heldAtSpace → hearItem p (.character c) frame = (none, frame)) ∧
  (∀ c b, readCharacter c = some (.data b) → frame = none → hearItem p (.character c) frame = (none, none)) ∧
  (∀ c b a bytes i, readCharacter c = some (.data b) → frame = some (a, bytes) →
    (decodeFrame p a (bytes ++ [b]) = none → hearItem p (.character c) frame = (none, some (a, bytes ++ [b]))) ∧
    (decodeFrame p a (bytes ++ [b]) = some i → hearItem p (.character c) frame = (some i, none))) ∧
  (∀ n, n ≤ 33 → hearItem p (.atMark n) frame = (none, frame)) ∧
  (∀ n, 33 < n → hearItem p (.atMark n) frame = (some (.gapTimeout p), none)) ∧
  (∀ n, n < 11 → hearItem p (.atSpace n) frame = (none, frame)) ∧
  (∀ n, 11 ≤ n → n < 33 → hearItem p (.atSpace n) frame = (some (.shortBreak p), none)) ∧
  (∀ n, 33 ≤ n → hearItem p (.atSpace n) frame = (some (.longBreak p), none))

/-- Every well-formed request command is read back from the characters of its own frame, whatever the station address (R152,
R156). A character has the eleven bits of R151 and is read by them: marker bit, framing error, the line at space throughout. One
item of the line after the other brings about its command: a MARKER CHARACTER, the command that a frame's last data character
completes, a framing error, a gap above 3 character times, a break by its length (R154, R155, R159, R160). The line of a whole
frame spells the MARKER CHARACTER and then the request, and the characters of a reply are a MARKER CHARACTER and data
characters. That the line is given item by item, and that mark stands for 1, are the model's (logs 22 and 23). -/
def Obligations.FramesReadBack : Prop :=
  (∀ (p : PortId) (address code : Byte) (payload characters : List Byte) (c : Instr), WellFormed c = true →
    frameOf c = some (p, code, payload) → encodeFrame address c = some characters →
    decodeFrame p address characters = some c) ∧
  (∀ marker b, hasItsBits marker b (writeCharacter marker b)) ∧ (∀ bits, isTakenFor bits) ∧
  (∀ p frame, itemsSpell p frame) ∧
  (∀ p frame x rest, commandsOf p frame (x :: rest) =
    (hearItem p x frame).1.toList ++ commandsOf p (hearItem p x frame).2 rest) ∧
  (∀ (p : PortId) (address code : Byte) (payload : List Byte) (c : Instr) (line : List LineItem) (frame : Option Collected),
    WellFormed c = true → frameOf c = some (p, code, payload) → requestLine address c = some line →
    commandsOf p frame line = [.markerCharacter p address, c]) ∧
  (∀ r : Reply, ∃ rest, replyFrame r = r.address :: rest ∧
    (replyLine r).map readCharacter = some (.marker r.address) :: rest.map fun b => some (.data b))

/-- The CHECK WORD (R16): 65535 less the sum of the entries and 257 times the row number modulo 65536; a row passes at its
position exactly when the stored word is that; a row that passes at one position fails at every other, and an erased row
fails at all of them. -/
def Obligations.CheckWordBindsARowToItsPlace : Prop :=
  (∀ (r : Nat) (row : NvRow), checkPasses r row = true ↔
    row.check.toNat = 65535 - (((List.range 8).map fun e => (rowEntry row.entries e).toNat).sum + 257 * r) % 65536) ∧
  (∀ (r q : Nat) (row : NvRow), r < 23 → q < 23 → r ≠ q → checkPasses r row = true → checkPasses q row = false) ∧
  (∀ r, r < 23 → checkPasses r erasedRow = false)

/-! ### Tables, indexes and bands -/

/-- The bounds of the eight entries of a protect row (Tables 1-2 to 1-6). -/
def Sys2Proof.Claims.protectBounds : Nat → List (Nat × Nat)
  | 18 => [(500, 4000), (10, 200), (50, 250), (50, 250), (0, 500), (0, 500), (30, 200), (500, 7000)]
  | 19 => [(1, 255), (1, 255), (1, 255), (100, 5000), (200, 650), (100, 250), (50, 300), (0, 100)]
  | 20 => [(10, 1200), (10, 6000), (0, 6), (20, 1000), (1, 250), (5, 400), (1, 255), (20, 500)]
  | 21 => [(1000, 7000), (500, 3000), (50, 1000), (1, 600), (1, 600), (1, 50), (1, 50), (10, 1200)]
  | _ => [(0, 65535), (0, 65535), (0, 65535), (0, 65535), (3, 254), (100, 36000), (10, 6000), (1, 200)]

/-- Row `r` passes its range test alone: the ranges of Tables 1-1 to 1-6, rows 13 and 14 non-increasing (R9), STEER_OK not
below STEER_LOW (R11). -/
def Sys2Proof.Claims.permitted (r : Nat) (row : Row) : Prop :=
  (r < 12 → ∀ e, e < 8 → (rowEntry row e).toNat ≤ 1600) ∧
  (r = 12 → ∀ e, e < 8 → -128 ≤ (rowEntry row e).toInt ∧ (rowEntry row e).toInt ≤ 127) ∧
  (r = 13 ∨ r = 14 → (∀ e, e < 8 → (rowEntry row e).toNat ≤ 1000) ∧
    ∀ e, e < 7 → (rowEntry row (e + 1)).toNat ≤ (rowEntry row e).toNat) ∧
  (r = 15 ∨ r = 16 → ∀ e, e < 8 → 300 ≤ (rowEntry row e).toNat ∧ (rowEntry row e).toNat ≤ 7000) ∧
  (r = 17 → ∀ e, e < 8 → (rowEntry row e).toNat ≤ 200) ∧
  (18 ≤ r → ∀ e low high, (protectBounds r)[e]? = some (low, high) →
    low ≤ (rowEntry row e).toNat ∧ (rowEntry row e).toNat ≤ high) ∧
  (r = 18 → (rowEntry row 2).toNat ≤ (rowEntry row 3).toNat)

/-- The band whose range in a column of R5's table holds `x`, from the lower bounds of bands 1 to 7. -/
def Sys2Proof.Claims.bandBy (b1 b2 b3 b4 b5 b6 b7 x : Int) : Nat :=
  if x < b1 then 0 else if x < b2 then 1 else if x < b3 then 2 else if x < b4 then 3
  else if x < b5 then 4 else if x < b6 then 5 else if x < b7 then 6 else 7

/-- The named entries of the WORKING IMAGE, row by row (Tables 1-1 to 1-6): an index of 32 takes entry `i mod 8` of row
`i / 8` of its table. -/
def Sys2Proof.Claims.namesTheirEntries (im : Image) : Prop :=
  let at_ := fun r e => (rowEntry (imageRow im r) e).toNat
  (∀ i, propelCont im i = at_ (i / 8) (i % 8) ∧ propelPeak im i = at_ (4 + i / 8) (i % 8) ∧
    retardCap im i = at_ (8 + i / 8) (i % 8)) ∧
  (∀ b, retardTrim im b = (rowEntry (imageRow im 12) b).toInt ∧ gridDerate im b = at_ 13 b ∧
    motorDerate im b = at_ 14 b ∧ speedCap im b = at_ 15 b ∧ cornerSpeed im b = at_ 16 b ∧ steerSplit im b = at_ 17 b) ∧
  [pRated im, kpw im, steerLow im, steerOk im, steerResHi im, steerResLo im, steerMin im, limpSpeed im] =
    (List.range 8).map (at_ 18) ∧
  [kGh im, kGcOn im, kGcOff im, pGridCont im, gridTrip im, motorTrip im, emptyMass im, rollingResistance im] =
    (List.range 8).map (at_ 19) ∧
  [boostA im, boostB im, boostBandMax im, slipTh im, tfRecover im, torqueRate im, ksh im, tqTol im] =
    (List.range 8).map (at_ 20) ∧
  [overspeedAbs im, dcOv im, shortfallMargin im, shortfallIntervals im, payloadSettle im, l1Timeout im, l2Timeout im,
    l2Grace im] = (List.range 8).map (at_ 21) ∧
  [serviceIdle im, lockoutLength im, staleDecel im] = [at_ 22 5, at_ 22 6, at_ 22 7]

/-- The tables, indexes and bands that the other statements name (R4 to R7, R9, R11, R20, Tables 1-1 to 1-6): the range test of
a row alone and the pair rule; the speed index; the grid, motor, payload and steer bands; the retard trim group's index; the
row and entry of each named parameter; the envelope source, which follows the flags during validation too by the model's choice
(log 21). -/
def Obligations.RangesIndexesAndBandsFollowTheirTables : Prop :=
  (∀ (row : Row) (e : Nat) (h : e < 8), rowEntry row e = row[e]) ∧
  (∀ (im : Image) (r : Nat) (h : r < 23), imageRow im r = im[r].entries ∧
    (rowIsLimp im r = true ↔ im[r].source = .limp)) ∧
  (∀ (r : Nat) (row : Row), r < 23 → (rangePasses r row = true ↔ permitted r row)) ∧
  (∀ cont peak : Row, pairAgrees cont peak = true ↔
    ∀ e, e < 8 → (rowEntry cont e).toNat ≤ (rowEntry peak e).toNat) ∧
  (∀ v : Nat, speedIndex v =
    (if v < 800 then v / 100 else if v < 2400 then 8 + (v - 800) / 200
     else if v < 5600 then 16 + (v - 2400) / 400
     else if v < 7000 then 24 + (v - 5600) / 200
     else 31)) ∧
  (∀ x : Int, gridBandOf x = bandBy 200 300 360 420 480 540 600 x ∧
    motorBandOf x = bandBy 120 140 155 170 180 190 200 x ∧
    steerBandOf x = bandBy 20 50 100 150 200 260 330 (max x (-x))) ∧
  (∀ x : Nat, payloadBandOf x = bandBy 160 200 230 245 260 275 290 x) ∧
  (∀ v : Nat, trimGroup (speedIndex v) = speedIndex v / 4 ∧ speedIndex v / 4 ≤ 7) ∧
  ∀ im : Image, namesTheirEntries im ∧ (envelopeLimp im = true ↔ ∃ r, r < 18 ∧ rowIsLimp im r = true)
end

