-- ==== Sys2Proof/Laws/Bytes.lean ====
section
/-! SUPPORT. Byte order read and written: what is sent high byte first reads back (R152). -/

namespace Sys2Proof.Machine

@[simp] theorem wordBytes_length (w : Word) : (wordBytes w).length = 2 := rfl
@[simp] theorem unsignedBytes_length (n : Nat) : (unsignedBytes n).length = 2 := rfl
@[simp] theorem signedBytes_length (i : Int) : (signedBytes i).length = 2 := rfl
@[simp] theorem longBytes_length (w : BitVec 32) : (longBytes w).length = 4 := rfl
@[simp] theorem oneByte_length (n : Nat) : (oneByte n).length = 1 := rfl

/-- The two bytes of a word, joined again. -/
@[simp] theorem word_halves (w : Word) : w.extractLsb' 8 8 ++ w.extractLsb' 0 8 = w := by
  ext i hi
  rw [BitVec.getElem_append]
  split
  · simp
    exact BitVec.getLsbD_eq_getElem (by omega)
  · simp
    rw [BitVec.getLsbD_eq_getElem (by omega)]
    congr 1
    omega

/-- The two words of a long, joined again. -/
@[simp] theorem long_halves (w : BitVec 32) : w.extractLsb' 16 16 ++ w.extractLsb' 0 16 = w := by
  ext i hi
  rw [BitVec.getElem_append]
  split
  · simp
    exact BitVec.getLsbD_eq_getElem (by omega)
  · simp
    rw [BitVec.getLsbD_eq_getElem (by omega)]
    congr 1
    omega

/-- A figure of two bytes as a word reads back. -/
theorem toNat_ofNat_16 {n : Nat} (h : n ≤ 65535) : (BitVec.ofNat 16 n).toNat = n := by
  simp only [BitVec.toNat_ofNat]
  omega

/-- A signed figure of two bytes as a word reads back. -/
theorem toInt_ofInt_16 {i : Int} (h1 : -32768 ≤ i) (h2 : i ≤ 32767) : (BitVec.ofInt 16 i).toInt = i := by
  rw [BitVec.toInt_ofInt]
  apply Int.bmod_eq_of_le <;> omega

/-- Values in two bytes each read back as they were written. -/
theorem readValues_flatMap (values : List Word) : readValues values.length (values.flatMap wordBytes) = values := by
  induction values with
  | nil => rfl
  | cons v rest ih =>
    have hd : List.drop 2 (wordBytes v ++ rest.flatMap wordBytes) = rest.flatMap wordBytes := rfl
    have hw : wordAt (wordBytes v ++ rest.flatMap wordBytes) 0 = v := word_halves v
    simp only [List.length_cons, List.flatMap_cons, readValues, hd, hw, ih]

/-- Values in two bytes each take twice as many bytes. -/
theorem flatMap_wordBytes_length (values : List Word) : (values.flatMap wordBytes).length = 2 * values.length := by
  induction values with
  | nil => rfl
  | cons v rest ih =>
    simp only [List.flatMap_cons, List.length_append, wordBytes_length, ih, List.length_cons]
    omega

end Sys2Proof.Machine
end

