-- ==== Sys2Proof/Laws/State.lean ====
section
/-! SUPPORT. The field updates of State: what each update leaves in each field, true by `rfl`. -/

namespace Sys2Proof.Machine

/-! ### withResetLow -/

@[simp] theorem State.withResetLow_resetLow (s : State) (x) : (s.withResetLow x).resetLow = x := rfl
@[simp] theorem State.withResetLow_mode (s : State) (x) : (s.withResetLow x).mode = s.mode := rfl
@[simp] theorem State.withResetLow_tripOut (s : State) (x) : (s.withResetLow x).tripOut = s.tripOut := rfl
@[simp] theorem State.withResetLow_stamp (s : State) (x) : (s.withResetLow x).stamp = s.stamp := rfl
@[simp] theorem State.withResetLow_portL1 (s : State) (x) : (s.withResetLow x).portL1 = s.portL1 := rfl
@[simp] theorem State.withResetLow_portL2 (s : State) (x) : (s.withResetLow x).portL2 = s.portL2 := rfl
@[simp] theorem State.withResetLow_portL3 (s : State) (x) : (s.withResetLow x).portL3 = s.portL3 := rfl
@[simp] theorem State.withResetLow_heldMeasure (s : State) (x) : (s.withResetLow x).heldMeasure = s.heldMeasure := rfl
@[simp] theorem State.withResetLow_intake (s : State) (x) : (s.withResetLow x).intake = s.intake := rfl
@[simp] theorem State.withResetLow_store (s : State) (x) : (s.withResetLow x).store = s.store := rfl
@[simp] theorem State.withResetLow_engine (s : State) (x) : (s.withResetLow x).engine = s.engine := rfl
@[simp] theorem State.withResetLow_traction (s : State) (x) : (s.withResetLow x).traction = s.traction := rfl
@[simp] theorem State.withResetLow_thermal (s : State) (x) : (s.withResetLow x).thermal = s.thermal := rfl
@[simp] theorem State.withResetLow_planner (s : State) (x) : (s.withResetLow x).planner = s.planner := rfl
@[simp] theorem State.withResetLow_trips (s : State) (x) : (s.withResetLow x).trips = s.trips := rfl
@[simp] theorem State.withResetLow_present (s : State) (x) : (s.withResetLow x).present = s.present := rfl
@[simp] theorem State.withResetLow_validation (s : State) (x) : (s.withResetLow x).validation = s.validation := rfl
@[simp] theorem State.withResetLow_restartDue (s : State) (x) : (s.withResetLow x).restartDue = s.restartDue := rfl
@[simp] theorem State.withResetLow_freeCount (s : State) (x) : (s.withResetLow x).freeCount = s.freeCount := rfl
@[simp] theorem State.withResetLow_pending (s : State) (x) : (s.withResetLow x).pending = s.pending := rfl

/-! ### withMode -/

@[simp] theorem State.withMode_resetLow (s : State) (x) : (s.withMode x).resetLow = s.resetLow := rfl
@[simp] theorem State.withMode_mode (s : State) (x) : (s.withMode x).mode = x := rfl
@[simp] theorem State.withMode_tripOut (s : State) (x) : (s.withMode x).tripOut = s.tripOut := rfl
@[simp] theorem State.withMode_stamp (s : State) (x) : (s.withMode x).stamp = s.stamp := rfl
@[simp] theorem State.withMode_portL1 (s : State) (x) : (s.withMode x).portL1 = s.portL1 := rfl
@[simp] theorem State.withMode_portL2 (s : State) (x) : (s.withMode x).portL2 = s.portL2 := rfl
@[simp] theorem State.withMode_portL3 (s : State) (x) : (s.withMode x).portL3 = s.portL3 := rfl
@[simp] theorem State.withMode_heldMeasure (s : State) (x) : (s.withMode x).heldMeasure = s.heldMeasure := rfl
@[simp] theorem State.withMode_intake (s : State) (x) : (s.withMode x).intake = s.intake := rfl
@[simp] theorem State.withMode_store (s : State) (x) : (s.withMode x).store = s.store := rfl
@[simp] theorem State.withMode_engine (s : State) (x) : (s.withMode x).engine = s.engine := rfl
@[simp] theorem State.withMode_traction (s : State) (x) : (s.withMode x).traction = s.traction := rfl
@[simp] theorem State.withMode_thermal (s : State) (x) : (s.withMode x).thermal = s.thermal := rfl
@[simp] theorem State.withMode_planner (s : State) (x) : (s.withMode x).planner = s.planner := rfl
@[simp] theorem State.withMode_trips (s : State) (x) : (s.withMode x).trips = s.trips := rfl
@[simp] theorem State.withMode_present (s : State) (x) : (s.withMode x).present = s.present := rfl
@[simp] theorem State.withMode_validation (s : State) (x) : (s.withMode x).validation = s.validation := rfl
@[simp] theorem State.withMode_restartDue (s : State) (x) : (s.withMode x).restartDue = s.restartDue := rfl
@[simp] theorem State.withMode_freeCount (s : State) (x) : (s.withMode x).freeCount = s.freeCount := rfl
@[simp] theorem State.withMode_pending (s : State) (x) : (s.withMode x).pending = s.pending := rfl

/-! ### withTripOut -/

@[simp] theorem State.withTripOut_resetLow (s : State) (x) : (s.withTripOut x).resetLow = s.resetLow := rfl
@[simp] theorem State.withTripOut_mode (s : State) (x) : (s.withTripOut x).mode = s.mode := rfl
@[simp] theorem State.withTripOut_tripOut (s : State) (x) : (s.withTripOut x).tripOut = x := rfl
@[simp] theorem State.withTripOut_stamp (s : State) (x) : (s.withTripOut x).stamp = s.stamp := rfl
@[simp] theorem State.withTripOut_portL1 (s : State) (x) : (s.withTripOut x).portL1 = s.portL1 := rfl
@[simp] theorem State.withTripOut_portL2 (s : State) (x) : (s.withTripOut x).portL2 = s.portL2 := rfl
@[simp] theorem State.withTripOut_portL3 (s : State) (x) : (s.withTripOut x).portL3 = s.portL3 := rfl
@[simp] theorem State.withTripOut_heldMeasure (s : State) (x) : (s.withTripOut x).heldMeasure = s.heldMeasure := rfl
@[simp] theorem State.withTripOut_intake (s : State) (x) : (s.withTripOut x).intake = s.intake := rfl
@[simp] theorem State.withTripOut_store (s : State) (x) : (s.withTripOut x).store = s.store := rfl
@[simp] theorem State.withTripOut_engine (s : State) (x) : (s.withTripOut x).engine = s.engine := rfl
@[simp] theorem State.withTripOut_traction (s : State) (x) : (s.withTripOut x).traction = s.traction := rfl
@[simp] theorem State.withTripOut_thermal (s : State) (x) : (s.withTripOut x).thermal = s.thermal := rfl
@[simp] theorem State.withTripOut_planner (s : State) (x) : (s.withTripOut x).planner = s.planner := rfl
@[simp] theorem State.withTripOut_trips (s : State) (x) : (s.withTripOut x).trips = s.trips := rfl
@[simp] theorem State.withTripOut_present (s : State) (x) : (s.withTripOut x).present = s.present := rfl
@[simp] theorem State.withTripOut_validation (s : State) (x) : (s.withTripOut x).validation = s.validation := rfl
@[simp] theorem State.withTripOut_restartDue (s : State) (x) : (s.withTripOut x).restartDue = s.restartDue := rfl
@[simp] theorem State.withTripOut_freeCount (s : State) (x) : (s.withTripOut x).freeCount = s.freeCount := rfl
@[simp] theorem State.withTripOut_pending (s : State) (x) : (s.withTripOut x).pending = s.pending := rfl

/-! ### withStamp -/

@[simp] theorem State.withStamp_resetLow (s : State) (x) : (s.withStamp x).resetLow = s.resetLow := rfl
@[simp] theorem State.withStamp_mode (s : State) (x) : (s.withStamp x).mode = s.mode := rfl
@[simp] theorem State.withStamp_tripOut (s : State) (x) : (s.withStamp x).tripOut = s.tripOut := rfl
@[simp] theorem State.withStamp_stamp (s : State) (x) : (s.withStamp x).stamp = x := rfl
@[simp] theorem State.withStamp_portL1 (s : State) (x) : (s.withStamp x).portL1 = s.portL1 := rfl
@[simp] theorem State.withStamp_portL2 (s : State) (x) : (s.withStamp x).portL2 = s.portL2 := rfl
@[simp] theorem State.withStamp_portL3 (s : State) (x) : (s.withStamp x).portL3 = s.portL3 := rfl
@[simp] theorem State.withStamp_heldMeasure (s : State) (x) : (s.withStamp x).heldMeasure = s.heldMeasure := rfl
@[simp] theorem State.withStamp_intake (s : State) (x) : (s.withStamp x).intake = s.intake := rfl
@[simp] theorem State.withStamp_store (s : State) (x) : (s.withStamp x).store = s.store := rfl
@[simp] theorem State.withStamp_engine (s : State) (x) : (s.withStamp x).engine = s.engine := rfl
@[simp] theorem State.withStamp_traction (s : State) (x) : (s.withStamp x).traction = s.traction := rfl
@[simp] theorem State.withStamp_thermal (s : State) (x) : (s.withStamp x).thermal = s.thermal := rfl
@[simp] theorem State.withStamp_planner (s : State) (x) : (s.withStamp x).planner = s.planner := rfl
@[simp] theorem State.withStamp_trips (s : State) (x) : (s.withStamp x).trips = s.trips := rfl
@[simp] theorem State.withStamp_present (s : State) (x) : (s.withStamp x).present = s.present := rfl
@[simp] theorem State.withStamp_validation (s : State) (x) : (s.withStamp x).validation = s.validation := rfl
@[simp] theorem State.withStamp_restartDue (s : State) (x) : (s.withStamp x).restartDue = s.restartDue := rfl
@[simp] theorem State.withStamp_freeCount (s : State) (x) : (s.withStamp x).freeCount = s.freeCount := rfl
@[simp] theorem State.withStamp_pending (s : State) (x) : (s.withStamp x).pending = s.pending := rfl

/-! ### withPortL1 -/

@[simp] theorem State.withPortL1_resetLow (s : State) (x) : (s.withPortL1 x).resetLow = s.resetLow := rfl
@[simp] theorem State.withPortL1_mode (s : State) (x) : (s.withPortL1 x).mode = s.mode := rfl
@[simp] theorem State.withPortL1_tripOut (s : State) (x) : (s.withPortL1 x).tripOut = s.tripOut := rfl
@[simp] theorem State.withPortL1_stamp (s : State) (x) : (s.withPortL1 x).stamp = s.stamp := rfl
@[simp] theorem State.withPortL1_portL1 (s : State) (x) : (s.withPortL1 x).portL1 = x := rfl
@[simp] theorem State.withPortL1_portL2 (s : State) (x) : (s.withPortL1 x).portL2 = s.portL2 := rfl
@[simp] theorem State.withPortL1_portL3 (s : State) (x) : (s.withPortL1 x).portL3 = s.portL3 := rfl
@[simp] theorem State.withPortL1_heldMeasure (s : State) (x) : (s.withPortL1 x).heldMeasure = s.heldMeasure := rfl
@[simp] theorem State.withPortL1_intake (s : State) (x) : (s.withPortL1 x).intake = s.intake := rfl
@[simp] theorem State.withPortL1_store (s : State) (x) : (s.withPortL1 x).store = s.store := rfl
@[simp] theorem State.withPortL1_engine (s : State) (x) : (s.withPortL1 x).engine = s.engine := rfl
@[simp] theorem State.withPortL1_traction (s : State) (x) : (s.withPortL1 x).traction = s.traction := rfl
@[simp] theorem State.withPortL1_thermal (s : State) (x) : (s.withPortL1 x).thermal = s.thermal := rfl
@[simp] theorem State.withPortL1_planner (s : State) (x) : (s.withPortL1 x).planner = s.planner := rfl
@[simp] theorem State.withPortL1_trips (s : State) (x) : (s.withPortL1 x).trips = s.trips := rfl
@[simp] theorem State.withPortL1_present (s : State) (x) : (s.withPortL1 x).present = s.present := rfl
@[simp] theorem State.withPortL1_validation (s : State) (x) : (s.withPortL1 x).validation = s.validation := rfl
@[simp] theorem State.withPortL1_restartDue (s : State) (x) : (s.withPortL1 x).restartDue = s.restartDue := rfl
@[simp] theorem State.withPortL1_freeCount (s : State) (x) : (s.withPortL1 x).freeCount = s.freeCount := rfl
@[simp] theorem State.withPortL1_pending (s : State) (x) : (s.withPortL1 x).pending = s.pending := rfl

/-! ### withPortL2 -/

@[simp] theorem State.withPortL2_resetLow (s : State) (x) : (s.withPortL2 x).resetLow = s.resetLow := rfl
@[simp] theorem State.withPortL2_mode (s : State) (x) : (s.withPortL2 x).mode = s.mode := rfl
@[simp] theorem State.withPortL2_tripOut (s : State) (x) : (s.withPortL2 x).tripOut = s.tripOut := rfl
@[simp] theorem State.withPortL2_stamp (s : State) (x) : (s.withPortL2 x).stamp = s.stamp := rfl
@[simp] theorem State.withPortL2_portL1 (s : State) (x) : (s.withPortL2 x).portL1 = s.portL1 := rfl
@[simp] theorem State.withPortL2_portL2 (s : State) (x) : (s.withPortL2 x).portL2 = x := rfl
@[simp] theorem State.withPortL2_portL3 (s : State) (x) : (s.withPortL2 x).portL3 = s.portL3 := rfl
@[simp] theorem State.withPortL2_heldMeasure (s : State) (x) : (s.withPortL2 x).heldMeasure = s.heldMeasure := rfl
@[simp] theorem State.withPortL2_intake (s : State) (x) : (s.withPortL2 x).intake = s.intake := rfl
@[simp] theorem State.withPortL2_store (s : State) (x) : (s.withPortL2 x).store = s.store := rfl
@[simp] theorem State.withPortL2_engine (s : State) (x) : (s.withPortL2 x).engine = s.engine := rfl
@[simp] theorem State.withPortL2_traction (s : State) (x) : (s.withPortL2 x).traction = s.traction := rfl
@[simp] theorem State.withPortL2_thermal (s : State) (x) : (s.withPortL2 x).thermal = s.thermal := rfl
@[simp] theorem State.withPortL2_planner (s : State) (x) : (s.withPortL2 x).planner = s.planner := rfl
@[simp] theorem State.withPortL2_trips (s : State) (x) : (s.withPortL2 x).trips = s.trips := rfl
@[simp] theorem State.withPortL2_present (s : State) (x) : (s.withPortL2 x).present = s.present := rfl
@[simp] theorem State.withPortL2_validation (s : State) (x) : (s.withPortL2 x).validation = s.validation := rfl
@[simp] theorem State.withPortL2_restartDue (s : State) (x) : (s.withPortL2 x).restartDue = s.restartDue := rfl
@[simp] theorem State.withPortL2_freeCount (s : State) (x) : (s.withPortL2 x).freeCount = s.freeCount := rfl
@[simp] theorem State.withPortL2_pending (s : State) (x) : (s.withPortL2 x).pending = s.pending := rfl

/-! ### withPortL3 -/

@[simp] theorem State.withPortL3_resetLow (s : State) (x) : (s.withPortL3 x).resetLow = s.resetLow := rfl
@[simp] theorem State.withPortL3_mode (s : State) (x) : (s.withPortL3 x).mode = s.mode := rfl
@[simp] theorem State.withPortL3_tripOut (s : State) (x) : (s.withPortL3 x).tripOut = s.tripOut := rfl
@[simp] theorem State.withPortL3_stamp (s : State) (x) : (s.withPortL3 x).stamp = s.stamp := rfl
@[simp] theorem State.withPortL3_portL1 (s : State) (x) : (s.withPortL3 x).portL1 = s.portL1 := rfl
@[simp] theorem State.withPortL3_portL2 (s : State) (x) : (s.withPortL3 x).portL2 = s.portL2 := rfl
@[simp] theorem State.withPortL3_portL3 (s : State) (x) : (s.withPortL3 x).portL3 = x := rfl
@[simp] theorem State.withPortL3_heldMeasure (s : State) (x) : (s.withPortL3 x).heldMeasure = s.heldMeasure := rfl
@[simp] theorem State.withPortL3_intake (s : State) (x) : (s.withPortL3 x).intake = s.intake := rfl
@[simp] theorem State.withPortL3_store (s : State) (x) : (s.withPortL3 x).store = s.store := rfl
@[simp] theorem State.withPortL3_engine (s : State) (x) : (s.withPortL3 x).engine = s.engine := rfl
@[simp] theorem State.withPortL3_traction (s : State) (x) : (s.withPortL3 x).traction = s.traction := rfl
@[simp] theorem State.withPortL3_thermal (s : State) (x) : (s.withPortL3 x).thermal = s.thermal := rfl
@[simp] theorem State.withPortL3_planner (s : State) (x) : (s.withPortL3 x).planner = s.planner := rfl
@[simp] theorem State.withPortL3_trips (s : State) (x) : (s.withPortL3 x).trips = s.trips := rfl
@[simp] theorem State.withPortL3_present (s : State) (x) : (s.withPortL3 x).present = s.present := rfl
@[simp] theorem State.withPortL3_validation (s : State) (x) : (s.withPortL3 x).validation = s.validation := rfl
@[simp] theorem State.withPortL3_restartDue (s : State) (x) : (s.withPortL3 x).restartDue = s.restartDue := rfl
@[simp] theorem State.withPortL3_freeCount (s : State) (x) : (s.withPortL3 x).freeCount = s.freeCount := rfl
@[simp] theorem State.withPortL3_pending (s : State) (x) : (s.withPortL3 x).pending = s.pending := rfl

/-! ### withHeldMeasure -/

@[simp] theorem State.withHeldMeasure_resetLow (s : State) (x) : (s.withHeldMeasure x).resetLow = s.resetLow := rfl
@[simp] theorem State.withHeldMeasure_mode (s : State) (x) : (s.withHeldMeasure x).mode = s.mode := rfl
@[simp] theorem State.withHeldMeasure_tripOut (s : State) (x) : (s.withHeldMeasure x).tripOut = s.tripOut := rfl
@[simp] theorem State.withHeldMeasure_stamp (s : State) (x) : (s.withHeldMeasure x).stamp = s.stamp := rfl
@[simp] theorem State.withHeldMeasure_portL1 (s : State) (x) : (s.withHeldMeasure x).portL1 = s.portL1 := rfl
@[simp] theorem State.withHeldMeasure_portL2 (s : State) (x) : (s.withHeldMeasure x).portL2 = s.portL2 := rfl
@[simp] theorem State.withHeldMeasure_portL3 (s : State) (x) : (s.withHeldMeasure x).portL3 = s.portL3 := rfl
@[simp] theorem State.withHeldMeasure_heldMeasure (s : State) (x) : (s.withHeldMeasure x).heldMeasure = x := rfl
@[simp] theorem State.withHeldMeasure_intake (s : State) (x) : (s.withHeldMeasure x).intake = s.intake := rfl
@[simp] theorem State.withHeldMeasure_store (s : State) (x) : (s.withHeldMeasure x).store = s.store := rfl
@[simp] theorem State.withHeldMeasure_engine (s : State) (x) : (s.withHeldMeasure x).engine = s.engine := rfl
@[simp] theorem State.withHeldMeasure_traction (s : State) (x) : (s.withHeldMeasure x).traction = s.traction := rfl
@[simp] theorem State.withHeldMeasure_thermal (s : State) (x) : (s.withHeldMeasure x).thermal = s.thermal := rfl
@[simp] theorem State.withHeldMeasure_planner (s : State) (x) : (s.withHeldMeasure x).planner = s.planner := rfl
@[simp] theorem State.withHeldMeasure_trips (s : State) (x) : (s.withHeldMeasure x).trips = s.trips := rfl
@[simp] theorem State.withHeldMeasure_present (s : State) (x) : (s.withHeldMeasure x).present = s.present := rfl
@[simp] theorem State.withHeldMeasure_validation (s : State) (x) : (s.withHeldMeasure x).validation = s.validation := rfl
@[simp] theorem State.withHeldMeasure_restartDue (s : State) (x) : (s.withHeldMeasure x).restartDue = s.restartDue := rfl
@[simp] theorem State.withHeldMeasure_freeCount (s : State) (x) : (s.withHeldMeasure x).freeCount = s.freeCount := rfl
@[simp] theorem State.withHeldMeasure_pending (s : State) (x) : (s.withHeldMeasure x).pending = s.pending := rfl

/-! ### withIntake -/

@[simp] theorem State.withIntake_resetLow (s : State) (x) : (s.withIntake x).resetLow = s.resetLow := rfl
@[simp] theorem State.withIntake_mode (s : State) (x) : (s.withIntake x).mode = s.mode := rfl
@[simp] theorem State.withIntake_tripOut (s : State) (x) : (s.withIntake x).tripOut = s.tripOut := rfl
@[simp] theorem State.withIntake_stamp (s : State) (x) : (s.withIntake x).stamp = s.stamp := rfl
@[simp] theorem State.withIntake_portL1 (s : State) (x) : (s.withIntake x).portL1 = s.portL1 := rfl
@[simp] theorem State.withIntake_portL2 (s : State) (x) : (s.withIntake x).portL2 = s.portL2 := rfl
@[simp] theorem State.withIntake_portL3 (s : State) (x) : (s.withIntake x).portL3 = s.portL3 := rfl
@[simp] theorem State.withIntake_heldMeasure (s : State) (x) : (s.withIntake x).heldMeasure = s.heldMeasure := rfl
@[simp] theorem State.withIntake_intake (s : State) (x) : (s.withIntake x).intake = x := rfl
@[simp] theorem State.withIntake_store (s : State) (x) : (s.withIntake x).store = s.store := rfl
@[simp] theorem State.withIntake_engine (s : State) (x) : (s.withIntake x).engine = s.engine := rfl
@[simp] theorem State.withIntake_traction (s : State) (x) : (s.withIntake x).traction = s.traction := rfl
@[simp] theorem State.withIntake_thermal (s : State) (x) : (s.withIntake x).thermal = s.thermal := rfl
@[simp] theorem State.withIntake_planner (s : State) (x) : (s.withIntake x).planner = s.planner := rfl
@[simp] theorem State.withIntake_trips (s : State) (x) : (s.withIntake x).trips = s.trips := rfl
@[simp] theorem State.withIntake_present (s : State) (x) : (s.withIntake x).present = s.present := rfl
@[simp] theorem State.withIntake_validation (s : State) (x) : (s.withIntake x).validation = s.validation := rfl
@[simp] theorem State.withIntake_restartDue (s : State) (x) : (s.withIntake x).restartDue = s.restartDue := rfl
@[simp] theorem State.withIntake_freeCount (s : State) (x) : (s.withIntake x).freeCount = s.freeCount := rfl
@[simp] theorem State.withIntake_pending (s : State) (x) : (s.withIntake x).pending = s.pending := rfl

/-! ### withStore -/

@[simp] theorem State.withStore_resetLow (s : State) (x) : (s.withStore x).resetLow = s.resetLow := rfl
@[simp] theorem State.withStore_mode (s : State) (x) : (s.withStore x).mode = s.mode := rfl
@[simp] theorem State.withStore_tripOut (s : State) (x) : (s.withStore x).tripOut = s.tripOut := rfl
@[simp] theorem State.withStore_stamp (s : State) (x) : (s.withStore x).stamp = s.stamp := rfl
@[simp] theorem State.withStore_portL1 (s : State) (x) : (s.withStore x).portL1 = s.portL1 := rfl
@[simp] theorem State.withStore_portL2 (s : State) (x) : (s.withStore x).portL2 = s.portL2 := rfl
@[simp] theorem State.withStore_portL3 (s : State) (x) : (s.withStore x).portL3 = s.portL3 := rfl
@[simp] theorem State.withStore_heldMeasure (s : State) (x) : (s.withStore x).heldMeasure = s.heldMeasure := rfl
@[simp] theorem State.withStore_intake (s : State) (x) : (s.withStore x).intake = s.intake := rfl
@[simp] theorem State.withStore_store (s : State) (x) : (s.withStore x).store = x := rfl
@[simp] theorem State.withStore_engine (s : State) (x) : (s.withStore x).engine = s.engine := rfl
@[simp] theorem State.withStore_traction (s : State) (x) : (s.withStore x).traction = s.traction := rfl
@[simp] theorem State.withStore_thermal (s : State) (x) : (s.withStore x).thermal = s.thermal := rfl
@[simp] theorem State.withStore_planner (s : State) (x) : (s.withStore x).planner = s.planner := rfl
@[simp] theorem State.withStore_trips (s : State) (x) : (s.withStore x).trips = s.trips := rfl
@[simp] theorem State.withStore_present (s : State) (x) : (s.withStore x).present = s.present := rfl
@[simp] theorem State.withStore_validation (s : State) (x) : (s.withStore x).validation = s.validation := rfl
@[simp] theorem State.withStore_restartDue (s : State) (x) : (s.withStore x).restartDue = s.restartDue := rfl
@[simp] theorem State.withStore_freeCount (s : State) (x) : (s.withStore x).freeCount = s.freeCount := rfl
@[simp] theorem State.withStore_pending (s : State) (x) : (s.withStore x).pending = s.pending := rfl

/-! ### withEngine -/

@[simp] theorem State.withEngine_resetLow (s : State) (x) : (s.withEngine x).resetLow = s.resetLow := rfl
@[simp] theorem State.withEngine_mode (s : State) (x) : (s.withEngine x).mode = s.mode := rfl
@[simp] theorem State.withEngine_tripOut (s : State) (x) : (s.withEngine x).tripOut = s.tripOut := rfl
@[simp] theorem State.withEngine_stamp (s : State) (x) : (s.withEngine x).stamp = s.stamp := rfl
@[simp] theorem State.withEngine_portL1 (s : State) (x) : (s.withEngine x).portL1 = s.portL1 := rfl
@[simp] theorem State.withEngine_portL2 (s : State) (x) : (s.withEngine x).portL2 = s.portL2 := rfl
@[simp] theorem State.withEngine_portL3 (s : State) (x) : (s.withEngine x).portL3 = s.portL3 := rfl
@[simp] theorem State.withEngine_heldMeasure (s : State) (x) : (s.withEngine x).heldMeasure = s.heldMeasure := rfl
@[simp] theorem State.withEngine_intake (s : State) (x) : (s.withEngine x).intake = s.intake := rfl
@[simp] theorem State.withEngine_store (s : State) (x) : (s.withEngine x).store = s.store := rfl
@[simp] theorem State.withEngine_engine (s : State) (x) : (s.withEngine x).engine = x := rfl
@[simp] theorem State.withEngine_traction (s : State) (x) : (s.withEngine x).traction = s.traction := rfl
@[simp] theorem State.withEngine_thermal (s : State) (x) : (s.withEngine x).thermal = s.thermal := rfl
@[simp] theorem State.withEngine_planner (s : State) (x) : (s.withEngine x).planner = s.planner := rfl
@[simp] theorem State.withEngine_trips (s : State) (x) : (s.withEngine x).trips = s.trips := rfl
@[simp] theorem State.withEngine_present (s : State) (x) : (s.withEngine x).present = s.present := rfl
@[simp] theorem State.withEngine_validation (s : State) (x) : (s.withEngine x).validation = s.validation := rfl
@[simp] theorem State.withEngine_restartDue (s : State) (x) : (s.withEngine x).restartDue = s.restartDue := rfl
@[simp] theorem State.withEngine_freeCount (s : State) (x) : (s.withEngine x).freeCount = s.freeCount := rfl
@[simp] theorem State.withEngine_pending (s : State) (x) : (s.withEngine x).pending = s.pending := rfl

/-! ### withTraction -/

@[simp] theorem State.withTraction_resetLow (s : State) (x) : (s.withTraction x).resetLow = s.resetLow := rfl
@[simp] theorem State.withTraction_mode (s : State) (x) : (s.withTraction x).mode = s.mode := rfl
@[simp] theorem State.withTraction_tripOut (s : State) (x) : (s.withTraction x).tripOut = s.tripOut := rfl
@[simp] theorem State.withTraction_stamp (s : State) (x) : (s.withTraction x).stamp = s.stamp := rfl
@[simp] theorem State.withTraction_portL1 (s : State) (x) : (s.withTraction x).portL1 = s.portL1 := rfl
@[simp] theorem State.withTraction_portL2 (s : State) (x) : (s.withTraction x).portL2 = s.portL2 := rfl
@[simp] theorem State.withTraction_portL3 (s : State) (x) : (s.withTraction x).portL3 = s.portL3 := rfl
@[simp] theorem State.withTraction_heldMeasure (s : State) (x) : (s.withTraction x).heldMeasure = s.heldMeasure := rfl
@[simp] theorem State.withTraction_intake (s : State) (x) : (s.withTraction x).intake = s.intake := rfl
@[simp] theorem State.withTraction_store (s : State) (x) : (s.withTraction x).store = s.store := rfl
@[simp] theorem State.withTraction_engine (s : State) (x) : (s.withTraction x).engine = s.engine := rfl
@[simp] theorem State.withTraction_traction (s : State) (x) : (s.withTraction x).traction = x := rfl
@[simp] theorem State.withTraction_thermal (s : State) (x) : (s.withTraction x).thermal = s.thermal := rfl
@[simp] theorem State.withTraction_planner (s : State) (x) : (s.withTraction x).planner = s.planner := rfl
@[simp] theorem State.withTraction_trips (s : State) (x) : (s.withTraction x).trips = s.trips := rfl
@[simp] theorem State.withTraction_present (s : State) (x) : (s.withTraction x).present = s.present := rfl
@[simp] theorem State.withTraction_validation (s : State) (x) : (s.withTraction x).validation = s.validation := rfl
@[simp] theorem State.withTraction_restartDue (s : State) (x) : (s.withTraction x).restartDue = s.restartDue := rfl
@[simp] theorem State.withTraction_freeCount (s : State) (x) : (s.withTraction x).freeCount = s.freeCount := rfl
@[simp] theorem State.withTraction_pending (s : State) (x) : (s.withTraction x).pending = s.pending := rfl

/-! ### withThermal -/

@[simp] theorem State.withThermal_resetLow (s : State) (x) : (s.withThermal x).resetLow = s.resetLow := rfl
@[simp] theorem State.withThermal_mode (s : State) (x) : (s.withThermal x).mode = s.mode := rfl
@[simp] theorem State.withThermal_tripOut (s : State) (x) : (s.withThermal x).tripOut = s.tripOut := rfl
@[simp] theorem State.withThermal_stamp (s : State) (x) : (s.withThermal x).stamp = s.stamp := rfl
@[simp] theorem State.withThermal_portL1 (s : State) (x) : (s.withThermal x).portL1 = s.portL1 := rfl
@[simp] theorem State.withThermal_portL2 (s : State) (x) : (s.withThermal x).portL2 = s.portL2 := rfl
@[simp] theorem State.withThermal_portL3 (s : State) (x) : (s.withThermal x).portL3 = s.portL3 := rfl
@[simp] theorem State.withThermal_heldMeasure (s : State) (x) : (s.withThermal x).heldMeasure = s.heldMeasure := rfl
@[simp] theorem State.withThermal_intake (s : State) (x) : (s.withThermal x).intake = s.intake := rfl
@[simp] theorem State.withThermal_store (s : State) (x) : (s.withThermal x).store = s.store := rfl
@[simp] theorem State.withThermal_engine (s : State) (x) : (s.withThermal x).engine = s.engine := rfl
@[simp] theorem State.withThermal_traction (s : State) (x) : (s.withThermal x).traction = s.traction := rfl
@[simp] theorem State.withThermal_thermal (s : State) (x) : (s.withThermal x).thermal = x := rfl
@[simp] theorem State.withThermal_planner (s : State) (x) : (s.withThermal x).planner = s.planner := rfl
@[simp] theorem State.withThermal_trips (s : State) (x) : (s.withThermal x).trips = s.trips := rfl
@[simp] theorem State.withThermal_present (s : State) (x) : (s.withThermal x).present = s.present := rfl
@[simp] theorem State.withThermal_validation (s : State) (x) : (s.withThermal x).validation = s.validation := rfl
@[simp] theorem State.withThermal_restartDue (s : State) (x) : (s.withThermal x).restartDue = s.restartDue := rfl
@[simp] theorem State.withThermal_freeCount (s : State) (x) : (s.withThermal x).freeCount = s.freeCount := rfl
@[simp] theorem State.withThermal_pending (s : State) (x) : (s.withThermal x).pending = s.pending := rfl

/-! ### withPlanner -/

@[simp] theorem State.withPlanner_resetLow (s : State) (x) : (s.withPlanner x).resetLow = s.resetLow := rfl
@[simp] theorem State.withPlanner_mode (s : State) (x) : (s.withPlanner x).mode = s.mode := rfl
@[simp] theorem State.withPlanner_tripOut (s : State) (x) : (s.withPlanner x).tripOut = s.tripOut := rfl
@[simp] theorem State.withPlanner_stamp (s : State) (x) : (s.withPlanner x).stamp = s.stamp := rfl
@[simp] theorem State.withPlanner_portL1 (s : State) (x) : (s.withPlanner x).portL1 = s.portL1 := rfl
@[simp] theorem State.withPlanner_portL2 (s : State) (x) : (s.withPlanner x).portL2 = s.portL2 := rfl
@[simp] theorem State.withPlanner_portL3 (s : State) (x) : (s.withPlanner x).portL3 = s.portL3 := rfl
@[simp] theorem State.withPlanner_heldMeasure (s : State) (x) : (s.withPlanner x).heldMeasure = s.heldMeasure := rfl
@[simp] theorem State.withPlanner_intake (s : State) (x) : (s.withPlanner x).intake = s.intake := rfl
@[simp] theorem State.withPlanner_store (s : State) (x) : (s.withPlanner x).store = s.store := rfl
@[simp] theorem State.withPlanner_engine (s : State) (x) : (s.withPlanner x).engine = s.engine := rfl
@[simp] theorem State.withPlanner_traction (s : State) (x) : (s.withPlanner x).traction = s.traction := rfl
@[simp] theorem State.withPlanner_thermal (s : State) (x) : (s.withPlanner x).thermal = s.thermal := rfl
@[simp] theorem State.withPlanner_planner (s : State) (x) : (s.withPlanner x).planner = x := rfl
@[simp] theorem State.withPlanner_trips (s : State) (x) : (s.withPlanner x).trips = s.trips := rfl
@[simp] theorem State.withPlanner_present (s : State) (x) : (s.withPlanner x).present = s.present := rfl
@[simp] theorem State.withPlanner_validation (s : State) (x) : (s.withPlanner x).validation = s.validation := rfl
@[simp] theorem State.withPlanner_restartDue (s : State) (x) : (s.withPlanner x).restartDue = s.restartDue := rfl
@[simp] theorem State.withPlanner_freeCount (s : State) (x) : (s.withPlanner x).freeCount = s.freeCount := rfl
@[simp] theorem State.withPlanner_pending (s : State) (x) : (s.withPlanner x).pending = s.pending := rfl

/-! ### withTrips -/

@[simp] theorem State.withTrips_resetLow (s : State) (x) : (s.withTrips x).resetLow = s.resetLow := rfl
@[simp] theorem State.withTrips_mode (s : State) (x) : (s.withTrips x).mode = s.mode := rfl
@[simp] theorem State.withTrips_tripOut (s : State) (x) : (s.withTrips x).tripOut = s.tripOut := rfl
@[simp] theorem State.withTrips_stamp (s : State) (x) : (s.withTrips x).stamp = s.stamp := rfl
@[simp] theorem State.withTrips_portL1 (s : State) (x) : (s.withTrips x).portL1 = s.portL1 := rfl
@[simp] theorem State.withTrips_portL2 (s : State) (x) : (s.withTrips x).portL2 = s.portL2 := rfl
@[simp] theorem State.withTrips_portL3 (s : State) (x) : (s.withTrips x).portL3 = s.portL3 := rfl
@[simp] theorem State.withTrips_heldMeasure (s : State) (x) : (s.withTrips x).heldMeasure = s.heldMeasure := rfl
@[simp] theorem State.withTrips_intake (s : State) (x) : (s.withTrips x).intake = s.intake := rfl
@[simp] theorem State.withTrips_store (s : State) (x) : (s.withTrips x).store = s.store := rfl
@[simp] theorem State.withTrips_engine (s : State) (x) : (s.withTrips x).engine = s.engine := rfl
@[simp] theorem State.withTrips_traction (s : State) (x) : (s.withTrips x).traction = s.traction := rfl
@[simp] theorem State.withTrips_thermal (s : State) (x) : (s.withTrips x).thermal = s.thermal := rfl
@[simp] theorem State.withTrips_planner (s : State) (x) : (s.withTrips x).planner = s.planner := rfl
@[simp] theorem State.withTrips_trips (s : State) (x) : (s.withTrips x).trips = x := rfl
@[simp] theorem State.withTrips_present (s : State) (x) : (s.withTrips x).present = s.present := rfl
@[simp] theorem State.withTrips_validation (s : State) (x) : (s.withTrips x).validation = s.validation := rfl
@[simp] theorem State.withTrips_restartDue (s : State) (x) : (s.withTrips x).restartDue = s.restartDue := rfl
@[simp] theorem State.withTrips_freeCount (s : State) (x) : (s.withTrips x).freeCount = s.freeCount := rfl
@[simp] theorem State.withTrips_pending (s : State) (x) : (s.withTrips x).pending = s.pending := rfl

/-! ### withPresent -/

@[simp] theorem State.withPresent_resetLow (s : State) (x) : (s.withPresent x).resetLow = s.resetLow := rfl
@[simp] theorem State.withPresent_mode (s : State) (x) : (s.withPresent x).mode = s.mode := rfl
@[simp] theorem State.withPresent_tripOut (s : State) (x) : (s.withPresent x).tripOut = s.tripOut := rfl
@[simp] theorem State.withPresent_stamp (s : State) (x) : (s.withPresent x).stamp = s.stamp := rfl
@[simp] theorem State.withPresent_portL1 (s : State) (x) : (s.withPresent x).portL1 = s.portL1 := rfl
@[simp] theorem State.withPresent_portL2 (s : State) (x) : (s.withPresent x).portL2 = s.portL2 := rfl
@[simp] theorem State.withPresent_portL3 (s : State) (x) : (s.withPresent x).portL3 = s.portL3 := rfl
@[simp] theorem State.withPresent_heldMeasure (s : State) (x) : (s.withPresent x).heldMeasure = s.heldMeasure := rfl
@[simp] theorem State.withPresent_intake (s : State) (x) : (s.withPresent x).intake = s.intake := rfl
@[simp] theorem State.withPresent_store (s : State) (x) : (s.withPresent x).store = s.store := rfl
@[simp] theorem State.withPresent_engine (s : State) (x) : (s.withPresent x).engine = s.engine := rfl
@[simp] theorem State.withPresent_traction (s : State) (x) : (s.withPresent x).traction = s.traction := rfl
@[simp] theorem State.withPresent_thermal (s : State) (x) : (s.withPresent x).thermal = s.thermal := rfl
@[simp] theorem State.withPresent_planner (s : State) (x) : (s.withPresent x).planner = s.planner := rfl
@[simp] theorem State.withPresent_trips (s : State) (x) : (s.withPresent x).trips = s.trips := rfl
@[simp] theorem State.withPresent_present (s : State) (x) : (s.withPresent x).present = x := rfl
@[simp] theorem State.withPresent_validation (s : State) (x) : (s.withPresent x).validation = s.validation := rfl
@[simp] theorem State.withPresent_restartDue (s : State) (x) : (s.withPresent x).restartDue = s.restartDue := rfl
@[simp] theorem State.withPresent_freeCount (s : State) (x) : (s.withPresent x).freeCount = s.freeCount := rfl
@[simp] theorem State.withPresent_pending (s : State) (x) : (s.withPresent x).pending = s.pending := rfl

/-! ### withValidation -/

@[simp] theorem State.withValidation_resetLow (s : State) (x) : (s.withValidation x).resetLow = s.resetLow := rfl
@[simp] theorem State.withValidation_mode (s : State) (x) : (s.withValidation x).mode = s.mode := rfl
@[simp] theorem State.withValidation_tripOut (s : State) (x) : (s.withValidation x).tripOut = s.tripOut := rfl
@[simp] theorem State.withValidation_stamp (s : State) (x) : (s.withValidation x).stamp = s.stamp := rfl
@[simp] theorem State.withValidation_portL1 (s : State) (x) : (s.withValidation x).portL1 = s.portL1 := rfl
@[simp] theorem State.withValidation_portL2 (s : State) (x) : (s.withValidation x).portL2 = s.portL2 := rfl
@[simp] theorem State.withValidation_portL3 (s : State) (x) : (s.withValidation x).portL3 = s.portL3 := rfl
@[simp] theorem State.withValidation_heldMeasure (s : State) (x) : (s.withValidation x).heldMeasure = s.heldMeasure := rfl
@[simp] theorem State.withValidation_intake (s : State) (x) : (s.withValidation x).intake = s.intake := rfl
@[simp] theorem State.withValidation_store (s : State) (x) : (s.withValidation x).store = s.store := rfl
@[simp] theorem State.withValidation_engine (s : State) (x) : (s.withValidation x).engine = s.engine := rfl
@[simp] theorem State.withValidation_traction (s : State) (x) : (s.withValidation x).traction = s.traction := rfl
@[simp] theorem State.withValidation_thermal (s : State) (x) : (s.withValidation x).thermal = s.thermal := rfl
@[simp] theorem State.withValidation_planner (s : State) (x) : (s.withValidation x).planner = s.planner := rfl
@[simp] theorem State.withValidation_trips (s : State) (x) : (s.withValidation x).trips = s.trips := rfl
@[simp] theorem State.withValidation_present (s : State) (x) : (s.withValidation x).present = s.present := rfl
@[simp] theorem State.withValidation_validation (s : State) (x) : (s.withValidation x).validation = x := rfl
@[simp] theorem State.withValidation_restartDue (s : State) (x) : (s.withValidation x).restartDue = s.restartDue := rfl
@[simp] theorem State.withValidation_freeCount (s : State) (x) : (s.withValidation x).freeCount = s.freeCount := rfl
@[simp] theorem State.withValidation_pending (s : State) (x) : (s.withValidation x).pending = s.pending := rfl

/-! ### withRestartDue -/

@[simp] theorem State.withRestartDue_resetLow (s : State) (x) : (s.withRestartDue x).resetLow = s.resetLow := rfl
@[simp] theorem State.withRestartDue_mode (s : State) (x) : (s.withRestartDue x).mode = s.mode := rfl
@[simp] theorem State.withRestartDue_tripOut (s : State) (x) : (s.withRestartDue x).tripOut = s.tripOut := rfl
@[simp] theorem State.withRestartDue_stamp (s : State) (x) : (s.withRestartDue x).stamp = s.stamp := rfl
@[simp] theorem State.withRestartDue_portL1 (s : State) (x) : (s.withRestartDue x).portL1 = s.portL1 := rfl
@[simp] theorem State.withRestartDue_portL2 (s : State) (x) : (s.withRestartDue x).portL2 = s.portL2 := rfl
@[simp] theorem State.withRestartDue_portL3 (s : State) (x) : (s.withRestartDue x).portL3 = s.portL3 := rfl
@[simp] theorem State.withRestartDue_heldMeasure (s : State) (x) : (s.withRestartDue x).heldMeasure = s.heldMeasure := rfl
@[simp] theorem State.withRestartDue_intake (s : State) (x) : (s.withRestartDue x).intake = s.intake := rfl
@[simp] theorem State.withRestartDue_store (s : State) (x) : (s.withRestartDue x).store = s.store := rfl
@[simp] theorem State.withRestartDue_engine (s : State) (x) : (s.withRestartDue x).engine = s.engine := rfl
@[simp] theorem State.withRestartDue_traction (s : State) (x) : (s.withRestartDue x).traction = s.traction := rfl
@[simp] theorem State.withRestartDue_thermal (s : State) (x) : (s.withRestartDue x).thermal = s.thermal := rfl
@[simp] theorem State.withRestartDue_planner (s : State) (x) : (s.withRestartDue x).planner = s.planner := rfl
@[simp] theorem State.withRestartDue_trips (s : State) (x) : (s.withRestartDue x).trips = s.trips := rfl
@[simp] theorem State.withRestartDue_present (s : State) (x) : (s.withRestartDue x).present = s.present := rfl
@[simp] theorem State.withRestartDue_validation (s : State) (x) : (s.withRestartDue x).validation = s.validation := rfl
@[simp] theorem State.withRestartDue_restartDue (s : State) (x) : (s.withRestartDue x).restartDue = x := rfl
@[simp] theorem State.withRestartDue_freeCount (s : State) (x) : (s.withRestartDue x).freeCount = s.freeCount := rfl
@[simp] theorem State.withRestartDue_pending (s : State) (x) : (s.withRestartDue x).pending = s.pending := rfl

/-! ### withFreeCount -/

@[simp] theorem State.withFreeCount_resetLow (s : State) (x) : (s.withFreeCount x).resetLow = s.resetLow := rfl
@[simp] theorem State.withFreeCount_mode (s : State) (x) : (s.withFreeCount x).mode = s.mode := rfl
@[simp] theorem State.withFreeCount_tripOut (s : State) (x) : (s.withFreeCount x).tripOut = s.tripOut := rfl
@[simp] theorem State.withFreeCount_stamp (s : State) (x) : (s.withFreeCount x).stamp = s.stamp := rfl
@[simp] theorem State.withFreeCount_portL1 (s : State) (x) : (s.withFreeCount x).portL1 = s.portL1 := rfl
@[simp] theorem State.withFreeCount_portL2 (s : State) (x) : (s.withFreeCount x).portL2 = s.portL2 := rfl
@[simp] theorem State.withFreeCount_portL3 (s : State) (x) : (s.withFreeCount x).portL3 = s.portL3 := rfl
@[simp] theorem State.withFreeCount_heldMeasure (s : State) (x) : (s.withFreeCount x).heldMeasure = s.heldMeasure := rfl
@[simp] theorem State.withFreeCount_intake (s : State) (x) : (s.withFreeCount x).intake = s.intake := rfl
@[simp] theorem State.withFreeCount_store (s : State) (x) : (s.withFreeCount x).store = s.store := rfl
@[simp] theorem State.withFreeCount_engine (s : State) (x) : (s.withFreeCount x).engine = s.engine := rfl
@[simp] theorem State.withFreeCount_traction (s : State) (x) : (s.withFreeCount x).traction = s.traction := rfl
@[simp] theorem State.withFreeCount_thermal (s : State) (x) : (s.withFreeCount x).thermal = s.thermal := rfl
@[simp] theorem State.withFreeCount_planner (s : State) (x) : (s.withFreeCount x).planner = s.planner := rfl
@[simp] theorem State.withFreeCount_trips (s : State) (x) : (s.withFreeCount x).trips = s.trips := rfl
@[simp] theorem State.withFreeCount_present (s : State) (x) : (s.withFreeCount x).present = s.present := rfl
@[simp] theorem State.withFreeCount_validation (s : State) (x) : (s.withFreeCount x).validation = s.validation := rfl
@[simp] theorem State.withFreeCount_restartDue (s : State) (x) : (s.withFreeCount x).restartDue = s.restartDue := rfl
@[simp] theorem State.withFreeCount_freeCount (s : State) (x) : (s.withFreeCount x).freeCount = x := rfl
@[simp] theorem State.withFreeCount_pending (s : State) (x) : (s.withFreeCount x).pending = s.pending := rfl

/-! ### withPending -/

@[simp] theorem State.withPending_resetLow (s : State) (x) : (s.withPending x).resetLow = s.resetLow := rfl
@[simp] theorem State.withPending_mode (s : State) (x) : (s.withPending x).mode = s.mode := rfl
@[simp] theorem State.withPending_tripOut (s : State) (x) : (s.withPending x).tripOut = s.tripOut := rfl
@[simp] theorem State.withPending_stamp (s : State) (x) : (s.withPending x).stamp = s.stamp := rfl
@[simp] theorem State.withPending_portL1 (s : State) (x) : (s.withPending x).portL1 = s.portL1 := rfl
@[simp] theorem State.withPending_portL2 (s : State) (x) : (s.withPending x).portL2 = s.portL2 := rfl
@[simp] theorem State.withPending_portL3 (s : State) (x) : (s.withPending x).portL3 = s.portL3 := rfl
@[simp] theorem State.withPending_heldMeasure (s : State) (x) : (s.withPending x).heldMeasure = s.heldMeasure := rfl
@[simp] theorem State.withPending_intake (s : State) (x) : (s.withPending x).intake = s.intake := rfl
@[simp] theorem State.withPending_store (s : State) (x) : (s.withPending x).store = s.store := rfl
@[simp] theorem State.withPending_engine (s : State) (x) : (s.withPending x).engine = s.engine := rfl
@[simp] theorem State.withPending_traction (s : State) (x) : (s.withPending x).traction = s.traction := rfl
@[simp] theorem State.withPending_thermal (s : State) (x) : (s.withPending x).thermal = s.thermal := rfl
@[simp] theorem State.withPending_planner (s : State) (x) : (s.withPending x).planner = s.planner := rfl
@[simp] theorem State.withPending_trips (s : State) (x) : (s.withPending x).trips = s.trips := rfl
@[simp] theorem State.withPending_present (s : State) (x) : (s.withPending x).present = s.present := rfl
@[simp] theorem State.withPending_validation (s : State) (x) : (s.withPending x).validation = s.validation := rfl
@[simp] theorem State.withPending_restartDue (s : State) (x) : (s.withPending x).restartDue = s.restartDue := rfl
@[simp] theorem State.withPending_freeCount (s : State) (x) : (s.withPending x).freeCount = s.freeCount := rfl
@[simp] theorem State.withPending_pending (s : State) (x) : (s.withPending x).pending = x := rfl

/-! ### Ports -/

@[simp] theorem State.withPort_same (s : State) (p : PortId) (x : Port) : (s.withPort p x).port p = x := by
  cases p <;> rfl

/-- A port update leaves the other ports as they are. -/
@[simp] theorem State.withPort_other (s : State) (p q : PortId) (x : Port) (h : q ≠ p) :
    (s.withPort p x).port q = s.port q := by
  cases p <;> cases q <;> first | rfl | exact absurd rfl h

@[simp] theorem State.withPort_resetLow (s : State) (p : PortId) (x : Port) : (s.withPort p x).resetLow = s.resetLow := by cases p <;> rfl
@[simp] theorem State.withPort_mode (s : State) (p : PortId) (x : Port) : (s.withPort p x).mode = s.mode := by cases p <;> rfl
@[simp] theorem State.withPort_tripOut (s : State) (p : PortId) (x : Port) : (s.withPort p x).tripOut = s.tripOut := by cases p <;> rfl
@[simp] theorem State.withPort_stamp (s : State) (p : PortId) (x : Port) : (s.withPort p x).stamp = s.stamp := by cases p <;> rfl
@[simp] theorem State.withPort_heldMeasure (s : State) (p : PortId) (x : Port) : (s.withPort p x).heldMeasure = s.heldMeasure := by cases p <;> rfl
@[simp] theorem State.withPort_intake (s : State) (p : PortId) (x : Port) : (s.withPort p x).intake = s.intake := by cases p <;> rfl
@[simp] theorem State.withPort_store (s : State) (p : PortId) (x : Port) : (s.withPort p x).store = s.store := by cases p <;> rfl
@[simp] theorem State.withPort_engine (s : State) (p : PortId) (x : Port) : (s.withPort p x).engine = s.engine := by cases p <;> rfl
@[simp] theorem State.withPort_traction (s : State) (p : PortId) (x : Port) : (s.withPort p x).traction = s.traction := by cases p <;> rfl
@[simp] theorem State.withPort_thermal (s : State) (p : PortId) (x : Port) : (s.withPort p x).thermal = s.thermal := by cases p <;> rfl
@[simp] theorem State.withPort_planner (s : State) (p : PortId) (x : Port) : (s.withPort p x).planner = s.planner := by cases p <;> rfl
@[simp] theorem State.withPort_trips (s : State) (p : PortId) (x : Port) : (s.withPort p x).trips = s.trips := by cases p <;> rfl
@[simp] theorem State.withPort_present (s : State) (p : PortId) (x : Port) : (s.withPort p x).present = s.present := by cases p <;> rfl
@[simp] theorem State.withPort_validation (s : State) (p : PortId) (x : Port) : (s.withPort p x).validation = s.validation := by cases p <;> rfl
@[simp] theorem State.withPort_restartDue (s : State) (p : PortId) (x : Port) : (s.withPort p x).restartDue = s.restartDue := by cases p <;> rfl
@[simp] theorem State.withPort_freeCount (s : State) (p : PortId) (x : Port) : (s.withPort p x).freeCount = s.freeCount := by cases p <;> rfl
@[simp] theorem State.withPort_pending (s : State) (p : PortId) (x : Port) : (s.withPort p x).pending = s.pending := by cases p <;> rfl

@[simp] theorem State.withPort_l1 (s : State) (x : Port) : s.withPort .l1 x = s.withPortL1 x := rfl
@[simp] theorem State.withPort_l2 (s : State) (x : Port) : s.withPort .l2 x = s.withPortL2 x := rfl
@[simp] theorem State.withPort_l3 (s : State) (x : Port) : s.withPort .l3 x = s.withPortL3 x := rfl
@[simp] theorem State.port_l1 (s : State) : s.port .l1 = s.portL1 := rfl
@[simp] theorem State.port_l2 (s : State) : s.port .l2 = s.portL2 := rfl
@[simp] theorem State.port_l3 (s : State) : s.port .l3 = s.portL3 := rfl

/-! ### Marks and pairs -/

@[simp] theorem TripMarks.get_set_same (m : TripMarks) (c : TripCode) (b : Bool) : (m.set c b).get c = b := by
  cases c <;> rfl

@[simp] theorem TripMarks.get_set_other (m : TripMarks) (c d : TripCode) (b : Bool) (h : d ≠ c) :
    (m.set c b).get d = m.get d := by
  cases c <;> cases d <;> first | rfl | exact absurd rfl h

@[simp] theorem TripMarks.get_clear (c : TripCode) : TripMarks.clear.get c = false := by cases c <;> rfl

/-- Two sets of marks that agree on every code are equal. -/
theorem TripMarks.ext_get {m n : TripMarks} (h : ∀ c, m.get c = n.get c) : m = n := by
  obtain ⟨⟩ := m
  obtain ⟨⟩ := n
  have h0 := h .propLinkLost
  have h1 := h .gridOvertemp
  have h2 := h .motorOvertempL
  have h3 := h .motorOvertempR
  have h4 := h .dcLinkOvervolt
  have h5 := h .inverterFault
  have h6 := h .torqueExcessL
  have h7 := h .torqueExcessR
  have h8 := h .chassisLinkLost
  have h9 := h .overspeed
  have h10 := h .steerPressureLow
  have h11 := h .retardShortfall
  simp only [TripMarks.get] at *
  simp only [*]

end Sys2Proof.Machine

namespace Sys2Proof

@[simp] theorem Both.get_set_same {α : Type} (b : Both α) (w : Wheel) (x : α) : (b.set w x).get w = x := by
  cases w <;> rfl

@[simp] theorem Both.get_set_other {α : Type} (b : Both α) (w v : Wheel) (x : α) (h : v ≠ w) :
    (b.set w x).get v = b.get v := by
  cases w <;> cases v <;> first | rfl | exact absurd rfl h

@[simp] theorem Both.get_map {α β : Type} (f : α → β) (b : Both α) (w : Wheel) : (b.map f).get w = f (b.get w) := by
  cases w <;> rfl

@[simp] theorem Both.get_of {α : Type} (f : Wheel → α) (w : Wheel) : (Both.of f).get w = f w := by cases w <;> rfl

/-- Two pairs that agree on both wheels are equal. -/
theorem Both.ext_get {α : Type} {a b : Both α} (h : ∀ w, a.get w = b.get w) : a = b := by
  obtain ⟨⟩ := a
  obtain ⟨⟩ := b
  have hl := h .left
  have hr := h .right
  simp only [Both.get] at hl hr
  simp only [hl, hr]

end Sys2Proof
end

