-- ==== Sys2Proof/Laws/Frames.lean ====
section
/-! SUPPORT. The frame of every shared operation: one lemma for each, a conjunction of what it leaves as it was. -/

namespace Sys2Proof.Machine

/-! ### Ports (R154, R161) -/

/-- `setReceive` touches the ports alone. -/
@[simp] theorem setReceive_frame (p : PortId) (r : Receive) (s : State) :
    (setReceive p r s).resetLow = s.resetLow ∧ (setReceive p r s).mode = s.mode ∧
    (setReceive p r s).tripOut = s.tripOut ∧ (setReceive p r s).stamp = s.stamp ∧
    (setReceive p r s).heldMeasure = s.heldMeasure ∧ (setReceive p r s).intake = s.intake ∧
    (setReceive p r s).store = s.store ∧ (setReceive p r s).engine = s.engine ∧
    (setReceive p r s).traction = s.traction ∧ (setReceive p r s).thermal = s.thermal ∧
    (setReceive p r s).planner = s.planner ∧ (setReceive p r s).trips = s.trips ∧
    (setReceive p r s).present = s.present ∧ (setReceive p r s).validation = s.validation ∧
    (setReceive p r s).restartDue = s.restartDue ∧ (setReceive p r s).freeCount = s.freeCount ∧
    (setReceive p r s).pending = s.pending := by
  cases p <;> simp [setReceive, State.withPort]

/-- `countOn` touches the ports alone. -/
@[simp] theorem countOn_frame (p : PortId) (f : Counters → Counters) (s : State) :
    (countOn p f s).resetLow = s.resetLow ∧ (countOn p f s).mode = s.mode ∧ (countOn p f s).tripOut = s.tripOut ∧
    (countOn p f s).stamp = s.stamp ∧ (countOn p f s).heldMeasure = s.heldMeasure ∧
    (countOn p f s).intake = s.intake ∧ (countOn p f s).store = s.store ∧ (countOn p f s).engine = s.engine ∧
    (countOn p f s).traction = s.traction ∧ (countOn p f s).thermal = s.thermal ∧
    (countOn p f s).planner = s.planner ∧ (countOn p f s).trips = s.trips ∧ (countOn p f s).present = s.present ∧
    (countOn p f s).validation = s.validation ∧ (countOn p f s).restartDue = s.restartDue ∧
    (countOn p f s).freeCount = s.freeCount ∧ (countOn p f s).pending = s.pending := by
  cases p <;> simp [countOn, State.withPort]

/-- The notice of a sound frame touches the service idle count alone (R174). -/
@[simp] theorem noteSound_frame (p : PortId) (s : State) :
    (noteSound p s).resetLow = s.resetLow ∧ (noteSound p s).mode = s.mode ∧ (noteSound p s).tripOut = s.tripOut ∧
    (noteSound p s).stamp = s.stamp ∧ (noteSound p s).portL1 = s.portL1 ∧ (noteSound p s).portL2 = s.portL2 ∧
    (noteSound p s).portL3 = s.portL3 ∧ (noteSound p s).heldMeasure = s.heldMeasure ∧
    (noteSound p s).intake = s.intake ∧ (noteSound p s).engine = s.engine ∧ (noteSound p s).traction = s.traction ∧
    (noteSound p s).thermal = s.thermal ∧ (noteSound p s).planner = s.planner ∧ (noteSound p s).trips = s.trips ∧
    (noteSound p s).present = s.present ∧ (noteSound p s).validation = s.validation ∧
    (noteSound p s).restartDue = s.restartDue ∧ (noteSound p s).freeCount = s.freeCount ∧
    (noteSound p s).pending = s.pending ∧ (noteSound p s).store.nv = s.store.nv ∧
    (noteSound p s).store.image = s.store.image ∧ (noteSound p s).store.accessLevel = s.store.accessLevel ∧
    (noteSound p s).store.failures = s.store.failures ∧ (noteSound p s).store.lockout = s.store.lockout ∧
    (noteSound p s).store.stage = s.store.stage ∧ (noteSound p s).store.programmer = s.store.programmer ∧
    (noteSound p s).store.suspect = s.store.suspect ∧ (noteSound p s).store.writeFail = s.store.writeFail := by
  cases p <;> simp [noteSound]

/-! ### The GRANT RECORD between completions (R60, R61) -/

/-- `setTorque` touches the granted torques alone. -/
@[simp] theorem setTorque_frame (t : Both Int) (s : State) :
    (setTorque t s).resetLow = s.resetLow ∧ (setTorque t s).mode = s.mode ∧ (setTorque t s).tripOut = s.tripOut ∧
    (setTorque t s).stamp = s.stamp ∧ (setTorque t s).portL1 = s.portL1 ∧ (setTorque t s).portL2 = s.portL2 ∧
    (setTorque t s).portL3 = s.portL3 ∧ (setTorque t s).heldMeasure = s.heldMeasure ∧
    (setTorque t s).intake = s.intake ∧ (setTorque t s).store = s.store ∧ (setTorque t s).traction = s.traction ∧
    (setTorque t s).thermal = s.thermal ∧ (setTorque t s).planner = s.planner ∧ (setTorque t s).trips = s.trips ∧
    (setTorque t s).present = s.present ∧ (setTorque t s).validation = s.validation ∧
    (setTorque t s).restartDue = s.restartDue ∧ (setTorque t s).freeCount = s.freeCount ∧
    (setTorque t s).pending = s.pending ∧ (setTorque t s).engine.grant.sequence = s.engine.grant.sequence ∧
    (setTorque t s).engine.grant.propelLimit = s.engine.grant.propelLimit ∧
    (setTorque t s).engine.grant.retardLimit = s.engine.grant.retardLimit ∧
    (setTorque t s).engine.grant.speedLimit = s.engine.grant.speedLimit ∧
    (setTorque t s).engine.grant.boost = s.engine.grant.boost ∧
    (setTorque t s).engine.grant.tractionReduced = s.engine.grant.tractionReduced ∧
    (setTorque t s).engine.grant.powerLimited = s.engine.grant.powerLimited ∧
    (setTorque t s).engine.grant.speedLimited = s.engine.grant.speedLimited ∧
    (setTorque t s).engine.grant.regime = s.engine.grant.regime ∧
    (setTorque t s).engine.speedLimit = s.engine.speedLimit ∧ (setTorque t s).engine.source = s.engine.source ∧
    (setTorque t s).engine.retardFraction = s.engine.retardFraction ∧ (setTorque t s).engine.pass = s.engine.pass ∧
    (setTorque t s).engine.excess = s.engine.excess := by
  simp [setTorque]

/-- A class-D zeroing touches the granted torques alone (R60). -/
@[simp] theorem zeroTorque_frame (s : State) :
    (zeroTorque s).resetLow = s.resetLow ∧ (zeroTorque s).mode = s.mode ∧ (zeroTorque s).tripOut = s.tripOut ∧
    (zeroTorque s).stamp = s.stamp ∧ (zeroTorque s).portL1 = s.portL1 ∧ (zeroTorque s).portL2 = s.portL2 ∧
    (zeroTorque s).portL3 = s.portL3 ∧ (zeroTorque s).heldMeasure = s.heldMeasure ∧
    (zeroTorque s).intake = s.intake ∧ (zeroTorque s).store = s.store ∧ (zeroTorque s).traction = s.traction ∧
    (zeroTorque s).thermal = s.thermal ∧ (zeroTorque s).planner = s.planner ∧ (zeroTorque s).trips = s.trips ∧
    (zeroTorque s).present = s.present ∧ (zeroTorque s).validation = s.validation ∧
    (zeroTorque s).restartDue = s.restartDue ∧ (zeroTorque s).freeCount = s.freeCount ∧
    (zeroTorque s).pending = s.pending ∧ (zeroTorque s).engine.grant.sequence = s.engine.grant.sequence ∧
    (zeroTorque s).engine.grant.propelLimit = s.engine.grant.propelLimit ∧
    (zeroTorque s).engine.grant.retardLimit = s.engine.grant.retardLimit ∧
    (zeroTorque s).engine.grant.speedLimit = s.engine.grant.speedLimit ∧
    (zeroTorque s).engine.grant.boost = s.engine.grant.boost ∧
    (zeroTorque s).engine.grant.tractionReduced = s.engine.grant.tractionReduced ∧
    (zeroTorque s).engine.grant.powerLimited = s.engine.grant.powerLimited ∧
    (zeroTorque s).engine.grant.speedLimited = s.engine.grant.speedLimited ∧
    (zeroTorque s).engine.grant.regime = s.engine.grant.regime ∧
    (zeroTorque s).engine.speedLimit = s.engine.speedLimit ∧ (zeroTorque s).engine.source = s.engine.source ∧
    (zeroTorque s).engine.retardFraction = s.engine.retardFraction ∧ (zeroTorque s).engine.pass = s.engine.pass ∧
    (zeroTorque s).engine.excess = s.engine.excess := by
  simp [zeroTorque]

/-- A withdrawal touches the granted torques alone (R61). -/
@[simp] theorem withdrawPositive_frame (s : State) :
    (withdrawPositive s).resetLow = s.resetLow ∧ (withdrawPositive s).mode = s.mode ∧
    (withdrawPositive s).tripOut = s.tripOut ∧ (withdrawPositive s).stamp = s.stamp ∧
    (withdrawPositive s).portL1 = s.portL1 ∧ (withdrawPositive s).portL2 = s.portL2 ∧
    (withdrawPositive s).portL3 = s.portL3 ∧ (withdrawPositive s).heldMeasure = s.heldMeasure ∧
    (withdrawPositive s).intake = s.intake ∧ (withdrawPositive s).store = s.store ∧
    (withdrawPositive s).traction = s.traction ∧ (withdrawPositive s).thermal = s.thermal ∧
    (withdrawPositive s).planner = s.planner ∧ (withdrawPositive s).trips = s.trips ∧
    (withdrawPositive s).present = s.present ∧ (withdrawPositive s).validation = s.validation ∧
    (withdrawPositive s).restartDue = s.restartDue ∧ (withdrawPositive s).freeCount = s.freeCount ∧
    (withdrawPositive s).pending = s.pending ∧ (withdrawPositive s).engine.grant.sequence = s.engine.grant.sequence ∧
    (withdrawPositive s).engine.grant.propelLimit = s.engine.grant.propelLimit ∧
    (withdrawPositive s).engine.grant.retardLimit = s.engine.grant.retardLimit ∧
    (withdrawPositive s).engine.grant.speedLimit = s.engine.grant.speedLimit ∧
    (withdrawPositive s).engine.grant.boost = s.engine.grant.boost ∧
    (withdrawPositive s).engine.grant.tractionReduced = s.engine.grant.tractionReduced ∧
    (withdrawPositive s).engine.grant.powerLimited = s.engine.grant.powerLimited ∧
    (withdrawPositive s).engine.grant.speedLimited = s.engine.grant.speedLimited ∧
    (withdrawPositive s).engine.grant.regime = s.engine.grant.regime ∧
    (withdrawPositive s).engine.speedLimit = s.engine.speedLimit ∧
    (withdrawPositive s).engine.source = s.engine.source ∧
    (withdrawPositive s).engine.retardFraction = s.engine.retardFraction ∧
    (withdrawPositive s).engine.pass = s.engine.pass ∧ (withdrawPositive s).engine.excess = s.engine.excess := by
  simp [withdrawPositive]

/-! ### Trips (R137 to R139) -/

/-- `refreshLine` touches TRIP_OUT_N alone. -/
@[simp] theorem refreshLine_frame (s : State) :
    (refreshLine s).resetLow = s.resetLow ∧ (refreshLine s).mode = s.mode ∧ (refreshLine s).stamp = s.stamp ∧
    (refreshLine s).portL1 = s.portL1 ∧ (refreshLine s).portL2 = s.portL2 ∧ (refreshLine s).portL3 = s.portL3 ∧
    (refreshLine s).heldMeasure = s.heldMeasure ∧ (refreshLine s).intake = s.intake ∧
    (refreshLine s).store = s.store ∧ (refreshLine s).engine = s.engine ∧ (refreshLine s).traction = s.traction ∧
    (refreshLine s).thermal = s.thermal ∧ (refreshLine s).planner = s.planner ∧ (refreshLine s).trips = s.trips ∧
    (refreshLine s).present = s.present ∧ (refreshLine s).validation = s.validation ∧
    (refreshLine s).restartDue = s.restartDue ∧ (refreshLine s).freeCount = s.freeCount ∧
    (refreshLine s).pending = s.pending := by
  simp [refreshLine]

/-- Telling the engine of a latch touches the granted torques alone. -/
@[simp] theorem tellEngineOfLatch_frame (c : TripCode) (before : TripLevel) (s : State) :
    (tellEngineOfLatch c before s).resetLow = s.resetLow ∧ (tellEngineOfLatch c before s).mode = s.mode ∧
    (tellEngineOfLatch c before s).tripOut = s.tripOut ∧ (tellEngineOfLatch c before s).stamp = s.stamp ∧
    (tellEngineOfLatch c before s).portL1 = s.portL1 ∧ (tellEngineOfLatch c before s).portL2 = s.portL2 ∧
    (tellEngineOfLatch c before s).portL3 = s.portL3 ∧ (tellEngineOfLatch c before s).heldMeasure = s.heldMeasure ∧
    (tellEngineOfLatch c before s).intake = s.intake ∧ (tellEngineOfLatch c before s).store = s.store ∧
    (tellEngineOfLatch c before s).traction = s.traction ∧ (tellEngineOfLatch c before s).thermal = s.thermal ∧
    (tellEngineOfLatch c before s).planner = s.planner ∧ (tellEngineOfLatch c before s).trips = s.trips ∧
    (tellEngineOfLatch c before s).present = s.present ∧ (tellEngineOfLatch c before s).validation = s.validation ∧
    (tellEngineOfLatch c before s).restartDue = s.restartDue ∧
    (tellEngineOfLatch c before s).freeCount = s.freeCount ∧ (tellEngineOfLatch c before s).pending = s.pending ∧
    (tellEngineOfLatch c before s).engine.grant.sequence = s.engine.grant.sequence ∧
    (tellEngineOfLatch c before s).engine.grant.propelLimit = s.engine.grant.propelLimit ∧
    (tellEngineOfLatch c before s).engine.grant.retardLimit = s.engine.grant.retardLimit ∧
    (tellEngineOfLatch c before s).engine.grant.speedLimit = s.engine.grant.speedLimit ∧
    (tellEngineOfLatch c before s).engine.grant.boost = s.engine.grant.boost ∧
    (tellEngineOfLatch c before s).engine.grant.tractionReduced = s.engine.grant.tractionReduced ∧
    (tellEngineOfLatch c before s).engine.grant.powerLimited = s.engine.grant.powerLimited ∧
    (tellEngineOfLatch c before s).engine.grant.speedLimited = s.engine.grant.speedLimited ∧
    (tellEngineOfLatch c before s).engine.grant.regime = s.engine.grant.regime ∧
    (tellEngineOfLatch c before s).engine.speedLimit = s.engine.speedLimit ∧
    (tellEngineOfLatch c before s).engine.source = s.engine.source ∧
    (tellEngineOfLatch c before s).engine.retardFraction = s.engine.retardFraction ∧
    (tellEngineOfLatch c before s).engine.pass = s.engine.pass ∧
    (tellEngineOfLatch c before s).engine.excess = s.engine.excess := by
  unfold tellEngineOfLatch
  repeat' split
  all_goals simp

/-- A latch touches the trips, the granted torques and TRIP_OUT_N (R138). -/
@[simp] theorem latchTrip_frame (c : TripCode) (detail : Option Int) (s : State) :
    (latchTrip c detail s).resetLow = s.resetLow ∧ (latchTrip c detail s).mode = s.mode ∧
    (latchTrip c detail s).stamp = s.stamp ∧ (latchTrip c detail s).portL1 = s.portL1 ∧
    (latchTrip c detail s).portL2 = s.portL2 ∧ (latchTrip c detail s).portL3 = s.portL3 ∧
    (latchTrip c detail s).heldMeasure = s.heldMeasure ∧ (latchTrip c detail s).intake = s.intake ∧
    (latchTrip c detail s).store = s.store ∧ (latchTrip c detail s).traction = s.traction ∧
    (latchTrip c detail s).thermal = s.thermal ∧ (latchTrip c detail s).planner = s.planner ∧
    (latchTrip c detail s).present = s.present ∧ (latchTrip c detail s).validation = s.validation ∧
    (latchTrip c detail s).restartDue = s.restartDue ∧ (latchTrip c detail s).freeCount = s.freeCount ∧
    (latchTrip c detail s).pending = s.pending ∧
    (latchTrip c detail s).engine.grant.sequence = s.engine.grant.sequence ∧
    (latchTrip c detail s).engine.grant.propelLimit = s.engine.grant.propelLimit ∧
    (latchTrip c detail s).engine.grant.retardLimit = s.engine.grant.retardLimit ∧
    (latchTrip c detail s).engine.grant.speedLimit = s.engine.grant.speedLimit ∧
    (latchTrip c detail s).engine.grant.boost = s.engine.grant.boost ∧
    (latchTrip c detail s).engine.grant.tractionReduced = s.engine.grant.tractionReduced ∧
    (latchTrip c detail s).engine.grant.powerLimited = s.engine.grant.powerLimited ∧
    (latchTrip c detail s).engine.grant.speedLimited = s.engine.grant.speedLimited ∧
    (latchTrip c detail s).engine.grant.regime = s.engine.grant.regime ∧
    (latchTrip c detail s).engine.speedLimit = s.engine.speedLimit ∧
    (latchTrip c detail s).engine.source = s.engine.source ∧
    (latchTrip c detail s).engine.retardFraction = s.engine.retardFraction ∧
    (latchTrip c detail s).engine.pass = s.engine.pass ∧ (latchTrip c detail s).engine.excess = s.engine.excess := by
  simp [latchTrip]

/-- A merge touches the FAULT LIST alone (R139). -/
@[simp] theorem mergeTrip_frame (c : TripCode) (s : State) :
    (mergeTrip c s).resetLow = s.resetLow ∧ (mergeTrip c s).mode = s.mode ∧ (mergeTrip c s).tripOut = s.tripOut ∧
    (mergeTrip c s).stamp = s.stamp ∧ (mergeTrip c s).portL1 = s.portL1 ∧ (mergeTrip c s).portL2 = s.portL2 ∧
    (mergeTrip c s).portL3 = s.portL3 ∧ (mergeTrip c s).heldMeasure = s.heldMeasure ∧
    (mergeTrip c s).intake = s.intake ∧ (mergeTrip c s).store = s.store ∧ (mergeTrip c s).engine = s.engine ∧
    (mergeTrip c s).traction = s.traction ∧ (mergeTrip c s).thermal = s.thermal ∧
    (mergeTrip c s).planner = s.planner ∧ (mergeTrip c s).present = s.present ∧
    (mergeTrip c s).validation = s.validation ∧ (mergeTrip c s).restartDue = s.restartDue ∧
    (mergeTrip c s).freeCount = s.freeCount ∧ (mergeTrip c s).pending = s.pending ∧
    (mergeTrip c s).trips.latched = s.trips.latched ∧ (mergeTrip c s).trips.level = s.trips.level ∧
    (mergeTrip c s).trips.overflow = s.trips.overflow := by
  simp [mergeTrip]

/-- A raise touches the trips, the granted torques and TRIP_OUT_N (R138, R139). -/
@[simp] theorem raiseTrip_frame (c : TripCode) (detail : Option Int) (s : State) :
    (raiseTrip c detail s).resetLow = s.resetLow ∧ (raiseTrip c detail s).mode = s.mode ∧
    (raiseTrip c detail s).stamp = s.stamp ∧ (raiseTrip c detail s).portL1 = s.portL1 ∧
    (raiseTrip c detail s).portL2 = s.portL2 ∧ (raiseTrip c detail s).portL3 = s.portL3 ∧
    (raiseTrip c detail s).heldMeasure = s.heldMeasure ∧ (raiseTrip c detail s).intake = s.intake ∧
    (raiseTrip c detail s).store = s.store ∧ (raiseTrip c detail s).traction = s.traction ∧
    (raiseTrip c detail s).thermal = s.thermal ∧ (raiseTrip c detail s).planner = s.planner ∧
    (raiseTrip c detail s).present = s.present ∧ (raiseTrip c detail s).validation = s.validation ∧
    (raiseTrip c detail s).restartDue = s.restartDue ∧ (raiseTrip c detail s).freeCount = s.freeCount ∧
    (raiseTrip c detail s).pending = s.pending ∧
    (raiseTrip c detail s).engine.grant.sequence = s.engine.grant.sequence ∧
    (raiseTrip c detail s).engine.grant.propelLimit = s.engine.grant.propelLimit ∧
    (raiseTrip c detail s).engine.grant.retardLimit = s.engine.grant.retardLimit ∧
    (raiseTrip c detail s).engine.grant.speedLimit = s.engine.grant.speedLimit ∧
    (raiseTrip c detail s).engine.grant.boost = s.engine.grant.boost ∧
    (raiseTrip c detail s).engine.grant.tractionReduced = s.engine.grant.tractionReduced ∧
    (raiseTrip c detail s).engine.grant.powerLimited = s.engine.grant.powerLimited ∧
    (raiseTrip c detail s).engine.grant.speedLimited = s.engine.grant.speedLimited ∧
    (raiseTrip c detail s).engine.grant.regime = s.engine.grant.regime ∧
    (raiseTrip c detail s).engine.speedLimit = s.engine.speedLimit ∧
    (raiseTrip c detail s).engine.source = s.engine.source ∧
    (raiseTrip c detail s).engine.retardFraction = s.engine.retardFraction ∧
    (raiseTrip c detail s).engine.pass = s.engine.pass ∧ (raiseTrip c detail s).engine.excess = s.engine.excess := by
  unfold raiseTrip
  repeat' split
  all_goals simp

/-- `markPresent` touches the present marks alone. -/
@[simp] theorem markPresent_frame (c : TripCode) (b : Bool) (s : State) :
    (markPresent c b s).resetLow = s.resetLow ∧ (markPresent c b s).mode = s.mode ∧
    (markPresent c b s).tripOut = s.tripOut ∧ (markPresent c b s).stamp = s.stamp ∧
    (markPresent c b s).portL1 = s.portL1 ∧ (markPresent c b s).portL2 = s.portL2 ∧
    (markPresent c b s).portL3 = s.portL3 ∧ (markPresent c b s).heldMeasure = s.heldMeasure ∧
    (markPresent c b s).intake = s.intake ∧ (markPresent c b s).store = s.store ∧
    (markPresent c b s).engine = s.engine ∧ (markPresent c b s).traction = s.traction ∧
    (markPresent c b s).thermal = s.thermal ∧ (markPresent c b s).planner = s.planner ∧
    (markPresent c b s).trips = s.trips ∧ (markPresent c b s).validation = s.validation ∧
    (markPresent c b s).restartDue = s.restartDue ∧ (markPresent c b s).freeCount = s.freeCount ∧
    (markPresent c b s).pending = s.pending := by
  simp [markPresent]

/-- A judgement touches the present marks and what a raise touches (R134). -/
@[simp] theorem judgeCondition_frame (c : TripCode) (now : Bool) (detail : Option Int) (s : State) :
    (judgeCondition c now detail s).resetLow = s.resetLow ∧ (judgeCondition c now detail s).mode = s.mode ∧
    (judgeCondition c now detail s).stamp = s.stamp ∧ (judgeCondition c now detail s).portL1 = s.portL1 ∧
    (judgeCondition c now detail s).portL2 = s.portL2 ∧ (judgeCondition c now detail s).portL3 = s.portL3 ∧
    (judgeCondition c now detail s).heldMeasure = s.heldMeasure ∧ (judgeCondition c now detail s).intake = s.intake ∧
    (judgeCondition c now detail s).store = s.store ∧ (judgeCondition c now detail s).traction = s.traction ∧
    (judgeCondition c now detail s).thermal = s.thermal ∧ (judgeCondition c now detail s).planner = s.planner ∧
    (judgeCondition c now detail s).validation = s.validation ∧
    (judgeCondition c now detail s).restartDue = s.restartDue ∧
    (judgeCondition c now detail s).freeCount = s.freeCount ∧ (judgeCondition c now detail s).pending = s.pending ∧
    (judgeCondition c now detail s).engine.grant.sequence = s.engine.grant.sequence ∧
    (judgeCondition c now detail s).engine.grant.propelLimit = s.engine.grant.propelLimit ∧
    (judgeCondition c now detail s).engine.grant.retardLimit = s.engine.grant.retardLimit ∧
    (judgeCondition c now detail s).engine.grant.speedLimit = s.engine.grant.speedLimit ∧
    (judgeCondition c now detail s).engine.grant.boost = s.engine.grant.boost ∧
    (judgeCondition c now detail s).engine.grant.tractionReduced = s.engine.grant.tractionReduced ∧
    (judgeCondition c now detail s).engine.grant.powerLimited = s.engine.grant.powerLimited ∧
    (judgeCondition c now detail s).engine.grant.speedLimited = s.engine.grant.speedLimited ∧
    (judgeCondition c now detail s).engine.grant.regime = s.engine.grant.regime ∧
    (judgeCondition c now detail s).engine.speedLimit = s.engine.speedLimit ∧
    (judgeCondition c now detail s).engine.source = s.engine.source ∧
    (judgeCondition c now detail s).engine.retardFraction = s.engine.retardFraction ∧
    (judgeCondition c now detail s).engine.pass = s.engine.pass ∧
    (judgeCondition c now detail s).engine.excess = s.engine.excess := by
  unfold judgeCondition
  repeat' split
  all_goals simp

/-! ### Reserve, head limit, payload, swap, mode -/

/-- `formReserve` touches the steering reserve alone (R78). -/
@[simp] theorem formReserve_frame (s : State) :
    (formReserve s).resetLow = s.resetLow ∧ (formReserve s).mode = s.mode ∧ (formReserve s).tripOut = s.tripOut ∧
    (formReserve s).stamp = s.stamp ∧ (formReserve s).portL1 = s.portL1 ∧ (formReserve s).portL2 = s.portL2 ∧
    (formReserve s).portL3 = s.portL3 ∧ (formReserve s).heldMeasure = s.heldMeasure ∧
    (formReserve s).intake = s.intake ∧ (formReserve s).store = s.store ∧ (formReserve s).engine = s.engine ∧
    (formReserve s).thermal = s.thermal ∧ (formReserve s).planner = s.planner ∧ (formReserve s).trips = s.trips ∧
    (formReserve s).present = s.present ∧ (formReserve s).validation = s.validation ∧
    (formReserve s).restartDue = s.restartDue ∧ (formReserve s).freeCount = s.freeCount ∧
    (formReserve s).pending = s.pending ∧ (formReserve s).traction.tf = s.traction.tf ∧
    (formReserve s).traction.pressureCount = s.traction.pressureCount := by
  simp [formReserve]

/-- The planner's recompute touches the head limit alone (R124). -/
@[simp] theorem recomputeHead_frame (s : State) :
    (recomputeHead s).resetLow = s.resetLow ∧ (recomputeHead s).mode = s.mode ∧
    (recomputeHead s).tripOut = s.tripOut ∧ (recomputeHead s).stamp = s.stamp ∧ (recomputeHead s).portL1 = s.portL1 ∧
    (recomputeHead s).portL2 = s.portL2 ∧ (recomputeHead s).portL3 = s.portL3 ∧
    (recomputeHead s).heldMeasure = s.heldMeasure ∧ (recomputeHead s).intake = s.intake ∧
    (recomputeHead s).store = s.store ∧ (recomputeHead s).engine = s.engine ∧
    (recomputeHead s).traction = s.traction ∧ (recomputeHead s).thermal = s.thermal ∧
    (recomputeHead s).trips = s.trips ∧ (recomputeHead s).present = s.present ∧
    (recomputeHead s).validation = s.validation ∧ (recomputeHead s).restartDue = s.restartDue ∧
    (recomputeHead s).freeCount = s.freeCount ∧ (recomputeHead s).pending = s.pending ∧
    (recomputeHead s).planner.queue = s.planner.queue ∧ (recomputeHead s).planner.state = s.planner.state ∧
    (recomputeHead s).planner.progress = s.planner.progress ∧
    (recomputeHead s).planner.completed = s.planner.completed ∧
    (recomputeHead s).planner.abandoned = s.planner.abandoned ∧
    (recomputeHead s).planner.shortfall = s.planner.shortfall := by
  unfold recomputeHead
  repeat' split
  all_goals simp

/-- Latching a payload touches it, the head limit and the granted torques (R30, R31). -/
@[simp] theorem latchPayload_frame (payload : Nat) (s : State) :
    (latchPayload payload s).resetLow = s.resetLow ∧ (latchPayload payload s).mode = s.mode ∧
    (latchPayload payload s).tripOut = s.tripOut ∧ (latchPayload payload s).stamp = s.stamp ∧
    (latchPayload payload s).portL1 = s.portL1 ∧ (latchPayload payload s).portL2 = s.portL2 ∧
    (latchPayload payload s).portL3 = s.portL3 ∧ (latchPayload payload s).heldMeasure = s.heldMeasure ∧
    (latchPayload payload s).store = s.store ∧ (latchPayload payload s).traction = s.traction ∧
    (latchPayload payload s).thermal = s.thermal ∧ (latchPayload payload s).trips = s.trips ∧
    (latchPayload payload s).present = s.present ∧ (latchPayload payload s).validation = s.validation ∧
    (latchPayload payload s).restartDue = s.restartDue ∧ (latchPayload payload s).freeCount = s.freeCount ∧
    (latchPayload payload s).pending = s.pending ∧ (latchPayload payload s).intake.demand = s.intake.demand ∧
    (latchPayload payload s).intake.measurement = s.intake.measurement ∧
    (latchPayload payload s).intake.l1 = s.intake.l1 ∧ (latchPayload payload s).intake.l1Count = s.intake.l1Count ∧
    (latchPayload payload s).intake.l2 = s.intake.l2 ∧ (latchPayload payload s).intake.l2Count = s.intake.l2Count ∧
    (latchPayload payload s).intake.direction = s.intake.direction ∧
    (latchPayload payload s).intake.directionHeld = s.intake.directionHeld ∧
    (latchPayload payload s).intake.standstill = s.intake.standstill ∧
    (latchPayload payload s).intake.fallback = s.intake.fallback ∧
    (latchPayload payload s).intake.grace = s.intake.grace ∧
    (latchPayload payload s).planner.queue = s.planner.queue ∧
    (latchPayload payload s).planner.state = s.planner.state ∧
    (latchPayload payload s).planner.progress = s.planner.progress ∧
    (latchPayload payload s).planner.completed = s.planner.completed ∧
    (latchPayload payload s).planner.abandoned = s.planner.abandoned ∧
    (latchPayload payload s).planner.shortfall = s.planner.shortfall ∧
    (latchPayload payload s).engine.grant.sequence = s.engine.grant.sequence ∧
    (latchPayload payload s).engine.grant.propelLimit = s.engine.grant.propelLimit ∧
    (latchPayload payload s).engine.grant.retardLimit = s.engine.grant.retardLimit ∧
    (latchPayload payload s).engine.grant.speedLimit = s.engine.grant.speedLimit ∧
    (latchPayload payload s).engine.grant.boost = s.engine.grant.boost ∧
    (latchPayload payload s).engine.grant.tractionReduced = s.engine.grant.tractionReduced ∧
    (latchPayload payload s).engine.grant.powerLimited = s.engine.grant.powerLimited ∧
    (latchPayload payload s).engine.grant.speedLimited = s.engine.grant.speedLimited ∧
    (latchPayload payload s).engine.grant.regime = s.engine.grant.regime ∧
    (latchPayload payload s).engine.speedLimit = s.engine.speedLimit ∧
    (latchPayload payload s).engine.source = s.engine.source ∧
    (latchPayload payload s).engine.retardFraction = s.engine.retardFraction ∧
    (latchPayload payload s).engine.pass = s.engine.pass ∧
    (latchPayload payload s).engine.excess = s.engine.excess := by
  unfold latchPayload
  split
  · simp
  · dsimp only
    split <;> simp

/-- A swap touches image, programmer, buffer and steering reserve (R182, R183). -/
@[simp] theorem swapRow_frame (st : StagedRow) (s : State) :
    (swapRow st s).resetLow = s.resetLow ∧ (swapRow st s).mode = s.mode ∧ (swapRow st s).tripOut = s.tripOut ∧
    (swapRow st s).stamp = s.stamp ∧ (swapRow st s).portL1 = s.portL1 ∧ (swapRow st s).portL2 = s.portL2 ∧
    (swapRow st s).portL3 = s.portL3 ∧ (swapRow st s).heldMeasure = s.heldMeasure ∧
    (swapRow st s).intake = s.intake ∧ (swapRow st s).engine = s.engine ∧ (swapRow st s).thermal = s.thermal ∧
    (swapRow st s).planner = s.planner ∧ (swapRow st s).trips = s.trips ∧ (swapRow st s).present = s.present ∧
    (swapRow st s).validation = s.validation ∧ (swapRow st s).restartDue = s.restartDue ∧
    (swapRow st s).freeCount = s.freeCount ∧ (swapRow st s).pending = s.pending ∧
    (swapRow st s).store.nv = s.store.nv ∧ (swapRow st s).store.accessLevel = s.store.accessLevel ∧
    (swapRow st s).store.failures = s.store.failures ∧ (swapRow st s).store.lockout = s.store.lockout ∧
    (swapRow st s).store.idleCount = s.store.idleCount ∧ (swapRow st s).store.suspect = s.store.suspect ∧
    (swapRow st s).store.writeFail = s.store.writeFail ∧ (swapRow st s).traction.tf = s.traction.tf ∧
    (swapRow st s).traction.pressureCount = s.traction.pressureCount := by
  unfold swapRow
  dsimp only
  split <;> simp

/-- A swap where it is allowed touches image, programmer, buffer and steering reserve. -/
@[simp] theorem trySwap_frame (s : State) :
    (trySwap s).resetLow = s.resetLow ∧ (trySwap s).mode = s.mode ∧ (trySwap s).tripOut = s.tripOut ∧
    (trySwap s).stamp = s.stamp ∧ (trySwap s).portL1 = s.portL1 ∧ (trySwap s).portL2 = s.portL2 ∧
    (trySwap s).portL3 = s.portL3 ∧ (trySwap s).heldMeasure = s.heldMeasure ∧ (trySwap s).intake = s.intake ∧
    (trySwap s).engine = s.engine ∧ (trySwap s).thermal = s.thermal ∧ (trySwap s).planner = s.planner ∧
    (trySwap s).trips = s.trips ∧ (trySwap s).present = s.present ∧ (trySwap s).validation = s.validation ∧
    (trySwap s).restartDue = s.restartDue ∧ (trySwap s).freeCount = s.freeCount ∧ (trySwap s).pending = s.pending ∧
    (trySwap s).store.nv = s.store.nv ∧ (trySwap s).store.accessLevel = s.store.accessLevel ∧
    (trySwap s).store.failures = s.store.failures ∧ (trySwap s).store.lockout = s.store.lockout ∧
    (trySwap s).store.idleCount = s.store.idleCount ∧ (trySwap s).store.suspect = s.store.suspect ∧
    (trySwap s).store.writeFail = s.store.writeFail ∧ (trySwap s).traction.tf = s.traction.tf ∧
    (trySwap s).traction.pressureCount = s.traction.pressureCount := by
  unfold trySwap
  repeat' split
  all_goals simp

/-- A change of mode touches mode, TRIP_OUT_N, granted torques, and what a swap touches (R133). -/
@[simp] theorem changeMode_frame (m : Mode) (s : State) :
    (changeMode m s).resetLow = s.resetLow ∧ (changeMode m s).stamp = s.stamp ∧ (changeMode m s).portL1 = s.portL1 ∧
    (changeMode m s).portL2 = s.portL2 ∧ (changeMode m s).portL3 = s.portL3 ∧
    (changeMode m s).heldMeasure = s.heldMeasure ∧ (changeMode m s).intake = s.intake ∧
    (changeMode m s).thermal = s.thermal ∧ (changeMode m s).planner = s.planner ∧ (changeMode m s).trips = s.trips ∧
    (changeMode m s).present = s.present ∧ (changeMode m s).validation = s.validation ∧
    (changeMode m s).restartDue = s.restartDue ∧ (changeMode m s).freeCount = s.freeCount ∧
    (changeMode m s).pending = s.pending ∧ (changeMode m s).engine.grant.sequence = s.engine.grant.sequence ∧
    (changeMode m s).engine.grant.propelLimit = s.engine.grant.propelLimit ∧
    (changeMode m s).engine.grant.retardLimit = s.engine.grant.retardLimit ∧
    (changeMode m s).engine.grant.speedLimit = s.engine.grant.speedLimit ∧
    (changeMode m s).engine.grant.boost = s.engine.grant.boost ∧
    (changeMode m s).engine.grant.tractionReduced = s.engine.grant.tractionReduced ∧
    (changeMode m s).engine.grant.powerLimited = s.engine.grant.powerLimited ∧
    (changeMode m s).engine.grant.speedLimited = s.engine.grant.speedLimited ∧
    (changeMode m s).engine.grant.regime = s.engine.grant.regime ∧
    (changeMode m s).engine.speedLimit = s.engine.speedLimit ∧ (changeMode m s).engine.source = s.engine.source ∧
    (changeMode m s).engine.retardFraction = s.engine.retardFraction ∧ (changeMode m s).engine.pass = s.engine.pass ∧
    (changeMode m s).engine.excess = s.engine.excess ∧ (changeMode m s).store.nv = s.store.nv ∧
    (changeMode m s).store.accessLevel = s.store.accessLevel ∧ (changeMode m s).store.failures = s.store.failures ∧
    (changeMode m s).store.lockout = s.store.lockout ∧ (changeMode m s).store.idleCount = s.store.idleCount ∧
    (changeMode m s).store.suspect = s.store.suspect ∧ (changeMode m s).store.writeFail = s.store.writeFail ∧
    (changeMode m s).traction.tf = s.traction.tf ∧
    (changeMode m s).traction.pressureCount = s.traction.pressureCount := by
  unfold changeMode
  split
  · simp
  · dsimp only
    repeat' split
    all_goals simp

/-! ### The THERMAL MONITOR (file 05) -/

/-- Forming the grid touches grid and Gd, the head limit, and what a judgement touches (R91 to R93). -/
@[simp] theorem formGrid_frame (g : Grid) (s : State) :
    (formGrid g s).resetLow = s.resetLow ∧ (formGrid g s).mode = s.mode ∧ (formGrid g s).stamp = s.stamp ∧
    (formGrid g s).portL1 = s.portL1 ∧ (formGrid g s).portL2 = s.portL2 ∧ (formGrid g s).portL3 = s.portL3 ∧
    (formGrid g s).heldMeasure = s.heldMeasure ∧ (formGrid g s).intake = s.intake ∧ (formGrid g s).store = s.store ∧
    (formGrid g s).traction = s.traction ∧ (formGrid g s).validation = s.validation ∧
    (formGrid g s).restartDue = s.restartDue ∧ (formGrid g s).freeCount = s.freeCount ∧
    (formGrid g s).pending = s.pending ∧ (formGrid g s).engine.grant.sequence = s.engine.grant.sequence ∧
    (formGrid g s).engine.grant.propelLimit = s.engine.grant.propelLimit ∧
    (formGrid g s).engine.grant.retardLimit = s.engine.grant.retardLimit ∧
    (formGrid g s).engine.grant.speedLimit = s.engine.grant.speedLimit ∧
    (formGrid g s).engine.grant.boost = s.engine.grant.boost ∧
    (formGrid g s).engine.grant.tractionReduced = s.engine.grant.tractionReduced ∧
    (formGrid g s).engine.grant.powerLimited = s.engine.grant.powerLimited ∧
    (formGrid g s).engine.grant.speedLimited = s.engine.grant.speedLimited ∧
    (formGrid g s).engine.grant.regime = s.engine.grant.regime ∧
    (formGrid g s).engine.speedLimit = s.engine.speedLimit ∧ (formGrid g s).engine.source = s.engine.source ∧
    (formGrid g s).engine.retardFraction = s.engine.retardFraction ∧ (formGrid g s).engine.pass = s.engine.pass ∧
    (formGrid g s).engine.excess = s.engine.excess ∧ (formGrid g s).planner.queue = s.planner.queue ∧
    (formGrid g s).planner.state = s.planner.state ∧ (formGrid g s).planner.progress = s.planner.progress ∧
    (formGrid g s).planner.completed = s.planner.completed ∧ (formGrid g s).planner.abandoned = s.planner.abandoned ∧
    (formGrid g s).planner.shortfall = s.planner.shortfall ∧ (formGrid g s).thermal.motor = s.thermal.motor := by
  unfold formGrid
  dsimp only
  split <;> simp

/-- The grid side of a MEASURE. -/
@[simp] theorem gridAtMeasure_frame (m : MeasurementRecord) (s : State) :
    (gridAtMeasure m s).resetLow = s.resetLow ∧ (gridAtMeasure m s).mode = s.mode ∧
    (gridAtMeasure m s).stamp = s.stamp ∧ (gridAtMeasure m s).portL1 = s.portL1 ∧
    (gridAtMeasure m s).portL2 = s.portL2 ∧ (gridAtMeasure m s).portL3 = s.portL3 ∧
    (gridAtMeasure m s).heldMeasure = s.heldMeasure ∧ (gridAtMeasure m s).intake = s.intake ∧
    (gridAtMeasure m s).store = s.store ∧ (gridAtMeasure m s).traction = s.traction ∧
    (gridAtMeasure m s).validation = s.validation ∧ (gridAtMeasure m s).restartDue = s.restartDue ∧
    (gridAtMeasure m s).freeCount = s.freeCount ∧ (gridAtMeasure m s).pending = s.pending ∧
    (gridAtMeasure m s).engine.grant.sequence = s.engine.grant.sequence ∧
    (gridAtMeasure m s).engine.grant.propelLimit = s.engine.grant.propelLimit ∧
    (gridAtMeasure m s).engine.grant.retardLimit = s.engine.grant.retardLimit ∧
    (gridAtMeasure m s).engine.grant.speedLimit = s.engine.grant.speedLimit ∧
    (gridAtMeasure m s).engine.grant.boost = s.engine.grant.boost ∧
    (gridAtMeasure m s).engine.grant.tractionReduced = s.engine.grant.tractionReduced ∧
    (gridAtMeasure m s).engine.grant.powerLimited = s.engine.grant.powerLimited ∧
    (gridAtMeasure m s).engine.grant.speedLimited = s.engine.grant.speedLimited ∧
    (gridAtMeasure m s).engine.grant.regime = s.engine.grant.regime ∧
    (gridAtMeasure m s).engine.speedLimit = s.engine.speedLimit ∧
    (gridAtMeasure m s).engine.source = s.engine.source ∧
    (gridAtMeasure m s).engine.retardFraction = s.engine.retardFraction ∧
    (gridAtMeasure m s).engine.pass = s.engine.pass ∧ (gridAtMeasure m s).engine.excess = s.engine.excess ∧
    (gridAtMeasure m s).planner.queue = s.planner.queue ∧ (gridAtMeasure m s).planner.state = s.planner.state ∧
    (gridAtMeasure m s).planner.progress = s.planner.progress ∧
    (gridAtMeasure m s).planner.completed = s.planner.completed ∧
    (gridAtMeasure m s).planner.abandoned = s.planner.abandoned ∧
    (gridAtMeasure m s).planner.shortfall = s.planner.shortfall ∧
    (gridAtMeasure m s).thermal.motor = s.thermal.motor := by
  unfold gridAtMeasure
  repeat' split
  all_goals simp

/-- The grid side of an expiry. -/
@[simp] theorem gridAtExpiry_frame (s : State) :
    (gridAtExpiry s).resetLow = s.resetLow ∧ (gridAtExpiry s).mode = s.mode ∧ (gridAtExpiry s).stamp = s.stamp ∧
    (gridAtExpiry s).portL1 = s.portL1 ∧ (gridAtExpiry s).portL2 = s.portL2 ∧ (gridAtExpiry s).portL3 = s.portL3 ∧
    (gridAtExpiry s).heldMeasure = s.heldMeasure ∧ (gridAtExpiry s).intake = s.intake ∧
    (gridAtExpiry s).store = s.store ∧ (gridAtExpiry s).traction = s.traction ∧
    (gridAtExpiry s).validation = s.validation ∧ (gridAtExpiry s).restartDue = s.restartDue ∧
    (gridAtExpiry s).freeCount = s.freeCount ∧ (gridAtExpiry s).pending = s.pending ∧
    (gridAtExpiry s).engine.grant.sequence = s.engine.grant.sequence ∧
    (gridAtExpiry s).engine.grant.propelLimit = s.engine.grant.propelLimit ∧
    (gridAtExpiry s).engine.grant.retardLimit = s.engine.grant.retardLimit ∧
    (gridAtExpiry s).engine.grant.speedLimit = s.engine.grant.speedLimit ∧
    (gridAtExpiry s).engine.grant.boost = s.engine.grant.boost ∧
    (gridAtExpiry s).engine.grant.tractionReduced = s.engine.grant.tractionReduced ∧
    (gridAtExpiry s).engine.grant.powerLimited = s.engine.grant.powerLimited ∧
    (gridAtExpiry s).engine.grant.speedLimited = s.engine.grant.speedLimited ∧
    (gridAtExpiry s).engine.grant.regime = s.engine.grant.regime ∧
    (gridAtExpiry s).engine.speedLimit = s.engine.speedLimit ∧ (gridAtExpiry s).engine.source = s.engine.source ∧
    (gridAtExpiry s).engine.retardFraction = s.engine.retardFraction ∧ (gridAtExpiry s).engine.pass = s.engine.pass ∧
    (gridAtExpiry s).engine.excess = s.engine.excess ∧ (gridAtExpiry s).planner.queue = s.planner.queue ∧
    (gridAtExpiry s).planner.state = s.planner.state ∧ (gridAtExpiry s).planner.progress = s.planner.progress ∧
    (gridAtExpiry s).planner.completed = s.planner.completed ∧
    (gridAtExpiry s).planner.abandoned = s.planner.abandoned ∧
    (gridAtExpiry s).planner.shortfall = s.planner.shortfall ∧ (gridAtExpiry s).thermal.motor = s.thermal.motor := by
  unfold gridAtExpiry
  repeat' split
  all_goals simp

/-- `onMotor` touches one motor alone. -/
@[simp] theorem onMotor_frame (w : Wheel) (f : Motor → Motor) (s : State) :
    (onMotor w f s).resetLow = s.resetLow ∧ (onMotor w f s).mode = s.mode ∧ (onMotor w f s).tripOut = s.tripOut ∧
    (onMotor w f s).stamp = s.stamp ∧ (onMotor w f s).portL1 = s.portL1 ∧ (onMotor w f s).portL2 = s.portL2 ∧
    (onMotor w f s).portL3 = s.portL3 ∧ (onMotor w f s).heldMeasure = s.heldMeasure ∧
    (onMotor w f s).intake = s.intake ∧ (onMotor w f s).store = s.store ∧ (onMotor w f s).engine = s.engine ∧
    (onMotor w f s).traction = s.traction ∧ (onMotor w f s).planner = s.planner ∧ (onMotor w f s).trips = s.trips ∧
    (onMotor w f s).present = s.present ∧ (onMotor w f s).validation = s.validation ∧
    (onMotor w f s).restartDue = s.restartDue ∧ (onMotor w f s).freeCount = s.freeCount ∧
    (onMotor w f s).pending = s.pending ∧ (onMotor w f s).thermal.grid = s.thermal.grid ∧
    (onMotor w f s).thermal.gd = s.thermal.gd := by
  simp [onMotor]

/-- Judging MOTOR_OVERTEMP touches what a judgement touches (R99). -/
@[simp] theorem judgeMotor_frame (w : Wheel) (m : MeasurementRecord) (s : State) :
    (judgeMotor w m s).resetLow = s.resetLow ∧ (judgeMotor w m s).mode = s.mode ∧
    (judgeMotor w m s).stamp = s.stamp ∧ (judgeMotor w m s).portL1 = s.portL1 ∧
    (judgeMotor w m s).portL2 = s.portL2 ∧ (judgeMotor w m s).portL3 = s.portL3 ∧
    (judgeMotor w m s).heldMeasure = s.heldMeasure ∧ (judgeMotor w m s).intake = s.intake ∧
    (judgeMotor w m s).store = s.store ∧ (judgeMotor w m s).traction = s.traction ∧
    (judgeMotor w m s).thermal = s.thermal ∧ (judgeMotor w m s).planner = s.planner ∧
    (judgeMotor w m s).validation = s.validation ∧ (judgeMotor w m s).restartDue = s.restartDue ∧
    (judgeMotor w m s).freeCount = s.freeCount ∧ (judgeMotor w m s).pending = s.pending ∧
    (judgeMotor w m s).engine.grant.sequence = s.engine.grant.sequence ∧
    (judgeMotor w m s).engine.grant.propelLimit = s.engine.grant.propelLimit ∧
    (judgeMotor w m s).engine.grant.retardLimit = s.engine.grant.retardLimit ∧
    (judgeMotor w m s).engine.grant.speedLimit = s.engine.grant.speedLimit ∧
    (judgeMotor w m s).engine.grant.boost = s.engine.grant.boost ∧
    (judgeMotor w m s).engine.grant.tractionReduced = s.engine.grant.tractionReduced ∧
    (judgeMotor w m s).engine.grant.powerLimited = s.engine.grant.powerLimited ∧
    (judgeMotor w m s).engine.grant.speedLimited = s.engine.grant.speedLimited ∧
    (judgeMotor w m s).engine.grant.regime = s.engine.grant.regime ∧
    (judgeMotor w m s).engine.speedLimit = s.engine.speedLimit ∧ (judgeMotor w m s).engine.source = s.engine.source ∧
    (judgeMotor w m s).engine.retardFraction = s.engine.retardFraction ∧
    (judgeMotor w m s).engine.pass = s.engine.pass ∧ (judgeMotor w m s).engine.excess = s.engine.excess := by
  unfold judgeMotor
  repeat' split
  all_goals simp

/-- One wheel of a MEASURE. -/
@[simp] theorem wheelAtMeasure_frame (w : Wheel) (m : MeasurementRecord) (s : State) :
    (wheelAtMeasure w m s).resetLow = s.resetLow ∧ (wheelAtMeasure w m s).mode = s.mode ∧
    (wheelAtMeasure w m s).stamp = s.stamp ∧ (wheelAtMeasure w m s).portL1 = s.portL1 ∧
    (wheelAtMeasure w m s).portL2 = s.portL2 ∧ (wheelAtMeasure w m s).portL3 = s.portL3 ∧
    (wheelAtMeasure w m s).heldMeasure = s.heldMeasure ∧ (wheelAtMeasure w m s).intake = s.intake ∧
    (wheelAtMeasure w m s).store = s.store ∧ (wheelAtMeasure w m s).traction = s.traction ∧
    (wheelAtMeasure w m s).planner = s.planner ∧ (wheelAtMeasure w m s).validation = s.validation ∧
    (wheelAtMeasure w m s).restartDue = s.restartDue ∧ (wheelAtMeasure w m s).freeCount = s.freeCount ∧
    (wheelAtMeasure w m s).pending = s.pending ∧
    (wheelAtMeasure w m s).engine.grant.sequence = s.engine.grant.sequence ∧
    (wheelAtMeasure w m s).engine.grant.propelLimit = s.engine.grant.propelLimit ∧
    (wheelAtMeasure w m s).engine.grant.retardLimit = s.engine.grant.retardLimit ∧
    (wheelAtMeasure w m s).engine.grant.speedLimit = s.engine.grant.speedLimit ∧
    (wheelAtMeasure w m s).engine.grant.boost = s.engine.grant.boost ∧
    (wheelAtMeasure w m s).engine.grant.tractionReduced = s.engine.grant.tractionReduced ∧
    (wheelAtMeasure w m s).engine.grant.powerLimited = s.engine.grant.powerLimited ∧
    (wheelAtMeasure w m s).engine.grant.speedLimited = s.engine.grant.speedLimited ∧
    (wheelAtMeasure w m s).engine.grant.regime = s.engine.grant.regime ∧
    (wheelAtMeasure w m s).engine.speedLimit = s.engine.speedLimit ∧
    (wheelAtMeasure w m s).engine.source = s.engine.source ∧
    (wheelAtMeasure w m s).engine.retardFraction = s.engine.retardFraction ∧
    (wheelAtMeasure w m s).engine.pass = s.engine.pass ∧ (wheelAtMeasure w m s).engine.excess = s.engine.excess ∧
    (wheelAtMeasure w m s).thermal.grid = s.thermal.grid ∧ (wheelAtMeasure w m s).thermal.gd = s.thermal.gd := by
  simp [wheelAtMeasure]

/-- The THERMAL MONITOR at a MEASURE (R107). -/
@[simp] theorem thermalAtMeasure_frame (m : MeasurementRecord) (s : State) :
    (thermalAtMeasure m s).resetLow = s.resetLow ∧ (thermalAtMeasure m s).mode = s.mode ∧
    (thermalAtMeasure m s).stamp = s.stamp ∧ (thermalAtMeasure m s).portL1 = s.portL1 ∧
    (thermalAtMeasure m s).portL2 = s.portL2 ∧ (thermalAtMeasure m s).portL3 = s.portL3 ∧
    (thermalAtMeasure m s).heldMeasure = s.heldMeasure ∧ (thermalAtMeasure m s).intake = s.intake ∧
    (thermalAtMeasure m s).store = s.store ∧ (thermalAtMeasure m s).traction = s.traction ∧
    (thermalAtMeasure m s).validation = s.validation ∧ (thermalAtMeasure m s).restartDue = s.restartDue ∧
    (thermalAtMeasure m s).freeCount = s.freeCount ∧ (thermalAtMeasure m s).pending = s.pending ∧
    (thermalAtMeasure m s).engine.grant.sequence = s.engine.grant.sequence ∧
    (thermalAtMeasure m s).engine.grant.propelLimit = s.engine.grant.propelLimit ∧
    (thermalAtMeasure m s).engine.grant.retardLimit = s.engine.grant.retardLimit ∧
    (thermalAtMeasure m s).engine.grant.speedLimit = s.engine.grant.speedLimit ∧
    (thermalAtMeasure m s).engine.grant.boost = s.engine.grant.boost ∧
    (thermalAtMeasure m s).engine.grant.tractionReduced = s.engine.grant.tractionReduced ∧
    (thermalAtMeasure m s).engine.grant.powerLimited = s.engine.grant.powerLimited ∧
    (thermalAtMeasure m s).engine.grant.speedLimited = s.engine.grant.speedLimited ∧
    (thermalAtMeasure m s).engine.grant.regime = s.engine.grant.regime ∧
    (thermalAtMeasure m s).engine.speedLimit = s.engine.speedLimit ∧
    (thermalAtMeasure m s).engine.source = s.engine.source ∧
    (thermalAtMeasure m s).engine.retardFraction = s.engine.retardFraction ∧
    (thermalAtMeasure m s).engine.pass = s.engine.pass ∧ (thermalAtMeasure m s).engine.excess = s.engine.excess ∧
    (thermalAtMeasure m s).planner.queue = s.planner.queue ∧ (thermalAtMeasure m s).planner.state = s.planner.state ∧
    (thermalAtMeasure m s).planner.progress = s.planner.progress ∧
    (thermalAtMeasure m s).planner.completed = s.planner.completed ∧
    (thermalAtMeasure m s).planner.abandoned = s.planner.abandoned ∧
    (thermalAtMeasure m s).planner.shortfall = s.planner.shortfall := by
  simp [thermalAtMeasure]

/-- The THERMAL MONITOR at an expiry (R107). -/
@[simp] theorem thermalAtExpiry_frame (s : State) :
    (thermalAtExpiry s).resetLow = s.resetLow ∧ (thermalAtExpiry s).mode = s.mode ∧
    (thermalAtExpiry s).stamp = s.stamp ∧ (thermalAtExpiry s).portL1 = s.portL1 ∧
    (thermalAtExpiry s).portL2 = s.portL2 ∧ (thermalAtExpiry s).portL3 = s.portL3 ∧
    (thermalAtExpiry s).heldMeasure = s.heldMeasure ∧ (thermalAtExpiry s).intake = s.intake ∧
    (thermalAtExpiry s).store = s.store ∧ (thermalAtExpiry s).traction = s.traction ∧
    (thermalAtExpiry s).validation = s.validation ∧ (thermalAtExpiry s).restartDue = s.restartDue ∧
    (thermalAtExpiry s).freeCount = s.freeCount ∧ (thermalAtExpiry s).pending = s.pending ∧
    (thermalAtExpiry s).engine.grant.sequence = s.engine.grant.sequence ∧
    (thermalAtExpiry s).engine.grant.propelLimit = s.engine.grant.propelLimit ∧
    (thermalAtExpiry s).engine.grant.retardLimit = s.engine.grant.retardLimit ∧
    (thermalAtExpiry s).engine.grant.speedLimit = s.engine.grant.speedLimit ∧
    (thermalAtExpiry s).engine.grant.boost = s.engine.grant.boost ∧
    (thermalAtExpiry s).engine.grant.tractionReduced = s.engine.grant.tractionReduced ∧
    (thermalAtExpiry s).engine.grant.powerLimited = s.engine.grant.powerLimited ∧
    (thermalAtExpiry s).engine.grant.speedLimited = s.engine.grant.speedLimited ∧
    (thermalAtExpiry s).engine.grant.regime = s.engine.grant.regime ∧
    (thermalAtExpiry s).engine.speedLimit = s.engine.speedLimit ∧
    (thermalAtExpiry s).engine.source = s.engine.source ∧
    (thermalAtExpiry s).engine.retardFraction = s.engine.retardFraction ∧
    (thermalAtExpiry s).engine.pass = s.engine.pass ∧ (thermalAtExpiry s).engine.excess = s.engine.excess ∧
    (thermalAtExpiry s).planner.queue = s.planner.queue ∧ (thermalAtExpiry s).planner.state = s.planner.state ∧
    (thermalAtExpiry s).planner.progress = s.planner.progress ∧
    (thermalAtExpiry s).planner.completed = s.planner.completed ∧
    (thermalAtExpiry s).planner.abandoned = s.planner.abandoned ∧
    (thermalAtExpiry s).planner.shortfall = s.planner.shortfall := by
  simp [thermalAtExpiry]

/-- A boost request touches one BOOST TIMER alone (R101). -/
@[simp] theorem requestBoost_frame (w : Wheel) (s : State) :
    (requestBoost w s).resetLow = s.resetLow ∧ (requestBoost w s).mode = s.mode ∧
    (requestBoost w s).tripOut = s.tripOut ∧ (requestBoost w s).stamp = s.stamp ∧
    (requestBoost w s).portL1 = s.portL1 ∧ (requestBoost w s).portL2 = s.portL2 ∧
    (requestBoost w s).portL3 = s.portL3 ∧ (requestBoost w s).heldMeasure = s.heldMeasure ∧
    (requestBoost w s).intake = s.intake ∧ (requestBoost w s).store = s.store ∧
    (requestBoost w s).engine = s.engine ∧ (requestBoost w s).traction = s.traction ∧
    (requestBoost w s).planner = s.planner ∧ (requestBoost w s).trips = s.trips ∧
    (requestBoost w s).present = s.present ∧ (requestBoost w s).validation = s.validation ∧
    (requestBoost w s).restartDue = s.restartDue ∧ (requestBoost w s).freeCount = s.freeCount ∧
    (requestBoost w s).pending = s.pending ∧ (requestBoost w s).thermal.grid = s.thermal.grid ∧
    (requestBoost w s).thermal.gd = s.thermal.gd := by
  unfold requestBoost
  repeat' split
  all_goals simp

/-! ### The DESCENT PLANNER (file 06) -/

/-- The progress of an expiry (R118). -/
@[simp] theorem addProgress_frame (s : State) :
    (addProgress s).resetLow = s.resetLow ∧ (addProgress s).mode = s.mode ∧ (addProgress s).tripOut = s.tripOut ∧
    (addProgress s).stamp = s.stamp ∧ (addProgress s).portL1 = s.portL1 ∧ (addProgress s).portL2 = s.portL2 ∧
    (addProgress s).portL3 = s.portL3 ∧ (addProgress s).heldMeasure = s.heldMeasure ∧
    (addProgress s).intake = s.intake ∧ (addProgress s).store = s.store ∧ (addProgress s).engine = s.engine ∧
    (addProgress s).traction = s.traction ∧ (addProgress s).thermal = s.thermal ∧ (addProgress s).trips = s.trips ∧
    (addProgress s).present = s.present ∧ (addProgress s).validation = s.validation ∧
    (addProgress s).restartDue = s.restartDue ∧ (addProgress s).freeCount = s.freeCount ∧
    (addProgress s).pending = s.pending ∧ (addProgress s).planner.queue = s.planner.queue ∧
    (addProgress s).planner.state = s.planner.state ∧ (addProgress s).planner.head = s.planner.head ∧
    (addProgress s).planner.completed = s.planner.completed ∧
    (addProgress s).planner.abandoned = s.planner.abandoned ∧
    (addProgress s).planner.shortfall = s.planner.shortfall := by
  unfold addProgress
  repeat' split
  all_goals simp

/-- The advance touches queue, state, progress, head and completed count (R119). -/
@[simp] theorem advancePlan_frame (s : State) :
    (advancePlan s).resetLow = s.resetLow ∧ (advancePlan s).mode = s.mode ∧ (advancePlan s).tripOut = s.tripOut ∧
    (advancePlan s).stamp = s.stamp ∧ (advancePlan s).portL1 = s.portL1 ∧ (advancePlan s).portL2 = s.portL2 ∧
    (advancePlan s).portL3 = s.portL3 ∧ (advancePlan s).heldMeasure = s.heldMeasure ∧
    (advancePlan s).intake = s.intake ∧ (advancePlan s).store = s.store ∧ (advancePlan s).engine = s.engine ∧
    (advancePlan s).traction = s.traction ∧ (advancePlan s).thermal = s.thermal ∧ (advancePlan s).trips = s.trips ∧
    (advancePlan s).present = s.present ∧ (advancePlan s).validation = s.validation ∧
    (advancePlan s).restartDue = s.restartDue ∧ (advancePlan s).freeCount = s.freeCount ∧
    (advancePlan s).pending = s.pending ∧ (advancePlan s).planner.abandoned = s.planner.abandoned ∧
    (advancePlan s).planner.shortfall = s.planner.shortfall := by
  unfold advancePlan
  repeat' split
  all_goals simp [clearedPlan]

/-- Travelling the plan. -/
@[simp] theorem travelPlan_frame (s : State) :
    (travelPlan s).resetLow = s.resetLow ∧ (travelPlan s).mode = s.mode ∧ (travelPlan s).tripOut = s.tripOut ∧
    (travelPlan s).stamp = s.stamp ∧ (travelPlan s).portL1 = s.portL1 ∧ (travelPlan s).portL2 = s.portL2 ∧
    (travelPlan s).portL3 = s.portL3 ∧ (travelPlan s).heldMeasure = s.heldMeasure ∧
    (travelPlan s).intake = s.intake ∧ (travelPlan s).store = s.store ∧ (travelPlan s).engine = s.engine ∧
    (travelPlan s).traction = s.traction ∧ (travelPlan s).thermal = s.thermal ∧ (travelPlan s).trips = s.trips ∧
    (travelPlan s).present = s.present ∧ (travelPlan s).validation = s.validation ∧
    (travelPlan s).restartDue = s.restartDue ∧ (travelPlan s).freeCount = s.freeCount ∧
    (travelPlan s).pending = s.pending ∧ (travelPlan s).planner.abandoned = s.planner.abandoned ∧
    (travelPlan s).planner.shortfall = s.planner.shortfall := by
  simp [travelPlan]

/-- The planner handed a held direction (R120). -/
@[simp] theorem planDirection_frame (d : Direction) (s : State) :
    (planDirection d s).resetLow = s.resetLow ∧ (planDirection d s).mode = s.mode ∧
    (planDirection d s).tripOut = s.tripOut ∧ (planDirection d s).stamp = s.stamp ∧
    (planDirection d s).portL1 = s.portL1 ∧ (planDirection d s).portL2 = s.portL2 ∧
    (planDirection d s).portL3 = s.portL3 ∧ (planDirection d s).heldMeasure = s.heldMeasure ∧
    (planDirection d s).intake = s.intake ∧ (planDirection d s).store = s.store ∧
    (planDirection d s).engine = s.engine ∧ (planDirection d s).traction = s.traction ∧
    (planDirection d s).thermal = s.thermal ∧ (planDirection d s).trips = s.trips ∧
    (planDirection d s).present = s.present ∧ (planDirection d s).validation = s.validation ∧
    (planDirection d s).restartDue = s.restartDue ∧ (planDirection d s).freeCount = s.freeCount ∧
    (planDirection d s).pending = s.pending ∧ (planDirection d s).planner.completed = s.planner.completed ∧
    (planDirection d s).planner.shortfall = s.planner.shortfall := by
  unfold planDirection
  split <;> simp [clearedPlan]

/-- Judging OVERSPEED (R125). -/
@[simp] theorem judgeOverspeed_frame (m : MeasurementRecord) (s : State) :
    (judgeOverspeed m s).resetLow = s.resetLow ∧ (judgeOverspeed m s).mode = s.mode ∧
    (judgeOverspeed m s).stamp = s.stamp ∧ (judgeOverspeed m s).portL1 = s.portL1 ∧
    (judgeOverspeed m s).portL2 = s.portL2 ∧ (judgeOverspeed m s).portL3 = s.portL3 ∧
    (judgeOverspeed m s).heldMeasure = s.heldMeasure ∧ (judgeOverspeed m s).intake = s.intake ∧
    (judgeOverspeed m s).store = s.store ∧ (judgeOverspeed m s).traction = s.traction ∧
    (judgeOverspeed m s).thermal = s.thermal ∧ (judgeOverspeed m s).planner = s.planner ∧
    (judgeOverspeed m s).validation = s.validation ∧ (judgeOverspeed m s).restartDue = s.restartDue ∧
    (judgeOverspeed m s).freeCount = s.freeCount ∧ (judgeOverspeed m s).pending = s.pending ∧
    (judgeOverspeed m s).engine.grant.sequence = s.engine.grant.sequence ∧
    (judgeOverspeed m s).engine.grant.propelLimit = s.engine.grant.propelLimit ∧
    (judgeOverspeed m s).engine.grant.retardLimit = s.engine.grant.retardLimit ∧
    (judgeOverspeed m s).engine.grant.speedLimit = s.engine.grant.speedLimit ∧
    (judgeOverspeed m s).engine.grant.boost = s.engine.grant.boost ∧
    (judgeOverspeed m s).engine.grant.tractionReduced = s.engine.grant.tractionReduced ∧
    (judgeOverspeed m s).engine.grant.powerLimited = s.engine.grant.powerLimited ∧
    (judgeOverspeed m s).engine.grant.speedLimited = s.engine.grant.speedLimited ∧
    (judgeOverspeed m s).engine.grant.regime = s.engine.grant.regime ∧
    (judgeOverspeed m s).engine.speedLimit = s.engine.speedLimit ∧
    (judgeOverspeed m s).engine.source = s.engine.source ∧
    (judgeOverspeed m s).engine.retardFraction = s.engine.retardFraction ∧
    (judgeOverspeed m s).engine.pass = s.engine.pass ∧ (judgeOverspeed m s).engine.excess = s.engine.excess := by
  simp [judgeOverspeed]

/-- The shortfall count at an expiry (R126, R127). -/
@[simp] theorem stepShortfall_frame (s : State) :
    (stepShortfall s).resetLow = s.resetLow ∧ (stepShortfall s).mode = s.mode ∧ (stepShortfall s).stamp = s.stamp ∧
    (stepShortfall s).portL1 = s.portL1 ∧ (stepShortfall s).portL2 = s.portL2 ∧ (stepShortfall s).portL3 = s.portL3 ∧
    (stepShortfall s).heldMeasure = s.heldMeasure ∧ (stepShortfall s).intake = s.intake ∧
    (stepShortfall s).store = s.store ∧ (stepShortfall s).traction = s.traction ∧
    (stepShortfall s).thermal = s.thermal ∧ (stepShortfall s).validation = s.validation ∧
    (stepShortfall s).restartDue = s.restartDue ∧ (stepShortfall s).freeCount = s.freeCount ∧
    (stepShortfall s).pending = s.pending ∧ (stepShortfall s).engine.grant.sequence = s.engine.grant.sequence ∧
    (stepShortfall s).engine.grant.propelLimit = s.engine.grant.propelLimit ∧
    (stepShortfall s).engine.grant.retardLimit = s.engine.grant.retardLimit ∧
    (stepShortfall s).engine.grant.speedLimit = s.engine.grant.speedLimit ∧
    (stepShortfall s).engine.grant.boost = s.engine.grant.boost ∧
    (stepShortfall s).engine.grant.tractionReduced = s.engine.grant.tractionReduced ∧
    (stepShortfall s).engine.grant.powerLimited = s.engine.grant.powerLimited ∧
    (stepShortfall s).engine.grant.speedLimited = s.engine.grant.speedLimited ∧
    (stepShortfall s).engine.grant.regime = s.engine.grant.regime ∧
    (stepShortfall s).engine.speedLimit = s.engine.speedLimit ∧ (stepShortfall s).engine.source = s.engine.source ∧
    (stepShortfall s).engine.retardFraction = s.engine.retardFraction ∧
    (stepShortfall s).engine.pass = s.engine.pass ∧ (stepShortfall s).engine.excess = s.engine.excess ∧
    (stepShortfall s).planner.queue = s.planner.queue ∧ (stepShortfall s).planner.state = s.planner.state ∧
    (stepShortfall s).planner.progress = s.planner.progress ∧ (stepShortfall s).planner.head = s.planner.head ∧
    (stepShortfall s).planner.completed = s.planner.completed ∧
    (stepShortfall s).planner.abandoned = s.planner.abandoned := by
  simp [stepShortfall]

/-- The DESCENT PLANNER at an expiry. -/
@[simp] theorem plannerAtExpiry_frame (s : State) :
    (plannerAtExpiry s).resetLow = s.resetLow ∧ (plannerAtExpiry s).mode = s.mode ∧
    (plannerAtExpiry s).stamp = s.stamp ∧ (plannerAtExpiry s).portL1 = s.portL1 ∧
    (plannerAtExpiry s).portL2 = s.portL2 ∧ (plannerAtExpiry s).portL3 = s.portL3 ∧
    (plannerAtExpiry s).heldMeasure = s.heldMeasure ∧ (plannerAtExpiry s).intake = s.intake ∧
    (plannerAtExpiry s).store = s.store ∧ (plannerAtExpiry s).traction = s.traction ∧
    (plannerAtExpiry s).thermal = s.thermal ∧ (plannerAtExpiry s).validation = s.validation ∧
    (plannerAtExpiry s).restartDue = s.restartDue ∧ (plannerAtExpiry s).freeCount = s.freeCount ∧
    (plannerAtExpiry s).pending = s.pending ∧ (plannerAtExpiry s).engine.grant.sequence = s.engine.grant.sequence ∧
    (plannerAtExpiry s).engine.grant.propelLimit = s.engine.grant.propelLimit ∧
    (plannerAtExpiry s).engine.grant.retardLimit = s.engine.grant.retardLimit ∧
    (plannerAtExpiry s).engine.grant.speedLimit = s.engine.grant.speedLimit ∧
    (plannerAtExpiry s).engine.grant.boost = s.engine.grant.boost ∧
    (plannerAtExpiry s).engine.grant.tractionReduced = s.engine.grant.tractionReduced ∧
    (plannerAtExpiry s).engine.grant.powerLimited = s.engine.grant.powerLimited ∧
    (plannerAtExpiry s).engine.grant.speedLimited = s.engine.grant.speedLimited ∧
    (plannerAtExpiry s).engine.grant.regime = s.engine.grant.regime ∧
    (plannerAtExpiry s).engine.speedLimit = s.engine.speedLimit ∧
    (plannerAtExpiry s).engine.source = s.engine.source ∧
    (plannerAtExpiry s).engine.retardFraction = s.engine.retardFraction ∧
    (plannerAtExpiry s).engine.pass = s.engine.pass ∧ (plannerAtExpiry s).engine.excess = s.engine.excess ∧
    (plannerAtExpiry s).planner.abandoned = s.planner.abandoned := by
  simp [plannerAtExpiry]

/-! ### The INTAKE UNIT and the modes (file 02, section 7.1) -/

/-- The INTAKE UNIT at a MEASURE (R22). -/
@[simp] theorem intakeAtMeasure_frame (m : MeasurementRecord) (s : State) :
    (intakeAtMeasure m s).resetLow = s.resetLow ∧ (intakeAtMeasure m s).mode = s.mode ∧
    (intakeAtMeasure m s).stamp = s.stamp ∧ (intakeAtMeasure m s).portL1 = s.portL1 ∧
    (intakeAtMeasure m s).portL2 = s.portL2 ∧ (intakeAtMeasure m s).portL3 = s.portL3 ∧
    (intakeAtMeasure m s).heldMeasure = s.heldMeasure ∧ (intakeAtMeasure m s).store = s.store ∧
    (intakeAtMeasure m s).traction = s.traction ∧ (intakeAtMeasure m s).thermal = s.thermal ∧
    (intakeAtMeasure m s).planner = s.planner ∧ (intakeAtMeasure m s).validation = s.validation ∧
    (intakeAtMeasure m s).restartDue = s.restartDue ∧ (intakeAtMeasure m s).freeCount = s.freeCount ∧
    (intakeAtMeasure m s).pending = s.pending ∧
    (intakeAtMeasure m s).engine.grant.sequence = s.engine.grant.sequence ∧
    (intakeAtMeasure m s).engine.grant.propelLimit = s.engine.grant.propelLimit ∧
    (intakeAtMeasure m s).engine.grant.retardLimit = s.engine.grant.retardLimit ∧
    (intakeAtMeasure m s).engine.grant.speedLimit = s.engine.grant.speedLimit ∧
    (intakeAtMeasure m s).engine.grant.boost = s.engine.grant.boost ∧
    (intakeAtMeasure m s).engine.grant.tractionReduced = s.engine.grant.tractionReduced ∧
    (intakeAtMeasure m s).engine.grant.powerLimited = s.engine.grant.powerLimited ∧
    (intakeAtMeasure m s).engine.grant.speedLimited = s.engine.grant.speedLimited ∧
    (intakeAtMeasure m s).engine.grant.regime = s.engine.grant.regime ∧
    (intakeAtMeasure m s).engine.speedLimit = s.engine.speedLimit ∧
    (intakeAtMeasure m s).engine.source = s.engine.source ∧
    (intakeAtMeasure m s).engine.retardFraction = s.engine.retardFraction ∧
    (intakeAtMeasure m s).engine.pass = s.engine.pass ∧ (intakeAtMeasure m s).engine.excess = s.engine.excess := by
  simp [intakeAtMeasure]

/-- Handing on a new held direction (R28). -/
@[simp] theorem handDirection_frame (d : Direction) (s : State) :
    (handDirection d s).resetLow = s.resetLow ∧ (handDirection d s).stamp = s.stamp ∧
    (handDirection d s).portL1 = s.portL1 ∧ (handDirection d s).portL2 = s.portL2 ∧
    (handDirection d s).portL3 = s.portL3 ∧ (handDirection d s).heldMeasure = s.heldMeasure ∧
    (handDirection d s).thermal = s.thermal ∧ (handDirection d s).trips = s.trips ∧
    (handDirection d s).present = s.present ∧ (handDirection d s).validation = s.validation ∧
    (handDirection d s).restartDue = s.restartDue ∧ (handDirection d s).freeCount = s.freeCount ∧
    (handDirection d s).pending = s.pending ∧ (handDirection d s).engine.grant.sequence = s.engine.grant.sequence ∧
    (handDirection d s).engine.grant.propelLimit = s.engine.grant.propelLimit ∧
    (handDirection d s).engine.grant.retardLimit = s.engine.grant.retardLimit ∧
    (handDirection d s).engine.grant.speedLimit = s.engine.grant.speedLimit ∧
    (handDirection d s).engine.grant.boost = s.engine.grant.boost ∧
    (handDirection d s).engine.grant.tractionReduced = s.engine.grant.tractionReduced ∧
    (handDirection d s).engine.grant.powerLimited = s.engine.grant.powerLimited ∧
    (handDirection d s).engine.grant.speedLimited = s.engine.grant.speedLimited ∧
    (handDirection d s).engine.grant.regime = s.engine.grant.regime ∧
    (handDirection d s).engine.speedLimit = s.engine.speedLimit ∧
    (handDirection d s).engine.source = s.engine.source ∧
    (handDirection d s).engine.retardFraction = s.engine.retardFraction ∧
    (handDirection d s).engine.pass = s.engine.pass ∧ (handDirection d s).engine.excess = s.engine.excess ∧
    (handDirection d s).intake.demand = s.intake.demand ∧
    (handDirection d s).intake.measurement = s.intake.measurement ∧ (handDirection d s).intake.l1 = s.intake.l1 ∧
    (handDirection d s).intake.l1Count = s.intake.l1Count ∧ (handDirection d s).intake.l2 = s.intake.l2 ∧
    (handDirection d s).intake.l2Count = s.intake.l2Count ∧
    (handDirection d s).intake.standstill = s.intake.standstill ∧
    (handDirection d s).intake.payload = s.intake.payload ∧ (handDirection d s).intake.fallback = s.intake.fallback ∧
    (handDirection d s).intake.grace = s.intake.grace ∧ (handDirection d s).store.nv = s.store.nv ∧
    (handDirection d s).store.accessLevel = s.store.accessLevel ∧
    (handDirection d s).store.failures = s.store.failures ∧ (handDirection d s).store.lockout = s.store.lockout ∧
    (handDirection d s).store.idleCount = s.store.idleCount ∧ (handDirection d s).store.suspect = s.store.suspect ∧
    (handDirection d s).store.writeFail = s.store.writeFail ∧ (handDirection d s).traction.tf = s.traction.tf ∧
    (handDirection d s).traction.pressureCount = s.traction.pressureCount ∧
    (handDirection d s).planner.completed = s.planner.completed ∧
    (handDirection d s).planner.shortfall = s.planner.shortfall := by
  simp [handDirection]

/-- Judging the demanded direction (R28). -/
@[simp] theorem judgeDirection_frame (d : Direction) (s : State) :
    (judgeDirection d s).resetLow = s.resetLow ∧ (judgeDirection d s).stamp = s.stamp ∧
    (judgeDirection d s).portL1 = s.portL1 ∧ (judgeDirection d s).portL2 = s.portL2 ∧
    (judgeDirection d s).portL3 = s.portL3 ∧ (judgeDirection d s).heldMeasure = s.heldMeasure ∧
    (judgeDirection d s).thermal = s.thermal ∧ (judgeDirection d s).trips = s.trips ∧
    (judgeDirection d s).present = s.present ∧ (judgeDirection d s).validation = s.validation ∧
    (judgeDirection d s).restartDue = s.restartDue ∧ (judgeDirection d s).freeCount = s.freeCount ∧
    (judgeDirection d s).pending = s.pending ∧ (judgeDirection d s).engine.grant.sequence = s.engine.grant.sequence ∧
    (judgeDirection d s).engine.grant.propelLimit = s.engine.grant.propelLimit ∧
    (judgeDirection d s).engine.grant.retardLimit = s.engine.grant.retardLimit ∧
    (judgeDirection d s).engine.grant.speedLimit = s.engine.grant.speedLimit ∧
    (judgeDirection d s).engine.grant.boost = s.engine.grant.boost ∧
    (judgeDirection d s).engine.grant.tractionReduced = s.engine.grant.tractionReduced ∧
    (judgeDirection d s).engine.grant.powerLimited = s.engine.grant.powerLimited ∧
    (judgeDirection d s).engine.grant.speedLimited = s.engine.grant.speedLimited ∧
    (judgeDirection d s).engine.grant.regime = s.engine.grant.regime ∧
    (judgeDirection d s).engine.speedLimit = s.engine.speedLimit ∧
    (judgeDirection d s).engine.source = s.engine.source ∧
    (judgeDirection d s).engine.retardFraction = s.engine.retardFraction ∧
    (judgeDirection d s).engine.pass = s.engine.pass ∧ (judgeDirection d s).engine.excess = s.engine.excess ∧
    (judgeDirection d s).intake.demand = s.intake.demand ∧
    (judgeDirection d s).intake.measurement = s.intake.measurement ∧ (judgeDirection d s).intake.l1 = s.intake.l1 ∧
    (judgeDirection d s).intake.l1Count = s.intake.l1Count ∧ (judgeDirection d s).intake.l2 = s.intake.l2 ∧
    (judgeDirection d s).intake.l2Count = s.intake.l2Count ∧
    (judgeDirection d s).intake.standstill = s.intake.standstill ∧
    (judgeDirection d s).intake.payload = s.intake.payload ∧
    (judgeDirection d s).intake.fallback = s.intake.fallback ∧ (judgeDirection d s).intake.grace = s.intake.grace ∧
    (judgeDirection d s).store.nv = s.store.nv ∧ (judgeDirection d s).store.accessLevel = s.store.accessLevel ∧
    (judgeDirection d s).store.failures = s.store.failures ∧ (judgeDirection d s).store.lockout = s.store.lockout ∧
    (judgeDirection d s).store.idleCount = s.store.idleCount ∧ (judgeDirection d s).store.suspect = s.store.suspect ∧
    (judgeDirection d s).store.writeFail = s.store.writeFail ∧ (judgeDirection d s).traction.tf = s.traction.tf ∧
    (judgeDirection d s).traction.pressureCount = s.traction.pressureCount ∧
    (judgeDirection d s).planner.completed = s.planner.completed ∧
    (judgeDirection d s).planner.shortfall = s.planner.shortfall := by
  unfold judgeDirection
  repeat' split
  all_goals simp

/-- The latched payload at an event (R30). -/
@[simp] theorem settlePayload_frame (s : State) :
    (settlePayload s).resetLow = s.resetLow ∧ (settlePayload s).mode = s.mode ∧
    (settlePayload s).tripOut = s.tripOut ∧ (settlePayload s).stamp = s.stamp ∧ (settlePayload s).portL1 = s.portL1 ∧
    (settlePayload s).portL2 = s.portL2 ∧ (settlePayload s).portL3 = s.portL3 ∧
    (settlePayload s).heldMeasure = s.heldMeasure ∧ (settlePayload s).store = s.store ∧
    (settlePayload s).traction = s.traction ∧ (settlePayload s).thermal = s.thermal ∧
    (settlePayload s).trips = s.trips ∧ (settlePayload s).present = s.present ∧
    (settlePayload s).validation = s.validation ∧ (settlePayload s).restartDue = s.restartDue ∧
    (settlePayload s).freeCount = s.freeCount ∧ (settlePayload s).pending = s.pending ∧
    (settlePayload s).intake.demand = s.intake.demand ∧ (settlePayload s).intake.measurement = s.intake.measurement ∧
    (settlePayload s).intake.l1 = s.intake.l1 ∧ (settlePayload s).intake.l1Count = s.intake.l1Count ∧
    (settlePayload s).intake.l2 = s.intake.l2 ∧ (settlePayload s).intake.l2Count = s.intake.l2Count ∧
    (settlePayload s).intake.direction = s.intake.direction ∧
    (settlePayload s).intake.directionHeld = s.intake.directionHeld ∧
    (settlePayload s).intake.standstill = s.intake.standstill ∧
    (settlePayload s).intake.fallback = s.intake.fallback ∧ (settlePayload s).intake.grace = s.intake.grace ∧
    (settlePayload s).planner.queue = s.planner.queue ∧ (settlePayload s).planner.state = s.planner.state ∧
    (settlePayload s).planner.progress = s.planner.progress ∧
    (settlePayload s).planner.completed = s.planner.completed ∧
    (settlePayload s).planner.abandoned = s.planner.abandoned ∧
    (settlePayload s).planner.shortfall = s.planner.shortfall ∧
    (settlePayload s).engine.grant.sequence = s.engine.grant.sequence ∧
    (settlePayload s).engine.grant.propelLimit = s.engine.grant.propelLimit ∧
    (settlePayload s).engine.grant.retardLimit = s.engine.grant.retardLimit ∧
    (settlePayload s).engine.grant.speedLimit = s.engine.grant.speedLimit ∧
    (settlePayload s).engine.grant.boost = s.engine.grant.boost ∧
    (settlePayload s).engine.grant.tractionReduced = s.engine.grant.tractionReduced ∧
    (settlePayload s).engine.grant.powerLimited = s.engine.grant.powerLimited ∧
    (settlePayload s).engine.grant.speedLimited = s.engine.grant.speedLimited ∧
    (settlePayload s).engine.grant.regime = s.engine.grant.regime ∧
    (settlePayload s).engine.speedLimit = s.engine.speedLimit ∧ (settlePayload s).engine.source = s.engine.source ∧
    (settlePayload s).engine.retardFraction = s.engine.retardFraction ∧
    (settlePayload s).engine.pass = s.engine.pass ∧ (settlePayload s).engine.excess = s.engine.excess := by
  unfold settlePayload
  repeat' split
  all_goals simp

/-- The park flag handed on (R131). -/
@[simp] theorem handPark_frame (s : State) :
    (handPark s).resetLow = s.resetLow ∧ (handPark s).stamp = s.stamp ∧ (handPark s).portL1 = s.portL1 ∧
    (handPark s).portL2 = s.portL2 ∧ (handPark s).portL3 = s.portL3 ∧ (handPark s).heldMeasure = s.heldMeasure ∧
    (handPark s).intake = s.intake ∧ (handPark s).thermal = s.thermal ∧ (handPark s).planner = s.planner ∧
    (handPark s).trips = s.trips ∧ (handPark s).present = s.present ∧ (handPark s).validation = s.validation ∧
    (handPark s).restartDue = s.restartDue ∧ (handPark s).freeCount = s.freeCount ∧
    (handPark s).pending = s.pending ∧ (handPark s).engine.grant.sequence = s.engine.grant.sequence ∧
    (handPark s).engine.grant.propelLimit = s.engine.grant.propelLimit ∧
    (handPark s).engine.grant.retardLimit = s.engine.grant.retardLimit ∧
    (handPark s).engine.grant.speedLimit = s.engine.grant.speedLimit ∧
    (handPark s).engine.grant.boost = s.engine.grant.boost ∧
    (handPark s).engine.grant.tractionReduced = s.engine.grant.tractionReduced ∧
    (handPark s).engine.grant.powerLimited = s.engine.grant.powerLimited ∧
    (handPark s).engine.grant.speedLimited = s.engine.grant.speedLimited ∧
    (handPark s).engine.grant.regime = s.engine.grant.regime ∧ (handPark s).engine.speedLimit = s.engine.speedLimit ∧
    (handPark s).engine.source = s.engine.source ∧ (handPark s).engine.retardFraction = s.engine.retardFraction ∧
    (handPark s).engine.pass = s.engine.pass ∧ (handPark s).engine.excess = s.engine.excess ∧
    (handPark s).store.nv = s.store.nv ∧ (handPark s).store.accessLevel = s.store.accessLevel ∧
    (handPark s).store.failures = s.store.failures ∧ (handPark s).store.lockout = s.store.lockout ∧
    (handPark s).store.idleCount = s.store.idleCount ∧ (handPark s).store.suspect = s.store.suspect ∧
    (handPark s).store.writeFail = s.store.writeFail ∧ (handPark s).traction.tf = s.traction.tf ∧
    (handPark s).traction.pressureCount = s.traction.pressureCount := by
  simp [handPark]

/-- A set brake flag touches the granted torques alone (R61). -/
@[simp] theorem withdrawOnBrake_frame (s : State) :
    (withdrawOnBrake s).resetLow = s.resetLow ∧ (withdrawOnBrake s).mode = s.mode ∧
    (withdrawOnBrake s).tripOut = s.tripOut ∧ (withdrawOnBrake s).stamp = s.stamp ∧
    (withdrawOnBrake s).portL1 = s.portL1 ∧ (withdrawOnBrake s).portL2 = s.portL2 ∧
    (withdrawOnBrake s).portL3 = s.portL3 ∧ (withdrawOnBrake s).heldMeasure = s.heldMeasure ∧
    (withdrawOnBrake s).intake = s.intake ∧ (withdrawOnBrake s).store = s.store ∧
    (withdrawOnBrake s).traction = s.traction ∧ (withdrawOnBrake s).thermal = s.thermal ∧
    (withdrawOnBrake s).planner = s.planner ∧ (withdrawOnBrake s).trips = s.trips ∧
    (withdrawOnBrake s).present = s.present ∧ (withdrawOnBrake s).validation = s.validation ∧
    (withdrawOnBrake s).restartDue = s.restartDue ∧ (withdrawOnBrake s).freeCount = s.freeCount ∧
    (withdrawOnBrake s).pending = s.pending ∧ (withdrawOnBrake s).engine.grant.sequence = s.engine.grant.sequence ∧
    (withdrawOnBrake s).engine.grant.propelLimit = s.engine.grant.propelLimit ∧
    (withdrawOnBrake s).engine.grant.retardLimit = s.engine.grant.retardLimit ∧
    (withdrawOnBrake s).engine.grant.speedLimit = s.engine.grant.speedLimit ∧
    (withdrawOnBrake s).engine.grant.boost = s.engine.grant.boost ∧
    (withdrawOnBrake s).engine.grant.tractionReduced = s.engine.grant.tractionReduced ∧
    (withdrawOnBrake s).engine.grant.powerLimited = s.engine.grant.powerLimited ∧
    (withdrawOnBrake s).engine.grant.speedLimited = s.engine.grant.speedLimited ∧
    (withdrawOnBrake s).engine.grant.regime = s.engine.grant.regime ∧
    (withdrawOnBrake s).engine.speedLimit = s.engine.speedLimit ∧
    (withdrawOnBrake s).engine.source = s.engine.source ∧
    (withdrawOnBrake s).engine.retardFraction = s.engine.retardFraction ∧
    (withdrawOnBrake s).engine.pass = s.engine.pass ∧ (withdrawOnBrake s).engine.excess = s.engine.excess := by
  unfold withdrawOnBrake
  repeat' split
  all_goals simp

/-- An accepted DEMAND (R26). -/
@[simp] theorem acceptDemand_frame (d : DemandRecord) (s : State) :
    (acceptDemand d s).resetLow = s.resetLow ∧ (acceptDemand d s).stamp = s.stamp ∧
    (acceptDemand d s).portL1 = s.portL1 ∧ (acceptDemand d s).portL2 = s.portL2 ∧
    (acceptDemand d s).portL3 = s.portL3 ∧ (acceptDemand d s).heldMeasure = s.heldMeasure ∧
    (acceptDemand d s).thermal = s.thermal ∧ (acceptDemand d s).trips = s.trips ∧
    (acceptDemand d s).validation = s.validation ∧ (acceptDemand d s).restartDue = s.restartDue ∧
    (acceptDemand d s).freeCount = s.freeCount ∧ (acceptDemand d s).pending = s.pending ∧
    (acceptDemand d s).engine.grant.sequence = s.engine.grant.sequence ∧
    (acceptDemand d s).engine.grant.propelLimit = s.engine.grant.propelLimit ∧
    (acceptDemand d s).engine.grant.retardLimit = s.engine.grant.retardLimit ∧
    (acceptDemand d s).engine.grant.speedLimit = s.engine.grant.speedLimit ∧
    (acceptDemand d s).engine.grant.boost = s.engine.grant.boost ∧
    (acceptDemand d s).engine.grant.tractionReduced = s.engine.grant.tractionReduced ∧
    (acceptDemand d s).engine.grant.powerLimited = s.engine.grant.powerLimited ∧
    (acceptDemand d s).engine.grant.speedLimited = s.engine.grant.speedLimited ∧
    (acceptDemand d s).engine.grant.regime = s.engine.grant.regime ∧
    (acceptDemand d s).engine.speedLimit = s.engine.speedLimit ∧ (acceptDemand d s).engine.source = s.engine.source ∧
    (acceptDemand d s).engine.retardFraction = s.engine.retardFraction ∧
    (acceptDemand d s).engine.pass = s.engine.pass ∧ (acceptDemand d s).engine.excess = s.engine.excess ∧
    (acceptDemand d s).intake.measurement = s.intake.measurement ∧ (acceptDemand d s).intake.l1 = s.intake.l1 ∧
    (acceptDemand d s).intake.l1Count = s.intake.l1Count ∧
    (acceptDemand d s).intake.standstill = s.intake.standstill ∧ (acceptDemand d s).store.nv = s.store.nv ∧
    (acceptDemand d s).store.accessLevel = s.store.accessLevel ∧
    (acceptDemand d s).store.failures = s.store.failures ∧ (acceptDemand d s).store.lockout = s.store.lockout ∧
    (acceptDemand d s).store.idleCount = s.store.idleCount ∧ (acceptDemand d s).store.suspect = s.store.suspect ∧
    (acceptDemand d s).store.writeFail = s.store.writeFail ∧ (acceptDemand d s).traction.tf = s.traction.tf ∧
    (acceptDemand d s).traction.pressureCount = s.traction.pressureCount ∧
    (acceptDemand d s).planner.completed = s.planner.completed ∧
    (acceptDemand d s).planner.shortfall = s.planner.shortfall := by
  simp [acceptDemand, intakeWithDemand]

/-- L1 going STALE (R34). -/
@[simp] theorem staleL1_frame (s : State) :
    (staleL1 s).resetLow = s.resetLow ∧ (staleL1 s).mode = s.mode ∧ (staleL1 s).stamp = s.stamp ∧
    (staleL1 s).portL1 = s.portL1 ∧ (staleL1 s).portL2 = s.portL2 ∧ (staleL1 s).portL3 = s.portL3 ∧
    (staleL1 s).heldMeasure = s.heldMeasure ∧ (staleL1 s).store = s.store ∧ (staleL1 s).traction = s.traction ∧
    (staleL1 s).thermal = s.thermal ∧ (staleL1 s).planner = s.planner ∧ (staleL1 s).validation = s.validation ∧
    (staleL1 s).restartDue = s.restartDue ∧ (staleL1 s).freeCount = s.freeCount ∧ (staleL1 s).pending = s.pending ∧
    (staleL1 s).engine.grant.sequence = s.engine.grant.sequence ∧
    (staleL1 s).engine.grant.propelLimit = s.engine.grant.propelLimit ∧
    (staleL1 s).engine.grant.retardLimit = s.engine.grant.retardLimit ∧
    (staleL1 s).engine.grant.speedLimit = s.engine.grant.speedLimit ∧
    (staleL1 s).engine.grant.boost = s.engine.grant.boost ∧
    (staleL1 s).engine.grant.tractionReduced = s.engine.grant.tractionReduced ∧
    (staleL1 s).engine.grant.powerLimited = s.engine.grant.powerLimited ∧
    (staleL1 s).engine.grant.speedLimited = s.engine.grant.speedLimited ∧
    (staleL1 s).engine.grant.regime = s.engine.grant.regime ∧ (staleL1 s).engine.speedLimit = s.engine.speedLimit ∧
    (staleL1 s).engine.source = s.engine.source ∧ (staleL1 s).engine.retardFraction = s.engine.retardFraction ∧
    (staleL1 s).engine.pass = s.engine.pass ∧ (staleL1 s).engine.excess = s.engine.excess ∧
    (staleL1 s).intake.demand = s.intake.demand ∧ (staleL1 s).intake.measurement = s.intake.measurement ∧
    (staleL1 s).intake.l2 = s.intake.l2 ∧ (staleL1 s).intake.l2Count = s.intake.l2Count ∧
    (staleL1 s).intake.direction = s.intake.direction ∧ (staleL1 s).intake.directionHeld = s.intake.directionHeld ∧
    (staleL1 s).intake.standstill = s.intake.standstill ∧ (staleL1 s).intake.payload = s.intake.payload ∧
    (staleL1 s).intake.fallback = s.intake.fallback ∧ (staleL1 s).intake.grace = s.intake.grace := by
  simp [staleL1]

/-- L1 freshness at an expiry (R32). -/
@[simp] theorem countL1_frame (s : State) :
    (countL1 s).resetLow = s.resetLow ∧ (countL1 s).mode = s.mode ∧ (countL1 s).stamp = s.stamp ∧
    (countL1 s).portL1 = s.portL1 ∧ (countL1 s).portL2 = s.portL2 ∧ (countL1 s).portL3 = s.portL3 ∧
    (countL1 s).heldMeasure = s.heldMeasure ∧ (countL1 s).store = s.store ∧ (countL1 s).traction = s.traction ∧
    (countL1 s).thermal = s.thermal ∧ (countL1 s).planner = s.planner ∧ (countL1 s).validation = s.validation ∧
    (countL1 s).restartDue = s.restartDue ∧ (countL1 s).freeCount = s.freeCount ∧ (countL1 s).pending = s.pending ∧
    (countL1 s).engine.grant.sequence = s.engine.grant.sequence ∧
    (countL1 s).engine.grant.propelLimit = s.engine.grant.propelLimit ∧
    (countL1 s).engine.grant.retardLimit = s.engine.grant.retardLimit ∧
    (countL1 s).engine.grant.speedLimit = s.engine.grant.speedLimit ∧
    (countL1 s).engine.grant.boost = s.engine.grant.boost ∧
    (countL1 s).engine.grant.tractionReduced = s.engine.grant.tractionReduced ∧
    (countL1 s).engine.grant.powerLimited = s.engine.grant.powerLimited ∧
    (countL1 s).engine.grant.speedLimited = s.engine.grant.speedLimited ∧
    (countL1 s).engine.grant.regime = s.engine.grant.regime ∧ (countL1 s).engine.speedLimit = s.engine.speedLimit ∧
    (countL1 s).engine.source = s.engine.source ∧ (countL1 s).engine.retardFraction = s.engine.retardFraction ∧
    (countL1 s).engine.pass = s.engine.pass ∧ (countL1 s).engine.excess = s.engine.excess ∧
    (countL1 s).intake.demand = s.intake.demand ∧ (countL1 s).intake.measurement = s.intake.measurement ∧
    (countL1 s).intake.l2 = s.intake.l2 ∧ (countL1 s).intake.l2Count = s.intake.l2Count ∧
    (countL1 s).intake.direction = s.intake.direction ∧ (countL1 s).intake.directionHeld = s.intake.directionHeld ∧
    (countL1 s).intake.standstill = s.intake.standstill ∧ (countL1 s).intake.payload = s.intake.payload ∧
    (countL1 s).intake.fallback = s.intake.fallback ∧ (countL1 s).intake.grace = s.intake.grace := by
  unfold countL1
  repeat' split
  all_goals simp

/-- L2 going STALE (R36). -/
@[simp] theorem staleL2_frame (s : State) :
    (staleL2 s).resetLow = s.resetLow ∧ (staleL2 s).mode = s.mode ∧ (staleL2 s).tripOut = s.tripOut ∧
    (staleL2 s).stamp = s.stamp ∧ (staleL2 s).portL1 = s.portL1 ∧ (staleL2 s).portL2 = s.portL2 ∧
    (staleL2 s).portL3 = s.portL3 ∧ (staleL2 s).heldMeasure = s.heldMeasure ∧ (staleL2 s).store = s.store ∧
    (staleL2 s).engine = s.engine ∧ (staleL2 s).thermal = s.thermal ∧ (staleL2 s).planner = s.planner ∧
    (staleL2 s).trips = s.trips ∧ (staleL2 s).present = s.present ∧ (staleL2 s).validation = s.validation ∧
    (staleL2 s).restartDue = s.restartDue ∧ (staleL2 s).freeCount = s.freeCount ∧ (staleL2 s).pending = s.pending ∧
    (staleL2 s).intake.demand = s.intake.demand ∧ (staleL2 s).intake.measurement = s.intake.measurement ∧
    (staleL2 s).intake.l1 = s.intake.l1 ∧ (staleL2 s).intake.l1Count = s.intake.l1Count ∧
    (staleL2 s).intake.direction = s.intake.direction ∧ (staleL2 s).intake.directionHeld = s.intake.directionHeld ∧
    (staleL2 s).intake.standstill = s.intake.standstill ∧ (staleL2 s).intake.payload = s.intake.payload ∧
    (staleL2 s).traction.tf = s.traction.tf ∧ (staleL2 s).traction.pressureCount = s.traction.pressureCount := by
  simp [staleL2]

/-- The fallback setpoint lowered (R37). -/
@[simp] theorem lowerSetpoint_frame (s : State) :
    (lowerSetpoint s).resetLow = s.resetLow ∧ (lowerSetpoint s).mode = s.mode ∧
    (lowerSetpoint s).tripOut = s.tripOut ∧ (lowerSetpoint s).stamp = s.stamp ∧ (lowerSetpoint s).portL1 = s.portL1 ∧
    (lowerSetpoint s).portL2 = s.portL2 ∧ (lowerSetpoint s).portL3 = s.portL3 ∧
    (lowerSetpoint s).heldMeasure = s.heldMeasure ∧ (lowerSetpoint s).store = s.store ∧
    (lowerSetpoint s).engine = s.engine ∧ (lowerSetpoint s).traction = s.traction ∧
    (lowerSetpoint s).thermal = s.thermal ∧ (lowerSetpoint s).planner = s.planner ∧
    (lowerSetpoint s).trips = s.trips ∧ (lowerSetpoint s).present = s.present ∧
    (lowerSetpoint s).validation = s.validation ∧ (lowerSetpoint s).restartDue = s.restartDue ∧
    (lowerSetpoint s).freeCount = s.freeCount ∧ (lowerSetpoint s).pending = s.pending ∧
    (lowerSetpoint s).intake.demand = s.intake.demand ∧ (lowerSetpoint s).intake.measurement = s.intake.measurement ∧
    (lowerSetpoint s).intake.l1 = s.intake.l1 ∧ (lowerSetpoint s).intake.l1Count = s.intake.l1Count ∧
    (lowerSetpoint s).intake.direction = s.intake.direction ∧
    (lowerSetpoint s).intake.directionHeld = s.intake.directionHeld ∧
    (lowerSetpoint s).intake.standstill = s.intake.standstill ∧ (lowerSetpoint s).intake.payload = s.intake.payload ∧
    (lowerSetpoint s).intake.l2 = s.intake.l2 ∧ (lowerSetpoint s).intake.l2Count = s.intake.l2Count ∧
    (lowerSetpoint s).intake.grace = s.intake.grace := by
  simp [lowerSetpoint]

/-- The grace count stepped (R39). -/
@[simp] theorem stepGrace_frame (s : State) :
    (stepGrace s).resetLow = s.resetLow ∧ (stepGrace s).mode = s.mode ∧ (stepGrace s).stamp = s.stamp ∧
    (stepGrace s).portL1 = s.portL1 ∧ (stepGrace s).portL2 = s.portL2 ∧ (stepGrace s).portL3 = s.portL3 ∧
    (stepGrace s).heldMeasure = s.heldMeasure ∧ (stepGrace s).store = s.store ∧ (stepGrace s).traction = s.traction ∧
    (stepGrace s).thermal = s.thermal ∧ (stepGrace s).planner = s.planner ∧ (stepGrace s).validation = s.validation ∧
    (stepGrace s).restartDue = s.restartDue ∧ (stepGrace s).freeCount = s.freeCount ∧
    (stepGrace s).pending = s.pending ∧ (stepGrace s).engine.grant.sequence = s.engine.grant.sequence ∧
    (stepGrace s).engine.grant.propelLimit = s.engine.grant.propelLimit ∧
    (stepGrace s).engine.grant.retardLimit = s.engine.grant.retardLimit ∧
    (stepGrace s).engine.grant.speedLimit = s.engine.grant.speedLimit ∧
    (stepGrace s).engine.grant.boost = s.engine.grant.boost ∧
    (stepGrace s).engine.grant.tractionReduced = s.engine.grant.tractionReduced ∧
    (stepGrace s).engine.grant.powerLimited = s.engine.grant.powerLimited ∧
    (stepGrace s).engine.grant.speedLimited = s.engine.grant.speedLimited ∧
    (stepGrace s).engine.grant.regime = s.engine.grant.regime ∧
    (stepGrace s).engine.speedLimit = s.engine.speedLimit ∧ (stepGrace s).engine.source = s.engine.source ∧
    (stepGrace s).engine.retardFraction = s.engine.retardFraction ∧ (stepGrace s).engine.pass = s.engine.pass ∧
    (stepGrace s).engine.excess = s.engine.excess ∧ (stepGrace s).intake.demand = s.intake.demand ∧
    (stepGrace s).intake.measurement = s.intake.measurement ∧ (stepGrace s).intake.l1 = s.intake.l1 ∧
    (stepGrace s).intake.l1Count = s.intake.l1Count ∧ (stepGrace s).intake.direction = s.intake.direction ∧
    (stepGrace s).intake.directionHeld = s.intake.directionHeld ∧
    (stepGrace s).intake.standstill = s.intake.standstill ∧ (stepGrace s).intake.payload = s.intake.payload ∧
    (stepGrace s).intake.l2 = s.intake.l2 ∧ (stepGrace s).intake.l2Count = s.intake.l2Count ∧
    (stepGrace s).intake.fallback = s.intake.fallback := by
  simp [stepGrace]

/-- L2 at an expiry (R32, R36, R37, R39). -/
@[simp] theorem countL2_frame (s : State) :
    (countL2 s).resetLow = s.resetLow ∧ (countL2 s).mode = s.mode ∧ (countL2 s).stamp = s.stamp ∧
    (countL2 s).portL1 = s.portL1 ∧ (countL2 s).portL2 = s.portL2 ∧ (countL2 s).portL3 = s.portL3 ∧
    (countL2 s).heldMeasure = s.heldMeasure ∧ (countL2 s).store = s.store ∧ (countL2 s).thermal = s.thermal ∧
    (countL2 s).planner = s.planner ∧ (countL2 s).validation = s.validation ∧ (countL2 s).restartDue = s.restartDue ∧
    (countL2 s).freeCount = s.freeCount ∧ (countL2 s).pending = s.pending ∧
    (countL2 s).engine.grant.sequence = s.engine.grant.sequence ∧
    (countL2 s).engine.grant.propelLimit = s.engine.grant.propelLimit ∧
    (countL2 s).engine.grant.retardLimit = s.engine.grant.retardLimit ∧
    (countL2 s).engine.grant.speedLimit = s.engine.grant.speedLimit ∧
    (countL2 s).engine.grant.boost = s.engine.grant.boost ∧
    (countL2 s).engine.grant.tractionReduced = s.engine.grant.tractionReduced ∧
    (countL2 s).engine.grant.powerLimited = s.engine.grant.powerLimited ∧
    (countL2 s).engine.grant.speedLimited = s.engine.grant.speedLimited ∧
    (countL2 s).engine.grant.regime = s.engine.grant.regime ∧ (countL2 s).engine.speedLimit = s.engine.speedLimit ∧
    (countL2 s).engine.source = s.engine.source ∧ (countL2 s).engine.retardFraction = s.engine.retardFraction ∧
    (countL2 s).engine.pass = s.engine.pass ∧ (countL2 s).engine.excess = s.engine.excess ∧
    (countL2 s).intake.demand = s.intake.demand ∧ (countL2 s).intake.measurement = s.intake.measurement ∧
    (countL2 s).intake.l1 = s.intake.l1 ∧ (countL2 s).intake.l1Count = s.intake.l1Count ∧
    (countL2 s).intake.direction = s.intake.direction ∧ (countL2 s).intake.directionHeld = s.intake.directionHeld ∧
    (countL2 s).intake.standstill = s.intake.standstill ∧ (countL2 s).intake.payload = s.intake.payload ∧
    (countL2 s).traction.tf = s.traction.tf ∧ (countL2 s).traction.pressureCount = s.traction.pressureCount := by
  unfold countL2
  repeat' split
  all_goals simp

/-- The standstill counter at an expiry (R29). -/
@[simp] theorem countStandstill_frame (s : State) :
    (countStandstill s).resetLow = s.resetLow ∧ (countStandstill s).mode = s.mode ∧
    (countStandstill s).tripOut = s.tripOut ∧ (countStandstill s).stamp = s.stamp ∧
    (countStandstill s).portL1 = s.portL1 ∧ (countStandstill s).portL2 = s.portL2 ∧
    (countStandstill s).portL3 = s.portL3 ∧ (countStandstill s).heldMeasure = s.heldMeasure ∧
    (countStandstill s).store = s.store ∧ (countStandstill s).engine = s.engine ∧
    (countStandstill s).traction = s.traction ∧ (countStandstill s).thermal = s.thermal ∧
    (countStandstill s).planner = s.planner ∧ (countStandstill s).trips = s.trips ∧
    (countStandstill s).present = s.present ∧ (countStandstill s).validation = s.validation ∧
    (countStandstill s).restartDue = s.restartDue ∧ (countStandstill s).freeCount = s.freeCount ∧
    (countStandstill s).pending = s.pending ∧ (countStandstill s).intake.demand = s.intake.demand ∧
    (countStandstill s).intake.measurement = s.intake.measurement ∧ (countStandstill s).intake.l1 = s.intake.l1 ∧
    (countStandstill s).intake.l1Count = s.intake.l1Count ∧ (countStandstill s).intake.l2 = s.intake.l2 ∧
    (countStandstill s).intake.l2Count = s.intake.l2Count ∧
    (countStandstill s).intake.direction = s.intake.direction ∧
    (countStandstill s).intake.directionHeld = s.intake.directionHeld ∧
    (countStandstill s).intake.payload = s.intake.payload ∧ (countStandstill s).intake.fallback = s.intake.fallback ∧
    (countStandstill s).intake.grace = s.intake.grace := by
  simp [countStandstill]

/-- The INTAKE UNIT at an expiry. -/
@[simp] theorem intakeAtExpiry_frame (s : State) :
    (intakeAtExpiry s).resetLow = s.resetLow ∧ (intakeAtExpiry s).mode = s.mode ∧
    (intakeAtExpiry s).stamp = s.stamp ∧ (intakeAtExpiry s).portL1 = s.portL1 ∧
    (intakeAtExpiry s).portL2 = s.portL2 ∧ (intakeAtExpiry s).portL3 = s.portL3 ∧
    (intakeAtExpiry s).heldMeasure = s.heldMeasure ∧ (intakeAtExpiry s).store = s.store ∧
    (intakeAtExpiry s).thermal = s.thermal ∧ (intakeAtExpiry s).validation = s.validation ∧
    (intakeAtExpiry s).restartDue = s.restartDue ∧ (intakeAtExpiry s).freeCount = s.freeCount ∧
    (intakeAtExpiry s).pending = s.pending ∧ (intakeAtExpiry s).engine.grant.sequence = s.engine.grant.sequence ∧
    (intakeAtExpiry s).engine.grant.propelLimit = s.engine.grant.propelLimit ∧
    (intakeAtExpiry s).engine.grant.retardLimit = s.engine.grant.retardLimit ∧
    (intakeAtExpiry s).engine.grant.speedLimit = s.engine.grant.speedLimit ∧
    (intakeAtExpiry s).engine.grant.boost = s.engine.grant.boost ∧
    (intakeAtExpiry s).engine.grant.tractionReduced = s.engine.grant.tractionReduced ∧
    (intakeAtExpiry s).engine.grant.powerLimited = s.engine.grant.powerLimited ∧
    (intakeAtExpiry s).engine.grant.speedLimited = s.engine.grant.speedLimited ∧
    (intakeAtExpiry s).engine.grant.regime = s.engine.grant.regime ∧
    (intakeAtExpiry s).engine.speedLimit = s.engine.speedLimit ∧ (intakeAtExpiry s).engine.source = s.engine.source ∧
    (intakeAtExpiry s).engine.retardFraction = s.engine.retardFraction ∧
    (intakeAtExpiry s).engine.pass = s.engine.pass ∧ (intakeAtExpiry s).engine.excess = s.engine.excess ∧
    (intakeAtExpiry s).intake.demand = s.intake.demand ∧
    (intakeAtExpiry s).intake.measurement = s.intake.measurement ∧
    (intakeAtExpiry s).intake.direction = s.intake.direction ∧
    (intakeAtExpiry s).intake.directionHeld = s.intake.directionHeld ∧
    (intakeAtExpiry s).traction.tf = s.traction.tf ∧
    (intakeAtExpiry s).traction.pressureCount = s.traction.pressureCount ∧
    (intakeAtExpiry s).planner.queue = s.planner.queue ∧ (intakeAtExpiry s).planner.state = s.planner.state ∧
    (intakeAtExpiry s).planner.progress = s.planner.progress ∧
    (intakeAtExpiry s).planner.completed = s.planner.completed ∧
    (intakeAtExpiry s).planner.abandoned = s.planner.abandoned ∧
    (intakeAtExpiry s).planner.shortfall = s.planner.shortfall := by
  simp [intakeAtExpiry]

/-! ### The TRACTION AND STEERING UNIT (file 04) -/

/-- The steering-pressure counter at an expiry (R83, R84). -/
@[simp] theorem steeringAtExpiry_frame (s : State) :
    (steeringAtExpiry s).resetLow = s.resetLow ∧ (steeringAtExpiry s).mode = s.mode ∧
    (steeringAtExpiry s).stamp = s.stamp ∧ (steeringAtExpiry s).portL1 = s.portL1 ∧
    (steeringAtExpiry s).portL2 = s.portL2 ∧ (steeringAtExpiry s).portL3 = s.portL3 ∧
    (steeringAtExpiry s).heldMeasure = s.heldMeasure ∧ (steeringAtExpiry s).intake = s.intake ∧
    (steeringAtExpiry s).store = s.store ∧ (steeringAtExpiry s).thermal = s.thermal ∧
    (steeringAtExpiry s).planner = s.planner ∧ (steeringAtExpiry s).validation = s.validation ∧
    (steeringAtExpiry s).restartDue = s.restartDue ∧ (steeringAtExpiry s).freeCount = s.freeCount ∧
    (steeringAtExpiry s).pending = s.pending ∧ (steeringAtExpiry s).engine.grant.sequence = s.engine.grant.sequence ∧
    (steeringAtExpiry s).engine.grant.propelLimit = s.engine.grant.propelLimit ∧
    (steeringAtExpiry s).engine.grant.retardLimit = s.engine.grant.retardLimit ∧
    (steeringAtExpiry s).engine.grant.speedLimit = s.engine.grant.speedLimit ∧
    (steeringAtExpiry s).engine.grant.boost = s.engine.grant.boost ∧
    (steeringAtExpiry s).engine.grant.tractionReduced = s.engine.grant.tractionReduced ∧
    (steeringAtExpiry s).engine.grant.powerLimited = s.engine.grant.powerLimited ∧
    (steeringAtExpiry s).engine.grant.speedLimited = s.engine.grant.speedLimited ∧
    (steeringAtExpiry s).engine.grant.regime = s.engine.grant.regime ∧
    (steeringAtExpiry s).engine.speedLimit = s.engine.speedLimit ∧
    (steeringAtExpiry s).engine.source = s.engine.source ∧
    (steeringAtExpiry s).engine.retardFraction = s.engine.retardFraction ∧
    (steeringAtExpiry s).engine.pass = s.engine.pass ∧ (steeringAtExpiry s).engine.excess = s.engine.excess ∧
    (steeringAtExpiry s).traction.tf = s.traction.tf ∧
    (steeringAtExpiry s).traction.reserve = s.traction.reserve := by
  unfold steeringAtExpiry
  dsimp only
  split <;> simp

/-! ### The ALLOCATION ENGINE (file 03) -/

/-- The boost requests of a pass touch the BOOST TIMERS alone (R51). -/
@[simp] theorem requestBoosts_frame (n : Snapshot) (s : State) :
    (requestBoosts n s).resetLow = s.resetLow ∧ (requestBoosts n s).mode = s.mode ∧
    (requestBoosts n s).tripOut = s.tripOut ∧ (requestBoosts n s).stamp = s.stamp ∧
    (requestBoosts n s).portL1 = s.portL1 ∧ (requestBoosts n s).portL2 = s.portL2 ∧
    (requestBoosts n s).portL3 = s.portL3 ∧ (requestBoosts n s).heldMeasure = s.heldMeasure ∧
    (requestBoosts n s).intake = s.intake ∧ (requestBoosts n s).store = s.store ∧
    (requestBoosts n s).engine = s.engine ∧ (requestBoosts n s).traction = s.traction ∧
    (requestBoosts n s).planner = s.planner ∧ (requestBoosts n s).trips = s.trips ∧
    (requestBoosts n s).present = s.present ∧ (requestBoosts n s).validation = s.validation ∧
    (requestBoosts n s).restartDue = s.restartDue ∧ (requestBoosts n s).freeCount = s.freeCount ∧
    (requestBoosts n s).pending = s.pending ∧ (requestBoosts n s).thermal.grid = s.thermal.grid ∧
    (requestBoosts n s).thermal.gd = s.thermal.gd := by
  unfold requestBoosts
  dsimp only
  repeat' split
  all_goals simp

/-- The start of a pass touches the pass alone (R44, R45). -/
@[simp] theorem startPass_frame (s : State) :
    (startPass s).resetLow = s.resetLow ∧ (startPass s).mode = s.mode ∧ (startPass s).tripOut = s.tripOut ∧
    (startPass s).stamp = s.stamp ∧ (startPass s).portL1 = s.portL1 ∧ (startPass s).portL2 = s.portL2 ∧
    (startPass s).portL3 = s.portL3 ∧ (startPass s).heldMeasure = s.heldMeasure ∧ (startPass s).intake = s.intake ∧
    (startPass s).store = s.store ∧ (startPass s).traction = s.traction ∧ (startPass s).thermal = s.thermal ∧
    (startPass s).planner = s.planner ∧ (startPass s).trips = s.trips ∧ (startPass s).present = s.present ∧
    (startPass s).validation = s.validation ∧ (startPass s).restartDue = s.restartDue ∧
    (startPass s).freeCount = s.freeCount ∧ (startPass s).pending = s.pending ∧
    (startPass s).engine.grant = s.engine.grant ∧ (startPass s).engine.speedLimit = s.engine.speedLimit ∧
    (startPass s).engine.source = s.engine.source ∧ (startPass s).engine.retardFraction = s.engine.retardFraction ∧
    (startPass s).engine.excess = s.engine.excess := by
  unfold startPass
  repeat' split
  all_goals simp

/-- Stages 1 to 8 touch BOOST TIMERS, traction factors and the pass (R46). -/
@[simp] theorem computeStages_frame (n : Snapshot) (s : State) :
    (computeStages n s).resetLow = s.resetLow ∧ (computeStages n s).mode = s.mode ∧
    (computeStages n s).tripOut = s.tripOut ∧ (computeStages n s).stamp = s.stamp ∧
    (computeStages n s).portL1 = s.portL1 ∧ (computeStages n s).portL2 = s.portL2 ∧
    (computeStages n s).portL3 = s.portL3 ∧ (computeStages n s).heldMeasure = s.heldMeasure ∧
    (computeStages n s).intake = s.intake ∧ (computeStages n s).store = s.store ∧
    (computeStages n s).planner = s.planner ∧ (computeStages n s).trips = s.trips ∧
    (computeStages n s).present = s.present ∧ (computeStages n s).validation = s.validation ∧
    (computeStages n s).restartDue = s.restartDue ∧ (computeStages n s).freeCount = s.freeCount ∧
    (computeStages n s).pending = s.pending ∧ (computeStages n s).thermal.grid = s.thermal.grid ∧
    (computeStages n s).thermal.gd = s.thermal.gd ∧ (computeStages n s).traction.reserve = s.traction.reserve ∧
    (computeStages n s).traction.pressureCount = s.traction.pressureCount ∧
    (computeStages n s).engine.grant = s.engine.grant ∧ (computeStages n s).engine.speedLimit = s.engine.speedLimit ∧
    (computeStages n s).engine.source = s.engine.source ∧
    (computeStages n s).engine.retardFraction = s.engine.retardFraction ∧
    (computeStages n s).engine.excess = s.engine.excess := by
  simp [computeStages]

/-- A pass that runs its stages touches BOOST TIMERS, traction factors and the pass. -/
@[simp] theorem runStages_frame (s : State) :
    (runStages s).resetLow = s.resetLow ∧ (runStages s).mode = s.mode ∧ (runStages s).tripOut = s.tripOut ∧
    (runStages s).stamp = s.stamp ∧ (runStages s).portL1 = s.portL1 ∧ (runStages s).portL2 = s.portL2 ∧
    (runStages s).portL3 = s.portL3 ∧ (runStages s).heldMeasure = s.heldMeasure ∧ (runStages s).intake = s.intake ∧
    (runStages s).store = s.store ∧ (runStages s).planner = s.planner ∧ (runStages s).trips = s.trips ∧
    (runStages s).present = s.present ∧ (runStages s).validation = s.validation ∧
    (runStages s).restartDue = s.restartDue ∧ (runStages s).freeCount = s.freeCount ∧
    (runStages s).pending = s.pending ∧ (runStages s).thermal.grid = s.thermal.grid ∧
    (runStages s).thermal.gd = s.thermal.gd ∧ (runStages s).traction.reserve = s.traction.reserve ∧
    (runStages s).traction.pressureCount = s.traction.pressureCount ∧ (runStages s).engine.grant = s.engine.grant ∧
    (runStages s).engine.speedLimit = s.engine.speedLimit ∧ (runStages s).engine.source = s.engine.source ∧
    (runStages s).engine.retardFraction = s.engine.retardFraction ∧
    (runStages s).engine.excess = s.engine.excess := by
  unfold runStages
  repeat' split
  all_goals simp

/-- A completion writes the engine alone (R57). -/
@[simp] theorem writeGrant_frame (w : PassWork) (s : State) :
    (writeGrant w s).resetLow = s.resetLow ∧ (writeGrant w s).mode = s.mode ∧ (writeGrant w s).tripOut = s.tripOut ∧
    (writeGrant w s).stamp = s.stamp ∧ (writeGrant w s).portL1 = s.portL1 ∧ (writeGrant w s).portL2 = s.portL2 ∧
    (writeGrant w s).portL3 = s.portL3 ∧ (writeGrant w s).heldMeasure = s.heldMeasure ∧
    (writeGrant w s).intake = s.intake ∧ (writeGrant w s).store = s.store ∧ (writeGrant w s).traction = s.traction ∧
    (writeGrant w s).thermal = s.thermal ∧ (writeGrant w s).planner = s.planner ∧ (writeGrant w s).trips = s.trips ∧
    (writeGrant w s).present = s.present ∧ (writeGrant w s).validation = s.validation ∧
    (writeGrant w s).restartDue = s.restartDue ∧ (writeGrant w s).freeCount = s.freeCount ∧
    (writeGrant w s).pending = s.pending ∧ (writeGrant w s).engine.excess = s.engine.excess := by
  simp [writeGrant]

/-- Supervision of one wheel (R66, R67). -/
@[simp] theorem superviseWheel_frame (w : Wheel) (granted achieved : Int) (s : State) :
    (superviseWheel w granted achieved s).resetLow = s.resetLow ∧
    (superviseWheel w granted achieved s).mode = s.mode ∧ (superviseWheel w granted achieved s).stamp = s.stamp ∧
    (superviseWheel w granted achieved s).portL1 = s.portL1 ∧
    (superviseWheel w granted achieved s).portL2 = s.portL2 ∧
    (superviseWheel w granted achieved s).portL3 = s.portL3 ∧
    (superviseWheel w granted achieved s).heldMeasure = s.heldMeasure ∧
    (superviseWheel w granted achieved s).intake = s.intake ∧ (superviseWheel w granted achieved s).store = s.store ∧
    (superviseWheel w granted achieved s).traction = s.traction ∧
    (superviseWheel w granted achieved s).thermal = s.thermal ∧
    (superviseWheel w granted achieved s).planner = s.planner ∧
    (superviseWheel w granted achieved s).validation = s.validation ∧
    (superviseWheel w granted achieved s).restartDue = s.restartDue ∧
    (superviseWheel w granted achieved s).freeCount = s.freeCount ∧
    (superviseWheel w granted achieved s).pending = s.pending ∧
    (superviseWheel w granted achieved s).engine.grant.sequence = s.engine.grant.sequence ∧
    (superviseWheel w granted achieved s).engine.grant.propelLimit = s.engine.grant.propelLimit ∧
    (superviseWheel w granted achieved s).engine.grant.retardLimit = s.engine.grant.retardLimit ∧
    (superviseWheel w granted achieved s).engine.grant.speedLimit = s.engine.grant.speedLimit ∧
    (superviseWheel w granted achieved s).engine.grant.boost = s.engine.grant.boost ∧
    (superviseWheel w granted achieved s).engine.grant.tractionReduced = s.engine.grant.tractionReduced ∧
    (superviseWheel w granted achieved s).engine.grant.powerLimited = s.engine.grant.powerLimited ∧
    (superviseWheel w granted achieved s).engine.grant.speedLimited = s.engine.grant.speedLimited ∧
    (superviseWheel w granted achieved s).engine.grant.regime = s.engine.grant.regime ∧
    (superviseWheel w granted achieved s).engine.speedLimit = s.engine.speedLimit ∧
    (superviseWheel w granted achieved s).engine.source = s.engine.source ∧
    (superviseWheel w granted achieved s).engine.retardFraction = s.engine.retardFraction ∧
    (superviseWheel w granted achieved s).engine.pass = s.engine.pass := by
  unfold superviseWheel
  dsimp only
  repeat' split
  all_goals simp

/-- Torque supervision (R66, R67). -/
@[simp] theorem supervise_frame (granted : Both Int) (m : MeasurementRecord) (s : State) :
    (supervise granted m s).resetLow = s.resetLow ∧ (supervise granted m s).mode = s.mode ∧
    (supervise granted m s).stamp = s.stamp ∧ (supervise granted m s).portL1 = s.portL1 ∧
    (supervise granted m s).portL2 = s.portL2 ∧ (supervise granted m s).portL3 = s.portL3 ∧
    (supervise granted m s).heldMeasure = s.heldMeasure ∧ (supervise granted m s).intake = s.intake ∧
    (supervise granted m s).store = s.store ∧ (supervise granted m s).traction = s.traction ∧
    (supervise granted m s).thermal = s.thermal ∧ (supervise granted m s).planner = s.planner ∧
    (supervise granted m s).validation = s.validation ∧ (supervise granted m s).restartDue = s.restartDue ∧
    (supervise granted m s).freeCount = s.freeCount ∧ (supervise granted m s).pending = s.pending ∧
    (supervise granted m s).engine.grant.sequence = s.engine.grant.sequence ∧
    (supervise granted m s).engine.grant.propelLimit = s.engine.grant.propelLimit ∧
    (supervise granted m s).engine.grant.retardLimit = s.engine.grant.retardLimit ∧
    (supervise granted m s).engine.grant.speedLimit = s.engine.grant.speedLimit ∧
    (supervise granted m s).engine.grant.boost = s.engine.grant.boost ∧
    (supervise granted m s).engine.grant.tractionReduced = s.engine.grant.tractionReduced ∧
    (supervise granted m s).engine.grant.powerLimited = s.engine.grant.powerLimited ∧
    (supervise granted m s).engine.grant.speedLimited = s.engine.grant.speedLimited ∧
    (supervise granted m s).engine.grant.regime = s.engine.grant.regime ∧
    (supervise granted m s).engine.speedLimit = s.engine.speedLimit ∧
    (supervise granted m s).engine.source = s.engine.source ∧
    (supervise granted m s).engine.retardFraction = s.engine.retardFraction ∧
    (supervise granted m s).engine.pass = s.engine.pass := by
  unfold supervise
  split <;> simp

/-! ### The TABLE STORE (files 01 and 09) -/

/-- Validation of a row touches the WORKING IMAGE alone (R17, R18). -/
@[simp] theorem decideRow_frame (r : Nat) (t : Store) :
    (decideRow r t).nv = t.nv ∧ (decideRow r t).accessLevel = t.accessLevel ∧ (decideRow r t).failures = t.failures ∧
    (decideRow r t).lockout = t.lockout ∧ (decideRow r t).idleCount = t.idleCount ∧ (decideRow r t).stage = t.stage ∧
    (decideRow r t).programmer = t.programmer ∧ (decideRow r t).suspect = t.suspect ∧
    (decideRow r t).writeFail = t.writeFail := by
  unfold decideRow decidePair setImageRow
  repeat' split
  all_goals simp

/-- Validation of the next row (R17, R78). -/
@[simp] theorem validateNext_frame (s : State) :
    (validateNext s).resetLow = s.resetLow ∧ (validateNext s).mode = s.mode ∧ (validateNext s).tripOut = s.tripOut ∧
    (validateNext s).stamp = s.stamp ∧ (validateNext s).portL1 = s.portL1 ∧ (validateNext s).portL2 = s.portL2 ∧
    (validateNext s).portL3 = s.portL3 ∧ (validateNext s).heldMeasure = s.heldMeasure ∧
    (validateNext s).intake = s.intake ∧ (validateNext s).engine = s.engine ∧ (validateNext s).thermal = s.thermal ∧
    (validateNext s).planner = s.planner ∧ (validateNext s).trips = s.trips ∧ (validateNext s).present = s.present ∧
    (validateNext s).restartDue = s.restartDue ∧ (validateNext s).freeCount = s.freeCount ∧
    (validateNext s).pending = s.pending ∧ (validateNext s).store.nv = s.store.nv ∧
    (validateNext s).store.accessLevel = s.store.accessLevel ∧ (validateNext s).store.failures = s.store.failures ∧
    (validateNext s).store.lockout = s.store.lockout ∧ (validateNext s).store.idleCount = s.store.idleCount ∧
    (validateNext s).store.suspect = s.store.suspect ∧ (validateNext s).store.writeFail = s.store.writeFail ∧
    (validateNext s).store.stage = s.store.stage ∧ (validateNext s).store.programmer = s.store.programmer ∧
    (validateNext s).traction.tf = s.traction.tf ∧
    (validateNext s).traction.pressureCount = s.traction.pressureCount := by
  unfold validateNext
  repeat' split
  all_goals (try dsimp only)
  all_goals simp

/-- Validation of `n` rows. -/
@[simp] theorem validateRows_frame (n : Nat) (s : State) :
    (validateRows n s).resetLow = s.resetLow ∧ (validateRows n s).mode = s.mode ∧
    (validateRows n s).tripOut = s.tripOut ∧ (validateRows n s).stamp = s.stamp ∧
    (validateRows n s).portL1 = s.portL1 ∧ (validateRows n s).portL2 = s.portL2 ∧
    (validateRows n s).portL3 = s.portL3 ∧ (validateRows n s).heldMeasure = s.heldMeasure ∧
    (validateRows n s).intake = s.intake ∧ (validateRows n s).engine = s.engine ∧
    (validateRows n s).thermal = s.thermal ∧ (validateRows n s).planner = s.planner ∧
    (validateRows n s).trips = s.trips ∧ (validateRows n s).present = s.present ∧
    (validateRows n s).restartDue = s.restartDue ∧ (validateRows n s).freeCount = s.freeCount ∧
    (validateRows n s).pending = s.pending ∧ (validateRows n s).store.nv = s.store.nv ∧
    (validateRows n s).store.accessLevel = s.store.accessLevel ∧
    (validateRows n s).store.failures = s.store.failures ∧ (validateRows n s).store.lockout = s.store.lockout ∧
    (validateRows n s).store.idleCount = s.store.idleCount ∧ (validateRows n s).store.suspect = s.store.suspect ∧
    (validateRows n s).store.writeFail = s.store.writeFail ∧ (validateRows n s).store.stage = s.store.stage ∧
    (validateRows n s).store.programmer = s.store.programmer ∧ (validateRows n s).traction.tf = s.traction.tf ∧
    (validateRows n s).traction.pressureCount = s.traction.pressureCount := by
  induction n generalizing s with
  | zero => simp [validateRows]
  | succ n ih => simp only [validateRows, ih]; simp

/-- The start of validation (R17). -/
@[simp] theorem startValidation_frame (s : State) :
    (startValidation s).resetLow = s.resetLow ∧ (startValidation s).mode = s.mode ∧
    (startValidation s).tripOut = s.tripOut ∧ (startValidation s).stamp = s.stamp ∧
    (startValidation s).portL1 = s.portL1 ∧ (startValidation s).portL2 = s.portL2 ∧
    (startValidation s).portL3 = s.portL3 ∧ (startValidation s).heldMeasure = s.heldMeasure ∧
    (startValidation s).intake = s.intake ∧ (startValidation s).engine = s.engine ∧
    (startValidation s).thermal = s.thermal ∧ (startValidation s).planner = s.planner ∧
    (startValidation s).trips = s.trips ∧ (startValidation s).present = s.present ∧
    (startValidation s).restartDue = s.restartDue ∧ (startValidation s).freeCount = s.freeCount ∧
    (startValidation s).pending = s.pending ∧ (startValidation s).store.nv = s.store.nv ∧
    (startValidation s).store.accessLevel = s.store.accessLevel ∧
    (startValidation s).store.failures = s.store.failures ∧ (startValidation s).store.lockout = s.store.lockout ∧
    (startValidation s).store.idleCount = s.store.idleCount ∧ (startValidation s).store.suspect = s.store.suspect ∧
    (startValidation s).store.writeFail = s.store.writeFail ∧ (startValidation s).store.stage = s.store.stage ∧
    (startValidation s).store.programmer = s.store.programmer ∧ (startValidation s).traction.tf = s.traction.tf ∧
    (startValidation s).traction.pressureCount = s.traction.pressureCount := by
  simp [startValidation]

/-- The TABLE STORE at an expiry (R172, R174). -/
@[simp] theorem storeAtExpiry_frame (s : State) :
    (storeAtExpiry s).resetLow = s.resetLow ∧ (storeAtExpiry s).mode = s.mode ∧
    (storeAtExpiry s).tripOut = s.tripOut ∧ (storeAtExpiry s).stamp = s.stamp ∧ (storeAtExpiry s).portL1 = s.portL1 ∧
    (storeAtExpiry s).portL2 = s.portL2 ∧ (storeAtExpiry s).portL3 = s.portL3 ∧
    (storeAtExpiry s).heldMeasure = s.heldMeasure ∧ (storeAtExpiry s).intake = s.intake ∧
    (storeAtExpiry s).engine = s.engine ∧ (storeAtExpiry s).traction = s.traction ∧
    (storeAtExpiry s).thermal = s.thermal ∧ (storeAtExpiry s).planner = s.planner ∧
    (storeAtExpiry s).trips = s.trips ∧ (storeAtExpiry s).present = s.present ∧
    (storeAtExpiry s).validation = s.validation ∧ (storeAtExpiry s).restartDue = s.restartDue ∧
    (storeAtExpiry s).freeCount = s.freeCount ∧ (storeAtExpiry s).pending = s.pending := by
  simp [storeAtExpiry]

end Sys2Proof.Machine
end

