-- ==== Sys2Proof/Laws/Ops.lean ====
section
/-! SUPPORT. What each shared operation can do, said once: ports and requests, trips, conditions, the swap, the mode, the pass. -/

namespace Sys2Proof.Machine

/-! ### The part held -/

/-- With RESET_N high a command's effect is its effect. -/
theorem whileReleased_high {f : State → State} {s : State} (h : s.resetLow = false) : whileReleased f s = f s := by
  simp [whileReleased, h]

/-- With RESET_N low nothing happens. -/
theorem whileReleased_low {f : State → State} {s : State} (h : s.resetLow = true) : whileReleased f s = s := by
  simp [whileReleased, h]

/-! ### Ports -/

@[simp] theorem State.port_withPort_same (s : State) (p : PortId) (x : Port) : (s.withPort p x).port p = x := by
  cases p <;> rfl

@[simp] theorem State.port_withPort_other (s : State) (p q : PortId) (x : Port) (h : q ≠ p) :
    (s.withPort p x).port q = s.port q := by
  cases p <;> cases q <;> first | rfl | exact absurd rfl h

/-- Writing a port back changes nothing. -/
@[simp] theorem State.withPort_port (s : State) (p : PortId) : s.withPort p (s.port p) = s := by cases p <;> rfl

/-- The last write of a port stands. -/
@[simp] theorem State.withPort_withPort (s : State) (p : PortId) (x y : Port) :
    (s.withPort p x).withPort p y = s.withPort p y := by cases p <;> rfl

/-- `countOn` then `setReceive`: one write of the port. -/
theorem setReceive_countOn (p : PortId) (r : Receive) (f : Counters → Counters) (s : State) :
    setReceive p r (countOn p f s) = s.withPort p ⟨r, f (s.port p).counters⟩ := by cases p <;> rfl

/-- The station address depends on the tables alone. -/
theorem stationAddress_countOn (p q : PortId) (f : Counters → Counters) (s : State) :
    stationAddress q (countOn p f s) = stationAddress q s := by cases p <;> cases q <;> rfl

/-! ### Requests (R154 to R157) -/

/-- A request frame of at most 48 payload bytes on a port that collects a frame is taken. -/
theorem serveRequest_addressed {s : State} {p : PortId} {a code : Byte} {payload : List Byte}
    {handle : State → State × Option ReplyBody} (hs : s.resetLow = false) (ha : (s.port p).receive = .addressed a)
    (hp : payload.length ≤ 48) :
    whileReleased (serveRequest p code payload handle) s = takeSound p a code handle s := by
  simp [whileReleased, hs, serveRequest, ha, maxPayload, Nat.not_lt.mpr hp]

/-- A length byte above 48 abandons the frame (R155). -/
theorem serveRequest_tooLong {s : State} {p : PortId} {a code : Byte} {payload : List Byte}
    {handle : State → State × Option ReplyBody} (hs : s.resetLow = false) (ha : (s.port p).receive = .addressed a)
    (hp : 48 < payload.length) :
    whileReleased (serveRequest p code payload handle) s =
      s.withPort p ⟨.ignoring, countLength (s.port p).counters⟩ := by
  simp [whileReleased, hs, serveRequest, ha, maxPayload, hp, abandonOnLength, setReceive_countOn]

/-- In any other receive state the characters are discarded (R154). -/
theorem serveRequest_notAddressed {s : State} {p : PortId} {code : Byte} {payload : List Byte}
    {handle : State → State × Option ReplyBody} (ha : ∀ a, (s.port p).receive ≠ .addressed a) :
    whileReleased (serveRequest p code payload handle) s = s := by
  unfold whileReleased
  split
  · rfl
  · unfold serveRequest
    split
    · rename_i a h
      exact absurd h (ha a)
    · rfl

/-- A port that has counted a sound frame, and on L3 the idle count it has set to 0 (R156, R174). -/
def heard (p : PortId) (s : State) : State := noteSound p (countOn p countGood s)

/-- A sound frame whose owner answers the state `t` and the body `b`. -/
theorem takeSound_eq {p : PortId} {a code : Byte} {handle : State → State × Option ReplyBody} {s t : State}
    {b : Option ReplyBody} (h : handle (heard p s) = (t, b)) :
    takeSound p a code handle s = setReceive p (.replyPending a code b) t := by
  unfold heard at h
  simp [takeSound, h]

@[simp] theorem heard_l1 (s : State) :
    heard .l1 s = { s with portL1 := { s.portL1 with counters := countGood s.portL1.counters } } := rfl

@[simp] theorem heard_l2 (s : State) :
    heard .l2 s = { s with portL2 := { s.portL2 with counters := countGood s.portL2.counters } } := rfl

@[simp] theorem heard_l3 (s : State) :
    heard .l3 s =
      { s with
        portL3 := { s.portL3 with counters := countGood s.portL3.counters }
        store := { s.store with idleCount := 0 } } := rfl

/-! ### Trip level and line (R135, R137) -/

/-- Every code is in the list of codes. -/
theorem mem_allCodes (c : TripCode) : c ∈ allCodes := by cases c <;> decide

/-- The level is D exactly where a class-D code is latched. -/
theorem levelOf_eq_d (m : TripMarks) : levelOf m = .d ↔ ∃ c, c.classD = true ∧ m.get c = true := by
  unfold levelOf
  constructor
  · intro h
    split at h
    · rename_i hd
      simp only [List.any_eq_true, Bool.and_eq_true] at hd
      obtain ⟨c, -, h1⟩ := hd
      exact ⟨c, h1⟩
    · split at h <;> cases h
  · rintro ⟨c, h1, h2⟩
    rw [if_pos]
    simp only [List.any_eq_true, Bool.and_eq_true]
    exact ⟨c, mem_allCodes c, h1, h2⟩

/-- The level is NONE exactly where no code is latched. -/
theorem levelOf_eq_none (m : TripMarks) : levelOf m = .none ↔ ∀ c, m.get c = false := by
  unfold levelOf
  constructor
  · intro h c
    split at h
    · cases h
    · split at h
      · cases h
      · rename_i h2
        simp only [List.any_eq_true, not_exists, not_and, Bool.not_eq_true] at h2
        exact h2 c (mem_allCodes c)
  · intro h
    simp [h]

/-- When TRIP_OUT_N is asserted. -/
theorem lineAsserted_iff (mode : Mode) (level : TripLevel) :
    lineAsserted mode level = true ↔ level = .d ∨ mode = .startup := by simp [lineAsserted]

/-! ### Torque withdrawn (R56, R61) -/

@[simp] theorem withoutPositive_get (t : Both Int) (w : Wheel) : (withoutPositive t).get w = min (t.get w) 0 := by
  cases w <;> rfl

/-- A withdrawal replaces the torques of the GRANT RECORD and nothing else. -/
theorem withdrawPositive_engine (s : State) :
    (withdrawPositive s).engine =
      { s.engine with grant := { s.engine.grant with torque := withoutPositive s.engine.grant.torque } } := rfl

/-! ### Raises (R138, R139, R143) -/

/-- A list below 16 records needs no room. -/
theorem makeRoom_short {l : List FaultRecord} (h : l.length < 16) : makeRoom l = l := by simp [makeRoom, h]

/-- A full list loses its oldest CLEARED record (R143). -/
theorem makeRoom_full {l before after : List FaultRecord} {r : FaultRecord} (h : l.length = 16)
    (e : l = before ++ r :: after) (hb : ∀ x ∈ before, x.cleared = false) (hr : r.cleared = true) :
    makeRoom l = before ++ after := by
  unfold makeRoom
  rw [if_neg (by omega), e, List.eraseP_append_right]
  · simp [hr]
  · intro x hx
    simp [hb x hx]

/-- A raise of a latched code changes the FAULT LIST alone (R139). -/
theorem raiseTrip_latched {c : TripCode} {d : Option Int} {s : State} (h : s.trips.latched.get c = true) :
    raiseTrip c d s = s.withTrips { s.trips with faults := s.trips.faults.map (mergeRecord c s.stamp) } := by
  simp [raiseTrip, h, mergeTrip]

/-- A raise of a code not latched: trips, engine and line change, and nothing else (R138). -/
theorem raiseTrip_unlatched {c : TripCode} {d : Option Int} {s : State} (h : s.trips.latched.get c = false) :
    raiseTrip c d s =
      { s with
        trips := latchedTrips c (newRecord c d s) s.trips
        engine := (tellEngineOfLatch c s.trips.level s).engine
        tripOut := lineAsserted s.mode (levelOf (s.trips.latched.set c true)) } := by
  have e : raiseTrip c d s = latchTrip c d s := by simp [raiseTrip, h]
  rw [e]
  simp only [latchTrip, tellEngineOfLatch, State.withTrips]
  by_cases hd : c.classD = true
  · simp only [hd, if_true]
    rfl
  · by_cases hn : s.trips.level = .none
    · simp only [hd, hn, if_true]
      rfl
    · simp only [hd, hn, if_false]
      rfl

/-- A raise leaves its code latched and every other code as it was. -/
theorem raiseTrip_get (c e : TripCode) (d : Option Int) (s : State) :
    (raiseTrip c d s).trips.latched.get e = (s.trips.latched.get e || decide (e = c)) := by
  cases h : s.trips.latched.get c
  · rw [raiseTrip_unlatched h]
    by_cases hc : e = c
    · subst hc
      simp [latchedTrips]
    · simp [latchedTrips, hc]
  · rw [raiseTrip_latched h]
    by_cases hc : e = c
    · subst hc
      simp [h]
    · simp [hc]

/-! ### Conditions (R40, R134) -/

/-- A condition that is absent, or was present before, only has its mark set. -/
theorem judgeCondition_quiet {c : TripCode} {now : Bool} {d : Option Int} {s : State}
    (h : now = false ∨ s.present.get c = true) : judgeCondition c now d s = markPresent c now s := by
  unfold judgeCondition
  rcases h with h | h <;> simp [h]

/-- A condition that goes from absent to present is raised. -/
theorem judgeCondition_rises {c : TripCode} {d : Option Int} {s : State} (h : s.present.get c = false) :
    judgeCondition c true d s = raiseTrip c d (markPresent c true s) := by
  simp [judgeCondition, h]

/-- A judged condition's mark follows it, and every other mark stays. -/
theorem judgeCondition_get (c e : TripCode) (now : Bool) (d : Option Int) (s : State) :
    (judgeCondition c now d s).present.get e = if e = c then now else s.present.get e := by
  unfold judgeCondition
  by_cases h : e = c
  · subst h
    split <;> simp [markPresent]
  · split <;> simp [markPresent, h]

/-- A judged condition latches its code where it goes from absent to present. -/
theorem judgeCondition_latched (c e : TripCode) (now : Bool) (d : Option Int) (s : State) :
    (judgeCondition c now d s).trips.latched.get e =
      (s.trips.latched.get e || (decide (e = c) && now && !s.present.get c)) := by
  unfold judgeCondition
  cases now <;> cases h : s.present.get c <;> simp [raiseTrip_get]

/-! ### The swap (R182, R183) -/

/-- A swap waits where the mode is not PARKED or a pass runs. -/
theorem trySwap_waits {s : State} (h : ¬(s.mode = .parked ∧ s.engine.pass = none)) : trySwap s = s := by
  unfold trySwap
  split
  · rw [if_neg]
    rintro ⟨-, h1, h2⟩
    exact h ⟨h1, h2⟩
  · rfl

/-- No swap is made unless one waits. -/
theorem trySwap_none {s : State} (h : s.store.programmer ≠ .swapPending) : trySwap s = s := by
  unfold trySwap
  split
  · rw [if_neg]
    rintro ⟨h1, -⟩
    exact h h1
  · rfl

/-- A waiting swap is made in PARKED with no pass in flight. -/
theorem trySwap_made {s : State} {st : StagedRow} (hp : s.store.programmer = .swapPending) (hm : s.mode = .parked)
    (he : s.engine.pass = none) (hs : s.store.stage = some st) : trySwap s = swapRow st s := by
  simp [trySwap, hp, hm, he, hs]

/-- A row of the WORKING IMAGE after one row has been replaced. -/
theorem imageRow_set (im : Image) (r q : Nat) (x : ImageRow) (h : r < 23) :
    imageRow (im.setIfInBounds r x) q = if q = r then x.entries else imageRow im q := by
  unfold imageRow
  by_cases hq : q = r
  · subst hq
    simp [h]
  · simp [hq, Ne.symm hq]

/-- A row's source after one row has been replaced. -/
theorem rowIsLimp_set (im : Image) (r q : Nat) (x : ImageRow) (h : r < 23) :
    rowIsLimp (im.setIfInBounds r x) q = if q = r then decide (x.source = .limp) else rowIsLimp im q := by
  unfold rowIsLimp
  by_cases hq : q = r
  · subst hq
    simp [h]
  · simp [hq, Ne.symm hq]

/-! ### The mode (R133) -/

/-- A mode set to what it is changes nothing. -/
theorem changeMode_same {m : Mode} {s : State} (h : s.mode = m) : changeMode m s = s := by simp [changeMode, h]

@[simp] theorem changeMode_mode (m : Mode) (s : State) : (changeMode m s).mode = m := by
  unfold changeMode
  split
  · assumption
  · split <;> split <;> simp

/-! ### The head limit (R124) -/

/-- A notice to an ACTIVE plan forms its head limit afresh. -/
theorem recomputeHead_active {s : State} {seg : Segment} {rest : List Segment} (h : s.planner.state = .active)
    (hq : s.planner.queue = seg :: rest) :
    recomputeHead s = s.withPlanner { s.planner with head := some (headLimitNow s seg) } := by
  simp [recomputeHead, h, hq]

/-- A notice to a plan that is not ACTIVE does nothing. -/
theorem recomputeHead_inactive {s : State} (h : s.planner.state ≠ .active) : recomputeHead s = s := by
  unfold recomputeHead
  split
  · rename_i h1 _
    exact absurd h1 h
  · rfl

/-! ### The pass (R44, R45, R51, R53, R101) -/

/-- A pass that starts on a record goes in flight on its snapshot, and nothing else changes. -/
theorem startPass_eq {s : State} {m : MeasurementRecord} (h : s.intake.measurement = some m) :
    startPass s = s.withEngine { s.engine with pass := some (.snapshotTaken (takeSnapshot m s)) } := by
  simp [startPass, h]

/-- A pass that has its snapshot alone runs its stages. -/
theorem runStages_snapshot {s : State} {n : Snapshot} (h : s.engine.pass = some (.snapshotTaken n)) :
    runStages s = computeStages n s := by
  simp [runStages, h]

/-- A pass that has run its stages, or none, leaves the state as it is. -/
theorem runStages_done {s : State} (h : ∀ n, s.engine.pass ≠ some (.snapshotTaken n)) : runStages s = s := by
  unfold runStages
  split
  · rename_i n hn
    exact absurd hn (h n)
  · rfl

/-- A wheel whose request is answered from `s` enters BOOST (R101). -/
def enteringBoost (n : Snapshot) (w : Wheel) (s : State) : Bool :=
  decide (passRegime n = .propel) && wantsBoost n w && boostEntered w s

/-- A motor whose wheel has entered BOOST. -/
def boosted (m : Motor) : Motor := { m with boost := { m.boost with state := .boost, count := 0 } }

/-- The boost requests of a pass put each wheel that is answered into BOOST and change nothing else. -/
theorem requestBoosts_eq (n : Snapshot) (s : State) :
    requestBoosts n s = s.withThermal { s.thermal with
      motor := Both.of fun w =>
        if enteringBoost n w s then boosted (s.thermal.motor.get w) else s.thermal.motor.get w } := by
  have ask (w : Wheel) (t : State) : (if passRegime n = .propel ∧ wantsBoost n w then requestBoost w t else t) =
      if enteringBoost n w t then onMotor w boosted t else t := by
    unfold enteringBoost
    by_cases h : passRegime n = .propel ∧ wantsBoost n w = true
    · simp only [h, requestBoost]
      rfl
    · rw [if_neg h, if_neg]
      simp only [Bool.and_eq_true, decide_eq_true_eq]
      exact fun hc => h hc.1
  unfold requestBoosts
  simp only [ask]
  have same : enteringBoost n .right (onMotor .left boosted s) = enteringBoost n .right s := rfl
  by_cases hl : enteringBoost n .left s = true
  · rw [if_pos hl, same]
    by_cases hr : enteringBoost n .right s = true <;>
      simp [hl, hr, Both.of, onMotor, Both.set, Both.get, State.withThermal]
  · rw [if_neg hl]
    by_cases hr : enteringBoost n .right s = true <;>
      simp [hl, hr, Both.of, onMotor, Both.set, Both.get, State.withThermal]

/-- Stages 1 to 8 run: the working values, the traction factors and the boosted motors, and nothing else. -/
theorem computeStages_eq (n : Snapshot) (s : State) :
    computeStages n s = { s with
      engine := { s.engine with pass := some (.computed (computePass n (Both.of fun w => enteringBoost n w s))) }
      traction := { s.traction with tf := newFactors n (passRegime n) }
      thermal := { s.thermal with
        motor := Both.of fun w =>
          if enteringBoost n w s then boosted (s.thermal.motor.get w) else s.thermal.motor.get w } } := by
  unfold computeStages
  rw [requestBoosts_eq]
  rfl

/-- A pass that has run its stages completes. -/
theorem completePass_computed {s : State} {w : PassWork} (b : Bool) (h : s.engine.pass = some (.computed w)) :
    completePass b s = handOn b (writeGrant w s) := by
  simp [completePass, h]

/-- The reply of a pass changes the L1 port alone. -/
theorem replyOfPass_eq (b : Bool) (s : State) : replyOfPass b s = s.withPortL1 (replyOfPass b s).portL1 := by
  unfold replyOfPass
  split
  · split <;> rfl
  · rfl

/-! ### The shortfall count (R126, R127) -/

/-- The count reaches SHORTFALL_INTERVALS: the expiry leaves it there and found it elsewhere. -/
theorem shortfallReaches_iff (s : State) : shortfallReaches s = true ↔
    shortfallAfter s = shortfallIntervals s.store.image ∧ s.planner.shortfall ≠ shortfallIntervals s.store.image := by
  simp [shortfallReaches]

/-! ### From an accepted RESTART to its warm restart (R184, R188) -/

/-- Only L3 waits for a warm restart. -/
theorem awaitsRestart_iff (p : PortId) (s : State) : awaitsRestart p s = true ↔ p = .l3 ∧ s.restartDue = true := by
  simp [awaitsRestart]

/-- A port that waits for a warm restart loses a MARKER CHARACTER. -/
theorem onMarker_awaiting {p : PortId} {s : State} (a : Byte) (h : awaitsRestart p s = true) : onMarker p a s = s := by
  simp [onMarker, h]

/-- The warm restart is due with the Row Programmer IDLE alone. -/
theorem warmRestartDue_iff (s : State) : warmRestartDue s = true ↔ s.restartDue = true ∧ s.store.programmer = .idle := by
  simp [warmRestartDue]

end Sys2Proof.Machine
end

