-- ==== Sys2Proof/Laws/PerInstr.lean ====
section
/-! SUPPORT. A statement made of every command, one lemma each: a well-formed request is what its port, code and payload
spell (R152, R156). -/

namespace Sys2Proof.Laws.SpellsItself

open Sys2Proof.Machine

/-- The port, code and payload of a well-formed request command spell that command, and its payload fits a frame. -/
def Statement (i : Instr) : Prop :=
  WellFormed i = true → ∀ p code payload, frameOf i = some (p, code, payload) →
    requestOf p code payload = i ∧ payload.length ≤ maxPayload

/-- A command that is no request has no frame. -/
theorem of_noFrame {i : Instr} (h : frameOf i = none) : Statement i := by
  intro _ p code payload hf
  rw [h] at hf
  cases hf

/-- A request command whose port lists its code, from what its three figures spell. -/
theorem of_frame {i : Instr} {p : PortId} {code : Byte} {payload : List Byte} (h : frameOf i = some (p, code, payload))
    (hr : WellFormed i = true → requestOf p code payload = i) (hw : WellFormed i = true → payloadFits payload = true) :
    Statement i := by
  intro w q c x hf
  rw [h] at hf
  cases hf
  exact ⟨hr w, by simpa [payloadFits] using hw w⟩

theorem coldReset : Statement (.coldReset) := of_noFrame rfl
theorem resetNRelease : Statement (.resetNRelease) := of_noFrame rfl
theorem validationComplete : Statement (.validationComplete) := of_noFrame rfl
theorem warmRestart : Statement (.warmRestart) := of_noFrame rfl
theorem baseIntervalExpiry : Statement (.baseIntervalExpiry) := of_noFrame rfl
theorem l1LinkStale : Statement (.l1LinkStale) := of_noFrame rfl
theorem l2LinkStale : Statement (.l2LinkStale) := of_noFrame rfl
theorem chassisLinkLost : Statement (.chassisLinkLost) := of_noFrame rfl
theorem sensorHoldExpired (wheel : Wheel) : Statement (.sensorHoldExpired wheel) := of_noFrame rfl
theorem boostWindowEnd (wheel : Wheel) : Statement (.boostWindowEnd wheel) := of_noFrame rfl
theorem recoverEnd (wheel : Wheel) : Statement (.recoverEnd wheel) := of_noFrame rfl
theorem steerPressureLow : Statement (.steerPressureLow) := of_noFrame rfl
theorem planAdvance : Statement (.planAdvance) := of_noFrame rfl
theorem retardShortfall : Statement (.retardShortfall) := of_noFrame rfl
theorem lockoutEnd : Statement (.lockoutEnd) := of_noFrame rfl
theorem serviceIdleTimeout : Statement (.serviceIdleTimeout) := of_noFrame rfl
theorem markerCharacter (port : PortId) (address : Byte) : Statement (.markerCharacter port address) := of_noFrame rfl
theorem framingError (port : PortId) : Statement (.framingError port) := of_noFrame rfl
theorem gapTimeout (port : PortId) : Statement (.gapTimeout port) := of_noFrame rfl
theorem lengthError (port : PortId) (length : Byte) : Statement (.lengthError port length) := of_noFrame rfl
theorem shortBreak (port : PortId) : Statement (.shortBreak port) := of_noFrame rfl
theorem longBreak (port : PortId) : Statement (.longBreak port) := of_noFrame rfl
theorem checkFailure (port : PortId) (code : Byte) (payload : List Byte) (check : Byte) : Statement (.checkFailure port code payload check) := of_noFrame rfl
theorem unknownRequest (port : PortId) (code : Byte) (payload : List Byte) : Statement (.unknownRequest port code payload) :=
  of_frame rfl
    (fun w => by
      simp only [WellFormed, Bool.and_eq_true, Bool.not_eq_true'] at w
      simp [requestOf, w.2])
    (fun w => by
      simp only [WellFormed, Bool.and_eq_true] at w
      exact w.1)
theorem replyBegin (port : PortId) : Statement (.replyBegin port) := of_noFrame rfl
theorem replyComplete (port : PortId) : Statement (.replyComplete port) := of_noFrame rfl
theorem measure (payload : List Byte) : Statement (.measure payload) :=
  of_frame rfl (fun _ => rfl) id
theorem passCompletion (lineAtSpace : Bool) : Statement (.passCompletion lineAtSpace) := of_noFrame rfl
theorem grantRead (payload : List Byte) : Statement (.grantRead payload) :=
  of_frame rfl (fun _ => rfl) id
theorem linkStatus (port : PortId) (payload : List Byte) : Statement (.linkStatus port payload) :=
  of_frame rfl (fun _ => by cases port <;> rfl) id
theorem demand (payload : List Byte) : Statement (.demand payload) :=
  of_frame rfl (fun _ => rfl) id
theorem planAppend (payload : List Byte) : Statement (.planAppend payload) :=
  of_frame rfl (fun _ => rfl) id
theorem planStart (payload : List Byte) : Statement (.planStart payload) :=
  of_frame rfl (fun _ => rfl) id
theorem planClear (payload : List Byte) : Statement (.planClear payload) :=
  of_frame rfl (fun _ => rfl) id
theorem planRead (payload : List Byte) : Statement (.planRead payload) :=
  of_frame rfl (fun _ => rfl) id
theorem tripClear (payload : List Byte) : Statement (.tripClear payload) :=
  of_frame rfl (fun _ => rfl) id
theorem faultRead (port : PortId) (payload : List Byte) : Statement (.faultRead port payload) :=
  of_frame rfl
    (fun w => by
      simp only [WellFormed, Bool.and_eq_true, decide_eq_true_eq] at w
      cases port
      · exact absurd rfl w.2
      · rfl
      · rfl)
    (fun w => by
      simp only [WellFormed, Bool.and_eq_true] at w
      exact w.1)
theorem faultAck (payload : List Byte) : Statement (.faultAck payload) :=
  of_frame rfl (fun _ => rfl) id
theorem access (payload : List Byte) : Statement (.access payload) :=
  of_frame rfl (fun _ => rfl) id
theorem logout (payload : List Byte) : Statement (.logout payload) :=
  of_frame rfl (fun _ => rfl) id
theorem rowRead (payload : List Byte) : Statement (.rowRead payload) :=
  of_frame rfl (fun _ => rfl) id
theorem rowStage (payload : List Byte) : Statement (.rowStage payload) :=
  of_frame rfl (fun _ => rfl) id
theorem rowCommit (payload : List Byte) : Statement (.rowCommit payload) :=
  of_frame rfl (fun _ => rfl) id
theorem programVerify (found : Option NvRow) : Statement (.programVerify found) := of_noFrame rfl
theorem storeStatus (payload : List Byte) : Statement (.storeStatus payload) :=
  of_frame rfl (fun _ => rfl) id
theorem countersRead (payload : List Byte) : Statement (.countersRead payload) :=
  of_frame rfl (fun _ => rfl) id
theorem modelRead (payload : List Byte) : Statement (.modelRead payload) :=
  of_frame rfl (fun _ => rfl) id
theorem identRead (payload : List Byte) : Statement (.identRead payload) :=
  of_frame rfl (fun _ => rfl) id
theorem restart (payload : List Byte) : Statement (.restart payload) :=
  of_frame rfl (fun _ => rfl) id

end Sys2Proof.Laws.SpellsItself
end

