-- ==== Sys2Proof/Tests/Slice0.lean ====
section
/-! SUPPORT. Small tests: the WellFormed smoke tests, single steps on worked figures of spec/, and for every statement with
hypotheses a concrete state and operands that meet them. -/

namespace Sys2Proof.Tests

set_option Elab.async false

open Sys2Proof.Machine Sys2Proof.Safety Sys2Proof.Claims

/-! ### States the tests start from -/

/-- The state a command leads to. -/
def after (i : Instr) (s : State) : State :=
  match exec i s with
  | .next t => t
  | _ => s

/-- A new part that has validated: every row LIMP, PARKED. -/
def parked : State := { State.reset with resetLow := false, mode := .parked, tripOut := false }

/-- The part in DRIVE. -/
def driving : State := { parked with mode := .drive }

/-- `s` with port `p` collecting a frame addressed to `a`. -/
def collecting (p : PortId) (a : Byte) (s : State) : State := s.withPort p ⟨.addressed a, .zero⟩

/-- `s` with an INTAKE UNIT changed by `f`. -/
def intaken (f : Intake → Intake) (s : State) : State := s.withIntake (f s.intake)

/-- A sound record at reference speed `v`. -/
def record (v : Nat) : MeasurementRecord :=
  { wheelSpeed := ⟨v, v⟩, refSpeed := v, achieved := ⟨0, 0⟩, winding := ⟨50, 50⟩, windingValid := ⟨true, true⟩
    gridPower := 0, gridSensor := 100, gridSensorValid := true, voltage := 1500, ambient := 20, blower := true
    inverterFault := ⟨false, false⟩ }

/-- `s` with L1 FRESH at count `n` and reference speed `v`. -/
def measured (n v : Nat) (s : State) : State :=
  intaken (fun i => { i with l1 := .fresh, l1Count := n, measurement := some (record v) }) s

/-- `s` with L2 FRESH at count `n`. -/
def demanded (n : Nat) (s : State) : State := intaken (fun i => { i with l2 := .fresh, l2Count := n }) s

/-- A fallback demand at setpoint `v`. -/
def fallbackAt (v : Nat) : FallbackDemand := ⟨0, .forward, 120, 150, false, false, v⟩

/-- `s` with L2 STALE, the fallback setpoint at `v` and the grace count at `n`. -/
def staleDemand (v n : Nat) (s : State) : State :=
  intaken (fun i => { i with l2 := .stale, fallback := some (fallbackAt v), grace := n }) s

/-- A seeded grid at estimate `g` with inputs of the worked steps of file 05: ambient 30, blower running, sensor
INVALID. -/
def gridAt (g : Int) (power : Nat) : Grid :=
  { g := g, power := power, blower := true, ambient := 30, sensor := 0, sensorValid := false
    effective := Int.tdiv g 16, band := gridBandOf (Int.tdiv g 16) }

/-- `s` with grid `g`. -/
def gridded (g : Grid) (s : State) : State := s.withThermal { s.thermal with grid := some g, gd := 1000 }

/-- A motor whose hold stands at `n` intervals. -/
def holding (n : Nat) (timer : BoostTimer) : Motor := ⟨.holding, n, some 100, some 0, 1000, timer⟩

/-- A live motor at temperature `x` with timer `t`. -/
def live (x : Int) (t : BoostTimer) : Motor := ⟨.live, 0, some x, some (motorBandOf x), 1000, t⟩

/-- `s` with left motor `m`. -/
def motored (m : Motor) (s : State) : State := s.withThermal { s.thermal with motor := s.thermal.motor.set .left m }

/-- A dry segment of `n` metres. -/
def segment (n : Nat) : Segment := ⟨n, -100, 3000, .dry⟩

/-- `s` with an ACTIVE plan of the segments `q` at `progress`, the held direction FORWARD. -/
def planned (q : List Segment) (progress : Nat) (s : State) : State :=
  intaken (fun i => { i with direction := .forward })
    (s.withPlanner { s.planner with
      queue := q, state := .active, progress := progress, head := some ⟨2352, true, false⟩ })

/-- `s` with the trip of `c` latched. -/
def tripped (c : TripCode) (s : State) : State := raiseTrip c none s

/-- `s` with row 22 NV: codes 1, 2 and 3, 4, station address 64. -/
def coded (s : State) : State :=
  s.withStore { s.store with
    image := s.store.image.setIfInBounds 22 ⟨#v[1, 2, 3, 4, 64, 3000, 600, 20], .nv⟩ }

/-- `s` at ACCESS LEVEL `n` with the standstill counter at `k`. -/
def accessed (n k : Nat) (s : State) : State :=
  intaken (fun i => { i with standstill := k }) (s.withStore { s.store with accessLevel := n })

/-- The staged edit of row 12 of file 09. -/
def staged12 : StagedRow := ⟨12, #v[4, 6, 0, 65532, 65526, 65526, 65528, 65534]⟩

/-- `s` with row image `st` staged and the programmer at `p`. -/
def stagedAt (st : StagedRow) (p : Programmer) (s : State) : State :=
  s.withStore { s.store with stage := some st, programmer := p }

/-- A pass that has formed 230 on each wheel, as in file 03's session of two MEASUREs. -/
def work : PassWork :=
  { torque := ⟨230, 230⟩, propelLimit := ⟨800, 800⟩, retardLimit := ⟨700, 700⟩, speedLimit := 5500, source := .payload
    retardFraction := 0, boost := ⟨false, false⟩, tractionReduced := ⟨false, false⟩, powerLimited := false
    speedLimited := false, regime := .propel }

/-- `s` with a pass in flight that has run its stages. -/
def inFlight (s : State) : State := s.withEngine { s.engine with pass := some (.computed work) }

/-- `s` with a pass in flight on a snapshot of a truck pulling at `throttle`, its timers IDLE. -/
def snapshotted (throttle : Nat) (s : State) : State :=
  let n := snapshotOf (record 0) { s with mode := .drive, intake := { s.intake with
    demand := { s.intake.demand with throttle := throttle, park := false } } }
  s.withEngine { s.engine with pass := some (.snapshotTaken n) }

/-- `s` with PROPEL_PEAK 1200 at the lowest speeds. -/
def peaked (s : State) : State :=
  s.withStore { s.store with image := s.store.image.setIfInBounds 4 ⟨.replicate 8 1200, .nv⟩ }

/-- A MEASURE payload: equal wheel speeds and reference speed `v`, achieved torques, temperatures 50, 1500 V, ambient
20. -/
def measurePayload (v l r : Int) : List Byte :=
  signedBytes v ++ signedBytes v ++ signedBytes v ++ signedBytes l ++ signedBytes r ++ signedBytes 50 ++ signedBytes 50 ++
    signedBytes 0 ++ signedBytes 100 ++ signedBytes 1500 ++ signedBytes 20 ++ [1]

/-- A DEMAND payload: throttle and lever 0, straight, 292 t, no hold setpoint. -/
def demandPayload (direction pressure brake : Nat) : List Byte :=
  unsignedBytes 0 ++ unsignedBytes 0 ++ oneByte direction ++ signedBytes 0 ++ unsignedBytes 292 ++
    unsignedBytes pressure ++ oneByte brake ++ unsignedBytes 65535

/-! ### WellFormed refuses each ill-formed term -/

theorem test_wellFormed_payloadTooLong : WellFormed (.measure (List.replicate 49 0)) = false := by decide
theorem test_wellFormed_payloadLongest : WellFormed (.measure (List.replicate 48 0)) = true := by decide
theorem test_wellFormed_lengthErrorInRange : WellFormed (.lengthError .l2 48) = false := by decide
theorem test_wellFormed_lengthErrorAbove : WellFormed (.lengthError .l2 49) = true := by decide
theorem test_wellFormed_unknownListed : WellFormed (.unknownRequest .l1 0x10 []) = false := by decide
theorem test_wellFormed_unknownOtherPort : WellFormed (.unknownRequest .l2 0x10 []) = true := by decide
theorem test_wellFormed_unknownTooLong : WellFormed (.unknownRequest .l2 0x10 (List.replicate 49 0)) = false := by decide
theorem test_wellFormed_faultReadOnL1 : WellFormed (.faultRead .l1 [0]) = false := by decide
theorem test_wellFormed_checkFailureTooLong : WellFormed (.checkFailure .l1 0 (List.replicate 49 0) 0) = false := by decide

/-! ### Figures of the spec -/

/-- File 01, check word examples. -/
theorem test_checkWord_row13 : checkWord 13 (limpRow 13) = 57494 := by decide
theorem test_checkWord_row12_signed : checkWord 12 #v[5, 3, 0, 65532, 65526, 65526, 65530, 0] = 62473 := by decide
theorem test_checkWord_misplaced : checkWord 16 (limpRow 15) = 32423 := by decide
/-- File 05, worked grid steps. -/
theorem test_gridStep_underLoad : stepG limpImage (gridAt 4000 3000) = 4004 := by decide
theorem test_gridStep_acrossBand :
    (after .baseIntervalExpiry (gridded (gridAt 4798 3000) parked)).thermal.gd = 900 := by decide +kernel
/-- File 06, sustainable speed worked. -/
theorem test_sustainable_gd900 : sustainableSpeed limpImage 900 230 (-100) = 2117 := by decide
/-- File 04, the worked power budget: 799 and 950 at 2140 and 2260 against 2450 kW. -/
theorem test_budget_worked :
    budgetTorque 2450 ⟨wheelPower limpImage 799 2140, wheelPower limpImage 950 2260⟩ ⟨799, 950⟩ = (⟨781, 928⟩, true) := by
  decide
/-- File 03, the switchback: previous −340 and target −369 at rate 40; on a WET road −360. -/
theorem test_rate_switchback : rateLimited 40 (-340) (-369) = -369 ∧ rateLimited 20 (-340) (-369) = -360 := by decide
/-- File 08, request code 11H to address 01H with no payload: the four bytes sum with 01H to 0. -/
theorem test_frame_grantRead : encodeFrame 1 (.grantRead []) = some [0x11, 0x00, 0xEE] := by decide
theorem test_frame_readsBack : decodeFrame .l1 1 [0x11, 0x00, 0xEE] = some (.grantRead []) := by decide
/-- R151: address 1 with the marker bit set, from start bit to stop bit. -/
theorem test_character_marker :
    writeCharacter true 1 = #v[.space, .mark, .space, .space, .space, .space, .space, .space, .space, .mark, .mark] := by
  decide
/-- R151: a stop bit at space is a framing error, but not with the line at space throughout. -/
theorem test_character_framingError :
    readCharacter #v[.space, .mark, .space, .space, .space, .space, .space, .space, .space, .mark, .space] =
      some .framingError ∧ readCharacter (.replicate 11 .space) = some .heldAtSpace := by decide
/-- R154, R155: a marker and a code, a gap of more than 3 character times, a data character discarded, a break of 3 character
times, and the frame of GRANT_READ. -/
theorem test_line_commands :
    commandsOf .l1 none
      ([.character (writeCharacter true 1), .character (writeCharacter false 0x11), .atMark 34,
        .character (writeCharacter false 0), .atSpace 33] ++ (frameCharacters [1, 0x11, 0, 0xEE]).map .character) =
      [.markerCharacter .l1 1, .gapTimeout .l1, .longBreak .l1, .markerCharacter .l1 1, .grantRead []] := by decide
theorem test_frame_damaged : decodeFrame .l1 1 [0x11, 0x00, 0xEF] = some (.checkFailure .l1 0x11 [] 0xEF) := by decide

/-! ### One step of each command -/

theorem test_coldReset_startup : (after .coldReset driving).mode = .startup ∧ (after .coldReset driving).tripOut = true := by
  decide +kernel
theorem test_release_reserve : (after .resetNRelease State.reset).traction.reserve = 150 := by decide +kernel
/-- File 01, first start of a new part. -/
theorem test_validation_newPart :
    limpCount (after .validationComplete (after .resetNRelease State.reset)).store.image = 23 := by decide +kernel
theorem test_validation_parked : (after .validationComplete (after .resetNRelease State.reset)).mode = .parked := by
  decide +kernel
theorem test_warmRestart_keepsStamp :
    (after .warmRestart { driving with restartDue := true, stamp := 7 }).stamp = 7 := by decide +kernel
/-- R184: no ROW_COMMIT comes between an accepted RESTART's reply and its warm restart, and none falls during a program. -/
theorem test_warmRestart_noProgramBetween :
    (let s := stagedAt staged12 .idle (accessed 2 10 { parked with restartDue := true })
     let t := after (.rowCommit [12]) (after (.markerCharacter .l3 64) s)
     t.store.programmer = .idle ∧ (after .warmRestart t).mode = .startup) ∧
    (after .warmRestart (stagedAt staged12 .programming { parked with restartDue := true })).mode = .parked := by
  decide +kernel
theorem test_expiry_stampWraps : (after .baseIntervalExpiry { parked with stamp := 0xFFFFFFFF }).stamp = 0 := by
  decide +kernel
/-- File 02, propulsion link timing. -/
theorem test_expiry_l1Lost : (after .baseIntervalExpiry (measured 1 0 driving)).trips.level = .d := by decide +kernel
theorem test_l1LinkStale_line : (after .l1LinkStale (measured 1 0 driving)).tripOut = true := by decide +kernel
/-- File 02, chassis link lost on the ramp: min(2380, 2352). -/
theorem test_l2LinkStale_setpoint :
    ((after .l2LinkStale (demanded 1 (measured 3 2380 (driving.withEngine { driving.engine with speedLimit := 2352 })))
      ).intake.fallback.map fun f => f.setpoint) = some 2352 := by decide +kernel
/-- File 02: the fall of 20, and the floor. -/
theorem test_expiry_setpointFloor :
    ((after .baseIntervalExpiry (staleDemand 512 92 driving)).intake.fallback.map fun f => f.setpoint) = some 500 := by
  decide +kernel
theorem test_chassisLinkLost_level : (after .chassisLinkLost (staleDemand 500 149 driving)).trips.level = .p := by
  decide +kernel
theorem test_sensorHoldExpired_band :
    (after (.sensorHoldExpired .left) (motored (holding 9 ⟨.idle, 0, none⟩) parked)).thermal.motor.left.band = some 7 := by
  decide +kernel
theorem test_boostWindowEnd_reference :
    (after (.boostWindowEnd .left) (motored (live 125 ⟨.boost, 299, none⟩) parked)).thermal.motor.left.boost =
      ⟨.recover, 0, some 1⟩ := by decide +kernel
theorem test_recoverEnd_idle :
    (after (.recoverEnd .left) (motored (live 125 ⟨.recover, 1199, some 1⟩) parked)).thermal.motor.left.boost =
      ⟨.idle, 0, none⟩ := by decide +kernel
theorem test_steerPressureLow_detail :
    (after .steerPressureLow (measured 3 1000 (driving.withTraction { driving.traction with pressureCount := 19 }))
      ).trips.faults.map (fun r => r.detail) = [some 0] := by decide +kernel
/-- File 06: 50 m at 2352 an expiry is finished at the 77th, with 1,104 carried into the next segment. -/
theorem test_planAdvance_carry :
    (after .planAdvance (measured 3 2352 (planned [segment 50, segment 1200] (76 * 2352) driving))).planner.progress =
      77 * 2352 - 180000 := by decide +kernel
theorem test_lockoutEnd : (after .lockoutEnd (parked.withStore { parked.store with lockout := some 1 })).store.lockout = none := by
  decide +kernel
theorem test_serviceIdleTimeout :
    (after .serviceIdleTimeout ((accessed 2 0 parked).withStore { (accessed 2 0 parked).store with idleCount := 2999 })
      ).store.accessLevel = 0 := by decide +kernel
theorem test_marker_misaddressed : (after (.markerCharacter .l1 2) parked).portL1.counters.misaddressed = 1 := by
  decide +kernel
theorem test_marker_serviceNotCounted :
    (after (.markerCharacter .l3 65) parked).portL3 = ⟨.ignoring, .zero⟩ := by decide +kernel
theorem test_framingError_ignoring : (after (.framingError .l2) (collecting .l2 2 parked)).portL2.receive = .ignoring := by
  decide +kernel
theorem test_gap_idle : (after (.gapTimeout .l2) (collecting .l2 2 parked)).portL2.receive = .idle := by decide +kernel
theorem test_lengthError_counted : (after (.lengthError .l2 49) (collecting .l2 2 parked)).portL2.counters.lengthErrors = 1 := by
  decide +kernel
theorem test_shortBreak_idle : (after (.shortBreak .l1) (collecting .l1 1 parked)).portL1.receive = .idle := by decide +kernel
theorem test_longBreak_dropsAccess : (after (.longBreak .l3) (accessed 2 0 parked)).store.accessLevel = 0 := by
  decide +kernel
theorem test_checkFailure_idle :
    (after (.checkFailure .l1 0x11 [] 0xEF) (collecting .l1 1 parked)).portL1.counters.checkFailures = 1 := by decide +kernel
theorem test_unknownRequest_reply :
    (after (.unknownRequest .l1 0x20 []) (collecting .l1 1 parked)).portL1.receive =
      .replyPending 1 0x20 (some ⟨.unknown, []⟩) := by decide +kernel
theorem test_replyBegin_formed :
    (after (.replyBegin .l1) (parked.withPort .l1 ⟨.replyPending 1 0x11 (some ⟨.ok, []⟩), .zero⟩)).portL1.receive =
      .replying ⟨1, 0x11, ⟨.ok, []⟩⟩ := by decide +kernel
theorem test_replyComplete_restart :
    (after (.replyComplete .l3) (parked.withPort .l3 ⟨.replying ⟨64, 0x3A, ⟨.ok, []⟩⟩, .zero⟩)).restartDue = true := by
  decide +kernel
/-- File 02, a MEASURE with readings out of range: 2140 V is above DC_OV 2100, raised with detail 2140. -/
theorem test_measure_overvolt :
    (judgeCondition .dcLinkOvervolt (decide (dcOv limpImage < 2140)) (some 2140) driving).trips.faults.map
      (fun r => r.detail) = [some 2140] := by decide +kernel
theorem test_measure_startsPass :
    (after (.measure (measurePayload 0 0 0)) (collecting .l1 1 parked)).engine.pass.isSome = true := by decide +kernel
/-- File 05, R101: a band risen above BOOST_BAND_MAX since the snapshot refuses the request; one at it does not. -/
theorem test_idle_boostRefusedOnBand :
    ((idleWork (snapshotted 950 (motored (live 170 ⟨.idle, 0, none⟩) (peaked driving)))).thermal.motor.left.boost.state =
      .idle) ∧
    ((idleWork (snapshotted 950 (motored (live 155 ⟨.idle, 0, none⟩) (peaked driving)))).thermal.motor.left.boost.state =
      .boost) := by decide +kernel
/-- File 03, two MEASUREs during one pass: completion at trip level P withholds 230 / 230. -/
theorem test_passCompletion_gated :
    (after (.passCompletion false) (inFlight (tripped .overspeed driving))).engine.grant.torque = ⟨0, 0⟩ := by
  decide +kernel
theorem test_passCompletion_sequence : (after (.passCompletion false) (inFlight driving)).engine.grant.sequence = 1 := by
  decide +kernel
theorem test_grantRead_good : (after (.grantRead []) (collecting .l1 1 parked)).portL1.counters.goodFrames = 1 := by
  decide +kernel
theorem test_linkStatus_length :
    (after (.linkStatus .l2 [0]) (collecting .l2 2 parked)).portL2.receive = .replyPending 2 0x1F (some ⟨.length, []⟩) := by
  decide +kernel
theorem test_demand_readyFromParked :
    (after (.demand (demandPayload 0 200 0)) (collecting .l2 2 parked)).mode = .ready := by decide +kernel
/-- File 02: the latched payload takes 292 t once the counter is at PAYLOAD_SETTLE. -/
theorem test_demand_payloadSettles :
    (after (.demand (demandPayload 0 200 1)) (collecting .l2 2 (accessed 0 50 parked))).intake.payload = 292 := by
  decide +kernel
theorem test_planAppend_range :
    (after (.planAppend (segmentBytes (segment 0))) (collecting .l2 2 driving)).planner.queue = [] := by decide +kernel
theorem test_planAppend_loaded :
    (after (.planAppend (segmentBytes (segment 5000))) (collecting .l2 2 driving)).planner.state = .loaded := by
  decide +kernel
/-- File 06: 230 t on a grade of −100 at Gd 1000 gives 2352. -/
theorem test_planStart_head :
    ((after (.planStart []) (collecting .l2 2 (gridded (gridAt 0 0) (intaken
      (fun i => { i with direction := .forward, payload := 230 })
      (driving.withPlanner { driving.planner with queue := [segment 800], state := .loaded }))))).planner.head) =
      some ⟨2352, true, false⟩ := by decide +kernel
theorem test_planClear_empty :
    (after (.planClear []) (collecting .l2 2 (planned [segment 1] 5 driving))).planner.state = .empty := by decide +kernel
theorem test_planRead_startup :
    (after (.planRead []) (collecting .l2 2 { parked with mode := .startup })).portL2.receive =
      .replyPending 2 0x24 (some ⟨.refusedMode, []⟩) := by decide +kernel
theorem test_tripClear_moving :
    (after (.tripClear []) (collecting .l2 2 (tripped .overspeed driving))).trips.level = .p := by decide +kernel
theorem test_tripClear_standing :
    (after (.tripClear []) (collecting .l2 2 (accessed 0 10 (tripped .overspeed driving)))).trips.level = .none := by
  decide +kernel
theorem test_faultRead_range :
    (after (.faultRead .l2 [16]) (collecting .l2 2 parked)).portL2.receive = .replyPending 2 0x26 (some ⟨.range, []⟩) := by
  decide +kernel
theorem test_faultAck_keepsActive :
    (after (.faultAck []) (collecting .l3 64 (accessed 1 0 (tripped .overspeed driving)))).trips.faults.length = 1 := by
  decide +kernel
/-- File 09, editing the retard trim: a wrong code counts, the right one clears. -/
theorem test_access_wrong :
    (after (.access [1, 0, 1, 0, 3]) (collecting .l3 64 (coded parked))).store.failures = 1 := by decide +kernel
theorem test_access_right :
    (after (.access [1, 0, 1, 0, 2]) (collecting .l3 64 (coded parked))).store.accessLevel = 1 := by decide +kernel
theorem test_logout : (after (.logout []) (collecting .l3 64 (accessed 2 0 parked))).store.accessLevel = 0 := by
  decide +kernel
theorem test_rowRead_range :
    (after (.rowRead [23]) (collecting .l3 64 parked)).portL3.receive = .replyPending 64 0x32 (some ⟨.range, []⟩) := by
  decide +kernel
/-- File 09: the run of four values from entry 6 wraps to entries 0 and 1. -/
theorem test_rowStage_wraps :
    writeWrapped [65528, 65534, 4, 6] 6 #v[5, 3, 0, 65532, 65526, 65526, 65530, 0] = staged12.entries := by decide
theorem test_rowStage_access :
    (after (.rowStage [17, 0, 0, 5]) (collecting .l3 64 (accessed 1 0 parked))).store.stage = none := by decide +kernel
theorem test_rowCommit_programming :
    (after (.rowCommit [12]) (collecting .l3 64 (stagedAt staged12 .idle (accessed 1 40 parked)))).store.programmer =
      .programming := by decide +kernel
theorem test_rowCommit_notStaged :
    (after (.rowCommit [5]) (collecting .l3 64 (stagedAt staged12 .idle (accessed 1 40 parked)))).store.programmer =
      .idle := by decide +kernel
/-- File 09: the swapped row, and the CHECK WORD 62475 in its cells. -/
theorem test_programVerify_swap :
    imageRow (after (.programVerify none) (stagedAt staged12 .programming parked)).store.image 12 = staged12.entries := by
  decide +kernel
theorem test_programVerify_checkWord :
    (nvRow (after (.programVerify none) (stagedAt staged12 .programming parked)).store 12).check = 62475 := by
  decide +kernel
theorem test_storeStatus_ok :
    (after (.storeStatus []) (collecting .l3 64 parked)).portL3.counters.goodFrames = 1 := by decide +kernel
theorem test_countersRead_length : (countersReadBytes parked).length = 42 := by decide +kernel
theorem test_modelRead_range :
    (after (.modelRead [2]) (collecting .l3 64 parked)).portL3.receive = .replyPending 64 0x38 (some ⟨.range, []⟩) := by
  decide +kernel
theorem test_restart_refusedAccess :
    (after (.restart []) (collecting .l3 64 parked)).portL3.receive =
      .replyPending 64 0x3A (some ⟨.refusedAccess, []⟩) := by decide +kernel

/-! ### Witnesses: a state and operands that meet the hypotheses of each statement, clause by clause -/

theorem witness_StepRunsTheFrontCommand :
    ({ parked with pending := [.gapTimeout .l1] } : State).pending = .gapTimeout .l1 :: [] ∧
    parked.pending = [] ∧ parked.validation = none ∧ (∀ n, parked.engine.pass ≠ some (.snapshotTaken n)) :=
  ⟨rfl, rfl, rfl, fun _ h => nomatch h⟩
theorem witness_ResetLowHoldsThePart :
    State.reset.resetLow = true ∧ Instr.baseIntervalExpiry ≠ .coldReset ∧ Instr.baseIntervalExpiry ≠ .resetNRelease := by
  decide
/-- A cold reset while row 22 is being programmed; row 12 is not, and row 12 staged with the programmer IDLE is not. -/
theorem witness_ColdResetSetsEveryBlock :
    (let st : StagedRow := ⟨22, .replicate 8 100⟩
     let s := stagedAt st .programming parked
     s.store.programmer = .programming ∧ s.store.stage = some st ∧ st.row < 23 ∧ 7 < 8 ∧ ¬beingWritten s.store 12) ∧
    ¬beingWritten (stagedAt staged12 .idle parked).store 12 := by
  refine ⟨⟨rfl, rfl, by decide, by decide, ?_⟩, ?_⟩
  · rintro ⟨-, st, h, hr⟩
    cases h
    cases hr
  · rintro ⟨h, -⟩
    cases h
theorem witness_ReleaseStartsValidation : State.reset.resetLow = true := rfl
/-- Right after the release, at row 0; and with every row taken. -/
theorem witness_ValidationDecidesEveryRow :
    (let s := after .resetNRelease State.reset
     s.resetLow = false ∧ s.pending = [] ∧ s.validation = some 0 ∧ s.engine.pass = none ∧ s.mode = .startup ∧
       s.store.programmer = .idle ∧ standsAfter s.store 0) ∧
    (let s := { parked with mode := .startup, validation := some 23 }
     s.resetLow = false ∧ s.pending = [] ∧ s.validation = some 23 ∧ s.engine.pass = none ∧ s.store.programmer = .idle ∧
       standsAfter s.store 23) := by
  refine ⟨⟨rfl, rfl, rfl, rfl, rfl, rfl, ?_⟩, rfl, rfl, rfl, rfl, rfl, ?_⟩
  all_goals
    unfold standsAfter
    decide +kernel
theorem witness_WarmRestartKeepsTripsAndHeat :
    (let s : State := { parked with restartDue := true }
     s.resetLow = false ∧ s.restartDue = true ∧ s.store.programmer = .idle) ∧
    parked.restartDue = false ∧ (stagedAt staged12 .programming { parked with restartDue := true }).store.programmer ≠ .idle :=
  ⟨⟨rfl, rfl, rfl⟩, rfl, by decide⟩
/-- A class-D latch, a class-P latch from level NONE, one from level P, a payload band that becomes 7, a raise of a latched
code, which is counted in its ACTIVE record, and no raise. -/
theorem witness_ExpiryStampAndStore :
    (let s := measured 1 0 driving
     s.resetLow = false ∧ l1Ends s ∧ newlyLatched s (after .baseIntervalExpiry s) .propLinkLost) ∧
    (let s := staleDemand 500 149 driving
     s.trips.level = .none ∧ newlyLatched s (after .baseIntervalExpiry s) .chassisLinkLost) ∧
    (let s := staleDemand 500 149 (tripped .overspeed driving)
     s.trips.level ≠ .none ∧ newlyLatched s (after .baseIntervalExpiry s) .chassisLinkLost) ∧
    (let s := intaken (fun i => { i with standstill := 49, demand := { i.demand with payload := 290 } }) (measured 3 0 driving)
     (after .baseIntervalExpiry s).intake.payload ≠ s.intake.payload ∧ 290 ≤ (after .baseIntervalExpiry s).intake.payload) ∧
    (let s := staleDemand 500 149 (tripped .chassisLinkLost driving)
     raisedAtExpiry s (after .baseIntervalExpiry s) .chassisLinkLost ∧ s.trips.latched.get .chassisLinkLost = true ∧
       (after .baseIntervalExpiry s).trips.faults = s.trips.faults.map (counted 1)) ∧
    (∀ c, ¬raisedAtExpiry driving (after .baseIntervalExpiry driving) c) := by
  unfold newlyLatched l1Ends
  refine ⟨by decide +kernel, by decide +kernel, by decide +kernel, by decide +kernel,
    ⟨⟨by decide +kernel, by decide +kernel⟩, by decide +kernel⟩, fun c => ?_⟩
  cases c <;> (unfold raisedAtExpiry l1Ends; decide +kernel)
theorem witness_ExpiryOnTheInverterLink :
    (parked.resetLow = false ∧ parked.intake.l1 ≠ .fresh) ∧
    ((measured 2 0 parked).resetLow = false ∧ (measured 2 0 parked).intake.l1 = .fresh ∧ 2 ≤ (measured 2 0 parked).intake.l1Count) ∧
    ((measured 1 0 parked).intake.l1 = .fresh ∧ (measured 1 0 parked).intake.l1Count ≤ 1 ∧
      (measured 1 0 parked).trips.latched.propLinkLost = false) := by decide +kernel
theorem witness_ExpiryOnTheChassisLink :
    (parked.resetLow = false ∧ parked.intake.l2 = .never) ∧
    ((demanded 2 parked).intake.l2 = .fresh ∧ 2 ≤ (demanded 2 parked).intake.l2Count) ∧
    ((demanded 1 parked).intake.l2 = .fresh ∧ (demanded 1 parked).intake.l2Count ≤ 1) ∧
    ((staleDemand 512 149 parked).intake.l2 = .stale ∧
      (staleDemand 512 149 parked).intake.fallback = some (fallbackAt 512) ∧
      l2Grace (staleDemand 512 149 parked).store.image ≤ (staleDemand 512 149 parked).intake.grace + 1 ∧
      (staleDemand 512 149 parked).present.chassisLinkLost = false) ∧
    (staleDemand 512 148 parked).intake.grace + 1 < l2Grace (staleDemand 512 148 parked).store.image := by decide +kernel
theorem witness_ExpiryHeatsTheGrid :
    (parked.resetLow = false ∧ parked.thermal.grid = none) ∧
    ((gridded (gridAt 10400 6000) parked).resetLow = false ∧
      (gridded (gridAt 10400 6000) parked).thermal.grid = some (gridAt 10400 6000)) ∧
    ((after .baseIntervalExpiry (gridded (gridAt 10400 6000) parked)).present.gridOvertemp = true ∧
      (gridded (gridAt 10400 6000) parked).present.gridOvertemp = false) := by decide +kernel
/-- Holds at 8 and 9; timers in IDLE, in BOOST before and at BOOST_A and above the band limit, in RECOVER before and at
BOOST_B with a reference band and without. -/
theorem witness_ExpiryRunsHoldsAndTimers :
    parked.resetLow = false ∧
    ((holding 8 ⟨.idle, 0, none⟩).hold = .holding ∧ (holding 8 ⟨.idle, 0, none⟩).holdCount + 1 < 10) ∧
    ((holding 9 ⟨.idle, 0, none⟩).hold = .holding ∧ 10 ≤ (holding 9 ⟨.idle, 0, none⟩).holdCount + 1) ∧
    ((live 125 ⟨.boost, 299, none⟩).boost.state = .boost ∧ boostA limpImage ≤ (live 125 ⟨.boost, 299, none⟩).boost.count + 1) ∧
    ((live 155 ⟨.boost, 298, none⟩).boost.count + 1 < boostA limpImage ∧
      ∀ x, (live 155 ⟨.boost, 298, none⟩).band = some x → x ≤ boostBandMax limpImage) ∧
    ((live 170 ⟨.boost, 298, none⟩).boost.count + 1 < boostA limpImage ∧ boostBandMax limpImage < 4 ∧
      (live 170 ⟨.boost, 298, none⟩).band = some 4) ∧
    (boostB limpImage ≤ (live 125 ⟨.recover, 1199, some 1⟩).boost.count + 1) ∧
    ((live 125 ⟨.recover, 1198, some 0⟩).boost.count + 1 < boostB limpImage ∧
      (live 125 ⟨.recover, 1198, some 0⟩).band = some 1 ∧ (live 125 ⟨.recover, 1198, some 0⟩).boost.reference = some 0) ∧
    ((live 125 ⟨.recover, 0, none⟩).band = some 1 ∧ (live 125 ⟨.recover, 0, none⟩).boost.reference = none) := by
  decide +kernel
theorem witness_ExpiryRunsPressureAndShortfall :
    parked.resetLow = false ∧
    (let s := measured 3 1000 (driving.withTraction { driving.traction with pressureCount := 19 })
     s.traction.pressureCount = 19 ∧ (after .baseIntervalExpiry s).traction.pressureCount = 20) ∧
    (after .baseIntervalExpiry driving).planner.shortfall = 0 ∧
    (let s := measured 3 6000 (driving.withEngine { driving.engine with
       grant := { driving.engine.grant with regime := .retard }, retardFraction := 1000, speedLimit := 2000 })
     let t := after .baseIntervalExpiry (s.withPlanner { s.planner with shortfall := 29 })
     let u := after .baseIntervalExpiry (s.withPlanner { s.planner with shortfall := 30 })
     t.planner.shortfall = 30 ∧ shortfallIntervals s.store.image = t.planner.shortfall ∧
       t.present.retardShortfall = true ∧ s.present.retardShortfall = false ∧
       u.planner.shortfall = 30 ∧ u.present.retardShortfall = false) := by decide +kernel
theorem witness_ExpiryTravelsThePlan :
    (parked.resetLow = false ∧ parked.planner.state ≠ .active) ∧
    (let s := measured 3 2352 (planned [segment 50, segment 1200] (75 * 2352) driving)
     s.planner.state = .active ∧ s.planner.queue = segment 50 :: [segment 1200] ∧
       progressed s .fresh < (segment 50).length * 3600) ∧
    (let s := measured 3 3600 (planned [segment 1] 0 driving)
     s.planner.state = .active ∧ s.planner.queue = segment 1 :: [] ∧ (segment 1).length * 3600 ≤ progressed s .fresh) := by
  decide +kernel
theorem witness_LinkEventsTakeTheirEffect :
    (let s := measured 1 0 driving
     s.resetLow = false ∧ s.intake.l1 = .fresh ∧ s.intake.l1Count ≤ 1 ∧ s.trips.latched.propLinkLost = false ∧
       (tripped .propLinkLost s).intake.l1 = .fresh ∧ (tripped .propLinkLost s).trips.latched.propLinkLost = true) ∧
    (let s := demanded 1 driving
     s.resetLow = false ∧ s.intake.l2 = .fresh ∧ s.intake.l2Count ≤ 1) ∧
    (let s := staleDemand 500 149 driving
     s.resetLow = false ∧ s.intake.l2 = .stale ∧ l2Grace s.store.image ≤ s.intake.grace + 1 ∧
       s.present.chassisLinkLost = false ∧ s.trips.latched.chassisLinkLost = false) := by decide +kernel
theorem witness_PressureAndShortfallEventsLatch :
    (let s := measured 3 50 (driving.withTraction { driving.traction with pressureCount := 19 })
     s.resetLow = false ∧ s.traction.pressureCount = 19 ∧ (demandInForce s.intake).pressure < steerMin s.store.image ∧
       isMoving s.intake = true ∧ s.trips.latched.steerPressureLow = false) ∧
    (let e := { driving.engine with
       grant := { driving.engine.grant with regime := .retard }, retardFraction := 1000, speedLimit := 2000 }
     let s := measured 3 2301 ((driving.withEngine e).withPlanner { driving.planner with shortfall := 29 })
     s.resetLow = false ∧ s.intake.l1 = .fresh ∧ s.engine.grant.regime = .retard ∧ s.engine.retardFraction = 1000 ∧
       s.engine.speedLimit + shortfallMargin s.store.image < refSpeedOr0 s.intake ∧
       s.planner.shortfall + 1 = shortfallIntervals s.store.image ∧ s.present.retardShortfall = false ∧ s.trips.latched.retardShortfall = false) := by decide +kernel
theorem witness_MotorEventsTakeTheirEffect :
    parked.resetLow = false ∧
    ((holding 9 ⟨.boost, 5, none⟩).hold = .holding ∧ 9 ≤ (holding 9 ⟨.boost, 5, none⟩).holdCount ∧
      (holding 9 ⟨.boost, 5, none⟩).boost.state = .boost ∧ boostBandMax parked.store.image < 7) ∧
    ((holding 9 ⟨.recover, 5, some 6⟩).boost.state = .recover ∧ (holding 9 ⟨.recover, 5, some 6⟩).boost.reference = some 6) ∧
    ((live 125 ⟨.boost, 299, none⟩).boost.state = .boost ∧
      boostA parked.store.image ≤ (live 125 ⟨.boost, 299, none⟩).boost.count + 1) ∧
    ((live 125 ⟨.recover, 1199, some 1⟩).boost.state = .recover ∧
      boostB parked.store.image ≤ (live 125 ⟨.recover, 1199, some 1⟩).boost.count + 1) := by decide +kernel
theorem witness_PlanAndServiceEventsTakeTheirEffect :
    (let s := measured 3 3600 (planned [segment 1] 0 driving)
     s.resetLow = false ∧ s.planner.state = .active ∧ s.planner.queue = segment 1 :: [] ∧
       (segment 1).length * 3600 ≤ progressed s s.intake.l1) ∧
    (parked.withStore { parked.store with lockout := some 1 }).store.lockout = some 1 ∧
    (let s := (accessed 1 0 parked).withStore { (accessed 1 0 parked).store with idleCount := 2999 }
     s.resetLow = false ∧ s.store.accessLevel ≠ 0 ∧ serviceIdle s.store.image ≤ s.store.idleCount + 1) := by decide +kernel
theorem witness_MarkerStartsAFrame : parked.resetLow = false ∧ parked.restartDue = false := ⟨rfl, rfl⟩
theorem witness_FrameErrorsAreCountedOnce :
    (let s := collecting .l2 2 parked
     s.resetLow = false ∧ (s.port .l2).receive = .addressed 2 ∧ 48 < (49 : Byte).toNat ∧
       (List.replicate 48 (0 : Byte)).length ≤ 48 ∧
       byteSum (2 :: 0x20 :: BitVec.ofNat 8 48 :: (List.replicate 48 0 ++ [0])) ≠ 0) := by decide +kernel
theorem witness_BreaksResynchroniseThePort :
    parked.resetLow = false ∧
    (∃ r, ((parked.withPort .l1 ⟨.replying ⟨1, 0x11, ⟨.ok, []⟩⟩, .zero⟩).port .l1).receive = .replying r) ∧
    (∀ r, (parked.port .l1).receive ≠ .replying r) :=
  ⟨rfl, ⟨_, rfl⟩, fun _ h => nomatch h⟩
theorem witness_UnknownCodesAndRepliesSent :
    (listens (collecting .l3 64 parked) .l3 64 ∧ (0x10 : Byte) ∉ listedCodes .l3 ∧ (List.replicate 48 (0 : Byte)).length ≤ 48) ∧
    ((parked.withPort .l2 ⟨.replyPending 2 0x20 (some ⟨.ok, []⟩), .zero⟩).port .l2).receive =
      .replyPending 2 0x20 (some ⟨.ok, []⟩) ∧
    (((parked.withPort .l2 ⟨.replying ⟨2, 0x3A, ⟨.ok, []⟩⟩, .zero⟩).port .l2).receive = .replying ⟨2, 0x3A, ⟨.ok, []⟩⟩ ∧
      ¬(PortId.l2 = .l3)) ∧
    (parked.withPort .l3 ⟨.replying ⟨64, 0x3A, ⟨.ok, []⟩⟩, .zero⟩).portL3.receive = .replying ⟨64, 0x3A, ⟨.ok, []⟩⟩ ∧
    ({ parked with restartDue := true } : State).restartDue = true := by
  refine ⟨⟨⟨rfl, rfl⟩, by decide, by decide⟩, rfl, ⟨rfl, by decide⟩, rfl, rfl⟩
/-- Lengths on both sides of each bound: 22 and 24 for MEASURE, 43 for PLAN_APPEND, 3 and 20 for ROW_STAGE. -/
theorem witness_WrongLengthsAreRefused :
    (((collecting .l1 1 parked).port .l1).receive = .addressed 1 ∧ (0x10 : Byte) ∈ listedCodes .l1 ∧
      ¬cataloguedLength 0x10 22 ∧ ¬cataloguedLength 0x10 24) ∧
    ((0x21 : Byte) ∈ listedCodes .l2 ∧ ¬cataloguedLength 0x21 0 ∧ ¬cataloguedLength 0x21 43 ∧ ¬cataloguedLength 0x21 48 ∧
      driving.mode ≠ .startup) ∧
    ((0x33 : Byte) ∈ listedCodes .l3 ∧ ¬cataloguedLength 0x33 3 ∧ ¬cataloguedLength 0x33 20) ∧
    48 < (List.replicate 49 (0 : Byte)).length ∧ (∀ a, (parked.port .l1).receive ≠ .addressed a) := by
  refine ⟨⟨rfl, by decide, ?_, ?_⟩, ⟨by decide, ?_, ?_, ?_, by decide⟩, ⟨by decide, ?_, ?_⟩, by decide, fun _ h => nomatch h⟩
  all_goals unfold cataloguedLength; decide
theorem witness_ReadsChangeNothing :
    listens (collecting .l1 1 parked) .l1 1 ∧ listens (collecting .l2 2 parked) .l2 2 ∧
    listens (collecting .l3 64 parked) .l3 64 ∧ PortId.l3 ≠ .l1 ∧
    (let s := collecting .l2 2 { parked with mode := .startup }
     listens s .l2 2 ∧ (List.replicate 48 (0 : Byte)).length ≤ 48 ∧ s.mode = .startup) :=
  ⟨⟨rfl, rfl⟩, ⟨rfl, rfl⟩, ⟨rfl, rfl⟩, by decide, ⟨rfl, rfl⟩, by decide, rfl⟩
theorem witness_FaultAckLogoutAndRestart :
    (listens (collecting .l3 64 (accessed 1 0 parked)) .l3 64 ∧ 1 ≤ (accessed 1 0 parked).store.accessLevel) ∧
    (listens (collecting .l3 64 parked) .l3 64 ∧ parked.store.accessLevel = 0) := ⟨⟨⟨rfl, rfl⟩, by decide⟩, ⟨rfl, rfl⟩, rfl⟩
theorem witness_AccessJudgesTheCode :
    (listens (collecting .l3 64 (coded parked)) .l3 64 ∧ (0 : Byte) ≠ 1 ∧ (0 : Byte) ≠ 2 ∧ (3 : Byte) ≠ 1 ∧ (3 : Byte) ≠ 2) ∧
    (parked.withStore { parked.store with lockout := some 1 }).store.lockout.isSome = true ∧
    (parked.store.lockout = none ∧ rowIsLimp parked.store.image 22 = true) ∧
    ((coded parked).store.lockout = none ∧ rowIsLimp (coded parked).store.image 22 = false) := by
  refine ⟨⟨⟨rfl, rfl⟩, by decide⟩, rfl, ⟨rfl, rfl⟩, ⟨rfl, rfl⟩⟩
/-- One value and eight values, from entries 0 and 7, of row 22; and each refusal. -/
theorem witness_RowStageFillsTheBuffer :
    (let s := collecting .l3 64 (accessed 2 0 parked)
     listens s .l3 64 ∧ s.mode ≠ .startup ∧ s.store.programmer = .idle ∧ (22 : Byte).toNat ≤ 22 ∧ (7 : Byte).toNat ≤ 7 ∧
       (if (22 : Byte).toNat ∈ [12, 15, 16] then 1 else 2) ≤ s.store.accessLevel) ∧
    (1 ≤ ([5] : List Word).length ∧ (List.replicate 8 (0 : Word)).length ≤ 8) ∧
    (stagedAt staged12 .programming parked).store.programmer ≠ .idle ∧
    (22 < (23 : Byte).toNat ∧ 7 < (8 : Byte).toNat) ∧
    parked.store.accessLevel < (if (12 : Byte).toNat ∈ [12, 15, 16] then 1 else 2) ∧
    (∀ j, j < 1 → (7 + j) % 8 ≠ 0) ∧
    ((stagedAt staged12 .idle parked).store.stage = some staged12 ∧ staged12.row = (12 : Byte).toNat) := by
  refine ⟨⟨⟨rfl, rfl⟩, ?_⟩, ?_⟩ <;> decide +kernel
/-- Each check of a commit of row 12 failing in its turn, a row out of range, and the commit that passes. -/
theorem witness_RowCommitIsJudgedInOrder :
    listens (collecting .l3 64 { parked with mode := .startup }) .l3 64 ∧
    (∀ st, parked.store.stage = some st → st.row ≠ (12 : Byte).toNat) ∧
    (let s := stagedAt staged12 .idle (accessed 0 40 parked)
     s.mode ≠ .startup ∧ s.store.stage = some staged12 ∧ staged12.row = (12 : Byte).toNat ∧
       s.store.accessLevel < (if staged12.row ∈ [12, 15, 16] then 1 else 2)) ∧
    ¬((stagedAt staged12 .idle (accessed 1 9 parked)).mode = .parked ∧
      10 ≤ (stagedAt staged12 .idle (accessed 1 9 parked)).intake.standstill) ∧
    ¬(rangePasses 12 (#v[128, 0, 0, 0, 0, 0, 0, 0] : Row) = true) ∧
    (let s := stagedAt staged12 .idle (accessed 1 10 parked)
     (if staged12.row ∈ [12, 15, 16] then 1 else 2) ≤ s.store.accessLevel ∧ s.mode = .parked ∧ 10 ≤ s.intake.standstill ∧
       rangePasses staged12.row staged12.entries = true ∧ s.store.programmer = .idle) ∧
    pairHolds parked.store.image staged12.row staged12.entries ∧
    (stagedAt staged12 .swapPending parked).store.programmer ≠ .idle := by
  refine ⟨⟨rfl, rfl⟩, fun _ h => (by cases h), by decide +kernel, by decide +kernel, by decide +kernel, by decide +kernel,
    ?_, by decide⟩
  exact ⟨fun h => absurd h (by decide), fun _ h => absurd h (by decide)⟩
theorem witness_ProgramVerifyDecides :
    (let s := stagedAt staged12 .programming parked
     s.resetLow = false ∧ s.store.programmer = .programming ∧ s.store.stage = some staged12 ∧ staged12.row < 23 ∧
       s.mode = .parked ∧ s.engine.pass = none) ∧
    ((none : Option NvRow).getD ⟨staged12.entries, checkWord staged12.row staged12.entries⟩).entries = staged12.entries ∧
    ((some erasedRow).getD ⟨staged12.entries, checkWord staged12.row staged12.entries⟩).entries ≠ staged12.entries ∧
    ¬((inFlight parked).mode = .parked ∧ (inFlight parked).engine.pass = none) ∧
    (let st : StagedRow := ⟨18, limpRow 18⟩
     (stagedAt st .programming parked).store.stage = some st ∧ st.row = 18) := by decide +kernel
theorem witness_DemandIsTaken :
    listens (collecting .l2 2 parked) .l2 2 ∧ (demandPayload 1 200 0).length = 14 := ⟨⟨rfl, rfl⟩, rfl⟩
/-- A plan that REVERSE abandons, a head re-formed by a payload, a payload left alone, and a swap made at the entry to
PARKED. -/
theorem witness_DemandHandsOn :
    (let s := collecting .l2 2 (planned [segment 50] 0 (measured 3 0 driving))
     let t := after (.demand (demandPayload 2 200 0)) s
     listens s .l2 2 ∧ s.planner.state = .active ∧ t.intake.direction = .reverse ∧ s.intake.direction ≠ .reverse) ∧
    (let s := collecting .l2 2 (accessed 0 50 (planned [segment 50] 0 (measured 3 0 driving)))
     let t := after (.demand (demandPayload 1 200 0)) s
     s.planner.state = .active ∧ t.intake.direction ≠ .reverse ∧ s.planner.queue = segment 50 :: [] ∧
       t.intake.payload ≠ s.intake.payload) ∧
    (let s := collecting .l2 2 (planned [segment 50] 0 driving)
     (after (.demand (demandPayload 1 200 0)) s).intake.payload = s.intake.payload) ∧
    (let s := collecting .l2 2 (stagedAt staged12 .swapPending (measured 3 0 driving))
     let t := after (.demand (demandPayload 0 200 1)) s
     s.mode ≠ .parked ∧ t.mode = .parked ∧ s.store.programmer = .swapPending ∧ s.store.stage = some staged12 ∧
       staged12.row < 23 ∧ s.engine.pass = none) := by
  refine ⟨⟨⟨rfl, rfl⟩, ?_⟩, ?_, ?_, ?_⟩ <;> decide +kernel
/-- Segments at both ends of each range of R110, one outside, a full queue, and STARTUP. -/
theorem witness_PlanAppendIsAllOrNothing :
    (let low : Carried := (1, BitVec.ofInt 16 (-200), 300, 0)
     let high : Carried := (5000, 200, 7000, 2)
     let bad : Carried := (5001, 0, 300, 1)
     listens (collecting .l2 2 driving) .l2 2 ∧ driving.mode ≠ .startup ∧ carriedInRange low ∧ carriedInRange high ∧
       ¬carriedInRange bad ∧ 1 ≤ [low].length ∧ (List.replicate 6 high).length ≤ 6 ∧
       16 < (List.replicate 11 (segment 50)).length + (List.replicate 6 high).length ∧
       (List.replicate 10 (segment 50)).length + (List.replicate 6 high).length ≤ 16) ∧
    ((List.replicate 48 (0 : Byte)).length ≤ 48 ∧ ({ parked with mode := .startup } : State).mode = .startup) := by
  refine ⟨⟨⟨rfl, rfl⟩, ?_⟩, ?_⟩
  · unfold carriedInRange
    decide
  · decide
theorem witness_PlanStartAndClear :
    (let s := collecting .l2 2 (intaken (fun i => { i with direction := .forward })
       (driving.withPlanner { driving.planner with queue := [segment 50], state := .loaded }))
     listens s .l2 2 ∧ s.mode ≠ .startup ∧ s.planner.state = .loaded ∧ s.intake.direction = .forward ∧
       s.planner.queue = segment 50 :: []) ∧
    ¬(driving.planner.state = .loaded ∧ driving.intake.direction = .forward) := by
  refine ⟨⟨⟨rfl, rfl⟩, ?_⟩, ?_⟩ <;> decide +kernel
theorem witness_TripClearUnlatchesWhatHasGone :
    (let s := collecting .l2 2 (accessed 0 10 (tripped .overspeed driving))
     listens s .l2 2 ∧ 10 ≤ s.intake.standstill ∧ s.intake.demand.throttle = 0 ∧
       (∃ r, s.trips.faults[0]? = some r ∧ s.trips.latched.get r.code = true ∧ gone s r.code)) ∧
    (let s := accessed 0 10 (tripped .propLinkLost driving)
     ∃ r, s.trips.faults[0]? = some r ∧ ¬gone s r.code) ∧
    ¬(10 ≤ (accessed 0 9 driving).intake.standstill ∧ (accessed 0 9 driving).intake.demand.throttle = 0) := by
  refine ⟨⟨⟨rfl, rfl⟩, by decide +kernel, by decide +kernel, _, rfl, rfl, trivial⟩, ⟨_, rfl, ?_⟩, by decide +kernel⟩
  intro h
  cases h
/-- A class-D latch by an overvoltage, a class-P latch by overspeed alone, and a MEASURE that latches nothing. -/
theorem witness_MeasureIsTaken :
    listens (collecting .l1 1 driving) .l1 1 ∧ (measurePayload 0 0 0).length = 23 ∧
    (let s := collecting .l1 1 driving
     let volts := signedBytes 2140
     let t := after (.measure ((measurePayload 0 0 0).take 18 ++ volts ++ (measurePayload 0 0 0).drop 20)) s
     TripCode.dcLinkOvervolt.classD = true ∧ s.trips.latched.get .dcLinkOvervolt = false ∧
       t.trips.latched.get .dcLinkOvervolt = true) ∧
    (let s := collecting .l1 1 driving
     let t := after (.measure (measurePayload 6001 0 0)) s
     s.trips.level = .none ∧ newlyLatched s t .overspeed ∧ ∀ c ∈ allCodes, c.classD = true → t.trips.latched.get c = false) ∧
    (let s := collecting .l1 1 (tripped .overspeed driving)
     let t := after (.measure (measurePayload 6001 0 0)) s
     raisedAtMeasure s t .overspeed ∧ s.trips.latched.get .overspeed = true ∧
       t.trips.faults = s.trips.faults.map (counted 0)) ∧
    (let s := collecting .l1 1 driving
     ∀ c, ¬raisedAtMeasure s (after (.measure (measurePayload 0 0 0)) s) c) := by
  unfold newlyLatched
  refine ⟨⟨rfl, rfl⟩, rfl, ?_, ?_, ⟨⟨by decide +kernel, by decide +kernel⟩, by decide +kernel⟩, fun c => ?_⟩
  · decide +kernel
  · decide +kernel
  · cases c <;> (unfold raisedAtMeasure; decide +kernel)
theorem witness_MeasureFeedsTheThermalMonitor :
    listens (collecting .l1 1 (planned [segment 50] 0 driving)) .l1 1 ∧ (measurePayload 2352 0 0).length = 23 ∧
    (planned [segment 50] 0 driving).planner.state = .active ∧
    (planned [segment 50] 0 driving).planner.queue = segment 50 :: [] ∧ parked.planner.state ≠ .active :=
  ⟨⟨rfl, rfl⟩, rfl, rfl, rfl, by decide⟩
/-- File 03's limits at a grant of −369: in excess below −519 and above 150, compliant at both; and STARTUP. -/
theorem witness_MeasureSupervisesTorque :
    listens (collecting .l1 1 driving) .l1 1 ∧ (measurePayload 0 (-520) 151).length = 23 ∧ driving.mode ≠ .startup ∧
    ((-369 : Int) < 0 ∧ ((-520 : Int) < -369 - (150 : Nat) ∨ ((150 : Nat) : Int) < -520)) ∧
    ¬((-519 : Int) < -369 - (150 : Nat) ∨ ((150 : Nat) : Int) < -519) ∧
    tqTol driving.store.image = 150 ∧
    (let s := collecting .l1 1 (driving.withEngine { driving.engine with excess := ⟨4, 0⟩ })
     let t := after (.measure (measurePayload 0 (-520) 0)) s
     s.trips.latched.get .torqueExcessL = false ∧ t.trips.latched.get .torqueExcessL = true) ∧
    (let s := collecting .l1 1 (tripped .torqueExcessL (driving.withEngine { driving.engine with excess := ⟨4, 0⟩ }))
     let t := after (.measure (measurePayload 0 (-520) 0)) s
     s.trips.latched.get .torqueExcessL = true ∧ t.engine.excess.left = 5 ∧
       ∃ r ∈ s.trips.faults, r.code = .torqueExcessL ∧ r.cleared = false ∧ counted s.stamp r ∈ t.trips.faults) ∧
    ({ parked with mode := .startup } : State).mode = .startup := by
  refine ⟨⟨rfl, rfl⟩, rfl, by decide, by decide, by decide, by decide +kernel, by decide +kernel, by decide +kernel, rfl⟩
/-- STARTUP, no pass, a pass in flight; and a pass with its stages to run, one whose wheels enter BOOST and one whose do
not. -/
theorem witness_MeasureStartsOrHoldsThePass :
    listens (collecting .l1 1 driving) .l1 1 ∧ (measurePayload 0 0 0).length = 23 ∧
    ({ parked with mode := .startup } : State).mode = .startup ∧ (driving.mode ≠ .startup ∧ driving.engine.pass = none) ∧
    ((inFlight driving).mode ≠ .startup ∧ (inFlight driving).engine.pass ≠ none) ∧
    (let s := snapshotted 950 (motored (live 125 ⟨.idle, 0, none⟩) (peaked driving))
     s.resetLow = false ∧ s.pending = [] ∧ s.validation = none ∧
       ∃ n, s.engine.pass = some (.snapshotTaken n) ∧ entersBoost n s .left = true ∧ entersBoost n s .right = false) := by
  refine ⟨⟨rfl, rfl⟩, rfl, rfl, ⟨by decide, rfl⟩, ⟨by decide, by decide⟩, rfl, rfl, rfl, _, rfl, ?_, ?_⟩ <;> decide +kernel
/-- A swap that waits in PARKED, no swap in DRIVE, no held MEASURE with the reply owed and with none owed, and a held
one. -/
theorem witness_PassCompletionWritesTheGrant :
    ((inFlight driving).resetLow = false ∧ (inFlight driving).engine.pass = some (.computed work)) ∧
    (let s := inFlight (stagedAt staged12 .swapPending parked)
     s.store.programmer = .swapPending ∧ s.mode = .parked ∧ s.store.stage = some staged12 ∧ staged12.row < 23 ∧
       staged12.row ≠ 18) ∧
    ¬(driving.store.programmer = .swapPending ∧ driving.mode = .parked) ∧
    (driving.heldMeasure = none ∧
      (driving.withPort .l1 ⟨.replyPending 1 0x10 none, .zero⟩).portL1.receive = .replyPending 1 0x10 none) ∧
    (∀ a c, driving.portL1.receive ≠ .replyPending a c none) ∧
    (((measured 3 0 (inFlight driving)).withHeldMeasure (some (measurePayload 0 0 0))).heldMeasure =
        some (measurePayload 0 0 0) ∧
      (measured 3 0 (inFlight driving)).intake.measurement = some (record 0)) ∧
    (∃ n, (snapshotted 950 driving).engine.pass = some (.snapshotTaken n)) := by
  refine ⟨by decide +kernel, by decide +kernel, by decide +kernel, ⟨rfl, rfl⟩, fun _ _ h => (by cases h), ⟨rfl, rfl⟩, _, rfl⟩
theorem witness_SpeedLimitIsTheSmallestSource :
    applies (takeSnapshot (record 0) driving) .none 7000 ∧ applies (takeSnapshot (record 0) driving) .payload 5500 ∧
    applies (takeSnapshot (record 0) driving) .limp 2000 := by
  refine ⟨rfl, ?_, ?_, ?_⟩
  · show 5500 = speedCap _ _
    decide +kernel
  · decide +kernel
  · show 2000 = limpSpeed _
    decide +kernel
theorem witness_PowerBudgetHolds :
    (let p : Both Nat := ⟨wheelPower limpImage 799 2140, wheelPower limpImage 950 2260⟩
     p.left + p.right ≤ 2506 ∧ 2505 < p.left + p.right) := by decide
theorem witness_RaiseOfALatchedCodeMerges :
    (let s := tripped .overspeed driving
     s.trips.latched.get .overspeed = true ∧
       ∃ r, s.trips.faults[0]? = some r ∧ r.code = .overspeed ∧ r.cleared = false) ∧
    (let s := tripped .chassisLinkLost (tripped .overspeed driving)
     ∃ r, s.trips.faults[1]? = some r ∧ ¬(r.code = .overspeed ∧ r.cleared = false)) := by
  refine ⟨⟨by decide +kernel, _, rfl, rfl, rfl⟩, _, rfl, by decide⟩
/-- A completion, an expiry, the end of validation, an ACCESS, a TRIP_CLEAR, a verify and a swap: each changes its
own. -/
theorem witness_OnlyTheirCommandsChange :
    (∃ t, exec (.passCompletion false) (inFlight driving) = .next t ∧ t.engine.grant.sequence ≠ 0) ∧
    (∃ t, exec .baseIntervalExpiry driving = .next t ∧ t.stamp ≠ driving.stamp) ∧
    (∃ t, exec .validationComplete (after .resetNRelease State.reset) = .next t ∧ t.mode ≠ .startup) ∧
    (∃ t, exec (.access [1, 0, 1, 0, 2]) (collecting .l3 64 (coded parked)) = .next t ∧ 0 < t.store.accessLevel) ∧
    (∃ t, exec (.tripClear []) (collecting .l2 2 (accessed 0 10 (tripped .overspeed driving))) = .next t ∧
      t.trips.latched.get .overspeed = false) ∧
    (∃ t, exec (.programVerify none) (stagedAt staged12 .programming parked) = .next t ∧
      imageRow t.store.image 12 ≠ limpRow 12 ∧ nvRow t.store 12 ≠ erasedRow) :=
  ⟨⟨_, rfl, by decide +kernel⟩, ⟨_, rfl, by decide +kernel⟩, ⟨_, rfl, by decide +kernel⟩, ⟨_, rfl, by decide +kernel⟩,
    ⟨_, rfl, by decide +kernel⟩, ⟨_, rfl, by decide +kernel⟩⟩
theorem witness_FramesReadBack :
    WellFormed (.rowStage (List.replicate 48 0)) = true ∧
    frameOf (.rowStage (List.replicate 48 0)) = some (.l3, 0x33, List.replicate 48 0) ∧
    (encodeFrame 254 (.rowStage (List.replicate 48 0))).isSome = true ∧
    (requestLine 254 (.rowStage (List.replicate 48 0))).isSome = true ∧
    hasItsBits true 0x81 (writeCharacter true 0x81) ∧ hasItsBits false 0xFF (writeCharacter false 0xFF) ∧
    (let broken : Character := #v[.space, .space, .space, .space, .space, .space, .space, .space, .space, .mark, .space]
     broken[0] = .space ∧ broken[10] = .space ∧ ∃ l ∈ broken.toList, l = .mark) ∧
    (let held : Character := .replicate 11 .space
     held[0] = .space ∧ held[10] = .space ∧ ∀ l ∈ held.toList, l = .space) ∧
    (Vector.replicate 11 Level.mark)[0] = .mark ∧
    decodeFrame .l1 1 ([0x11, 0] ++ [0xEE]) = some (.grantRead []) ∧ decodeFrame .l1 1 ([0x11] ++ [0]) = none := by
  unfold hasItsBits
  decide +kernel
theorem witness_CheckWordBindsARowToItsPlace :
    checkPasses 15 ⟨limpRow 15, 32680⟩ = true ∧ 15 < 23 ∧ 22 < 23 ∧ 15 ≠ 22 := by decide
theorem witness_StagesThreeToEightFormTheTorques :
    ((0 : Int) < 369 ∧ (0 : Int) ≤ 0) ∧ ((0 : Int) < 1 ∧ (-1 : Int) < 0) ∧ ((-369 : Int) < 0 ∧ (-340 : Int) ≤ 0) ∧
    ((-1 : Int) < 0 ∧ (0 : Int) < 1) := by decide

/-! Witnesses of the invariants: a state at the edge of the promise, with a command that a step takes. -/

/-- `s` with one command waiting. -/
def waiting (c : Instr) (s : State) : State := s.withPending [c]

/-- A class-D trip stands, and a TRIP_CLEAR waits. -/
theorem witness_StepKeepsTheLine :
    lineSound (waiting (.tripClear []) (tripped .propLinkLost driving)) ∧
    ∃ t, step (waiting (.tripClear []) (tripped .propLinkLost driving)) = .next t := by
  refine ⟨⟨⟨?_, ?_⟩, ?_, fun _ => rfl⟩, _, rfl⟩
  · exact ⟨fun _ => ⟨.propLinkLost, rfl, rfl⟩, fun _ => rfl⟩
  · exact ⟨fun h => (by cases h), fun h => absurd (h .propLinkLost) (by decide +kernel)⟩
  · decide +kernel

/-- DRIVE with the greatest torque, a payload one tonne below band 7 and a hold setpoint at its end. -/
def pulling : State :=
  waiting .baseIntervalExpiry
    (intaken (fun i => { i with payload := 289, demand := { i.demand with park := false, hold := some 7000 } })
      (measured 1 7000 (driving.withEngine { driving.engine with
        grant := { driving.engine.grant with torque := ⟨1600, 1⟩, propelLimit := ⟨1600, 1⟩, regime := .propel } })))

theorem pulling_line : lineSound pulling := by
  refine ⟨⟨⟨fun h => (by cases h), fun ⟨c, _, h⟩ => (by cases c <;> cases h)⟩, ⟨fun _ c => by cases c <;> rfl, fun _ => rfl⟩⟩,
    ?_, fun h => (by cases h)⟩
  decide +kernel

theorem pulling_record : measurementSound (record 7000) := by
  refine ⟨fun w => ?_, by decide, fun w => ?_, fun w => ?_, by decide, by decide, by decide, by decide, by decide, by decide⟩ <;>
    cases w <;> decide

theorem pulling_intake : intakeSound pulling.intake := by
  refine ⟨⟨by decide, by decide, by decide, by decide, by decide, by decide, ?_⟩, ?_, ?_, ?_, ?_, ?_, ?_, ?_, ?_, ?_, ?_⟩
  · intro h e
    cases e
    decide
  · intro m e
    cases e
    exact pulling_record
  · intro f e
    cases e
  all_goals decide +kernel

theorem witness_StepKeepsPropelWithheld :
    propelSound pulling ∧ lineSound pulling ∧ intakeSound pulling.intake ∧ ∃ t, step pulling = .next t :=
  ⟨fun _ _ => ⟨rfl, rfl, by decide +kernel, rfl, rfl⟩, pulling_line, pulling_intake, _, rfl⟩

/-- A full plan whose progress is one unit short of its HEAD's end. -/
theorem witness_StepKeepsThePlan : planSound (planned (List.replicate 16 (segment 5000)) 17999999 driving).planner := by
  refine ⟨by decide +kernel, ?_, ⟨segment 5000, _, _, rfl, by decide +kernel, rfl, ?_⟩, by decide, by decide⟩
  · intro seg h
    rw [List.eq_of_mem_replicate h]
    unfold segmentSound segment
    decide
  · unfold headSound segment
    decide

theorem limpRows_pass : ∀ r, r < 23 → rangePasses r (imageRow limpImage r) = true := by decide +kernel
theorem limpPairs_agree : ∀ k, k < 4 → pairAgrees (imageRow limpImage k) (imageRow limpImage (k + 4)) = true := by
  decide +kernel

/-- A program of row 12 under way in PARKED, over the LIMP tables. -/
theorem witness_StepKeepsTheTables : tablesSound (stagedAt staged12 .programming parked) := by
  refine ⟨⟨by decide +kernel, fun h => (by cases h)⟩, ⟨limpRows_pass, fun k hk _ => limpPairs_agree k hk⟩, ?_, ?_⟩
  · refine ⟨fun st h => ?_, fun _ => ⟨staged12, rfl, by decide +kernel⟩⟩
    cases h
    decide
  · exact ⟨fun h => h.elim, fun h => (by cases h)⟩

/-- An accepted RESTART whose warm restart is due, over the LIMP tables. -/
theorem witness_StepKeepsTheTables_restart : tablesSound { parked with restartDue := true } :=
  ⟨⟨by decide +kernel, fun h => (by cases h)⟩, ⟨limpRows_pass, fun k hk _ => limpPairs_agree k hk⟩,
    ⟨fun _ h => (by cases h), fun h => absurd rfl h⟩, fun h => h.elim, fun _ => ⟨rfl, rfl⟩⟩

theorem pulling_counters : countersSound (inFlight pulling) := by
  refine ⟨?_, ?_, ?_, by decide, by decide, fun w => ?_, by decide, fun w => ?_, by decide, fun _ h => (by cases h), by decide,
    by decide, by decide, by decide, by decide, by decide, fun _ h => (by cases h), by decide⟩
  case refine_4 => cases w <;> decide
  case refine_5 => cases w <;> decide
  all_goals
    unfold portSound
    decide +kernel

theorem pulling_plan : planSound pulling.planner :=
  ⟨by decide, fun _ h => (by cases h), ⟨rfl, rfl, rfl⟩, by decide, by decide⟩

theorem pulling_tables : tablesSound (inFlight pulling) :=
  ⟨⟨by decide +kernel, fun h => (by cases h)⟩, ⟨limpRows_pass, fun k hk _ => limpPairs_agree k hk⟩,
    ⟨fun _ h => (by cases h), fun h => absurd rfl h⟩, fun h => h.elim, fun h => (by cases h)⟩

theorem pulling_derates : deratesSound pulling.thermal := ⟨by decide, fun w => by cases w <;> decide⟩

theorem pulling_ranges : grantRanges (inFlight pulling).engine := by
  refine ⟨fun w => ?_, by decide, by decide, by decide, by decide, fun p h => ?_, fun _ h => (by cases h)⟩
  · cases w <;> exact ⟨by decide, by decide⟩
  · cases h
    exact ⟨fun w => (by cases w <;> decide), by decide, by decide⟩

/-- A wheel without a reading, its BOOST TIMER IDLE. -/
theorem restingMotor_sound : motorSound (Motor.afterReset .afterReset) := by
  refine ⟨by decide, by decide, by decide, by decide, by decide, fun _ e => (by cases e), by decide, by decide, by decide,
    by decide, by decide, fun _ e => (by cases e)⟩

theorem pulling_thermal : thermalSound pulling.thermal :=
  ⟨fun _ e => (by cases e), fun _ => rfl, fun w => by cases w <;> exact restingMotor_sound⟩

/-- A voltage at its end, and every other figure of a FAULT RECORD at an end. -/
theorem extremeRecords_sound :
    recordSound ⟨.dcLinkOvervolt, false, 2, 2, 1, 0, none, some 65535⟩ ∧
    recordSound ⟨.overspeed, true, 0, 0xFFFFFFFF, 255, 7000, some (-50), some (-32768)⟩ := by
  refine ⟨⟨by decide, by decide, by decide, fun x h => (by cases h), fun x h => ?_⟩,
    ⟨by decide, by decide, by decide, fun x h => ?_, fun x h => ?_⟩⟩ <;> cases h <;> decide

/-- A full FAULT LIST: 15 CLEARED records and one ACTIVE one. -/
def fullTrips : Trips :=
  { latched := TripMarks.clear.set .dcLinkOvervolt true, level := .d
    faults := List.replicate 15 ⟨.overspeed, true, 0, 0xFFFFFFFF, 255, 7000, some (-50), some (-32768)⟩ ++
      [⟨.dcLinkOvervolt, false, 2, 2, 1, 0, none, some 65535⟩]
    overflow := 255 }

theorem fullTrips_sound : faultsSound fullTrips := by
  refine ⟨by decide, fun c => by cases c <;> decide, fun r h => ?_⟩
  rcases List.mem_append.1 h with h | h
  · exact List.eq_of_mem_replicate h ▸ extremeRecords_sound.2
  · exact List.mem_singleton.1 h ▸ extremeRecords_sound.1

theorem witness_StepKeepsTheFaultList :
    faultsSound fullTrips ∧ intakeSound pulling.intake ∧ thermalSound pulling.thermal :=
  ⟨fullTrips_sound, pulling_intake, pulling_thermal⟩

/-- The truck pulling, for the records; FAULT RECORDS with every figure at an end. -/
theorem witness_RecordsReadBack :
    (List.replicate 48 (0 : Byte)).length ≤ 48 ∧
    (∀ w, -1600 ≤ pulling.engine.grant.torque.get w ∧ pulling.engine.grant.torque.get w ≤ 1600 ∧
      pulling.engine.grant.propelLimit.get w ≤ 1600 ∧ pulling.engine.grant.retardLimit.get w ≤ 1600) ∧
    pulling.engine.grant.speedLimit ≤ 7000 ∧ (∀ r ∈ fullTrips.faults, recordSound r) ∧
    (let s := { inFlight pulling with trips := fullTrips }
     intakeSound s.intake ∧ thermalSound s.thermal ∧ deratesSound s.thermal ∧ planSound s.planner ∧ grantRanges s.engine ∧
       countersSound s ∧ faultsSound s.trips ∧ programmerSound s.store ∧ s.intake.measurement = some (record 7000)) := by
  refine ⟨by decide, fun w => by cases w <;> decide, by decide, fullTrips_sound.2.2, pulling_intake, pulling_thermal,
    pulling_derates, pulling_plan, pulling_ranges, ?_, fullTrips_sound, pulling_tables.2.2.1, rfl⟩
  exact ⟨pulling_counters.1, pulling_counters.2.1, pulling_counters.2.2.1, by decide, pulling_counters.2.2.2.2⟩

/-- Torques at their limits, with a pass in flight. -/
theorem witness_StepKeepsTorquesWithinLimits : grantSound (inFlight pulling).engine ∧ countersSound (inFlight pulling) := by
  refine ⟨⟨fun w => ?_, fun p h w => ?_⟩, pulling_counters⟩
  · cases w <;> exact ⟨by decide, by decide⟩
  · cases h
    cases w <;> exact ⟨by decide, by decide⟩

/-- A pass that has run its stages, and one that has its snapshot alone. -/
theorem witness_StepKeepsLimitsInRange :
    (grantRanges (inFlight pulling).engine ∧ deratesSound pulling.thermal ∧ tablesSound (inFlight pulling) ∧
      planSound pulling.planner ∧ intakeSound pulling.intake) ∧
    grantRanges (snapshotted 1000 pulling).engine := by
  refine ⟨⟨pulling_ranges, pulling_derates, pulling_tables, pulling_plan, pulling_intake⟩, fun w => ?_, by decide, by decide,
    by decide, by decide, fun _ h => (by cases h), fun n h => ?_⟩
  · cases w <;> exact ⟨by decide, by decide⟩
  · cases h
    exact ⟨by decide, fun w => by cases w <;> decide, by decide +kernel, by decide, by decide, fun _ e => (by cases e),
      limpRows_pass⟩

/-- A pass in flight, a held MEASURE and a reply that waits for it. -/
theorem witness_StepKeepsPassesAndCounters :
    (let s := ((inFlight pulling).withHeldMeasure (some (measurePayload 0 0 0))).withPort .l1
       ⟨.replyPending 1 0x10 none, ⟨65535, 65535, 65535, 65535, 65535, 65535, 65535⟩⟩
     passSound s ∧ countersSound s ∧ tablesSound s) := by
  refine ⟨⟨fun _ => rfl, fun _ => rfl, fun _ _ _ => rfl, fun _ _ h => (by cases h), fun _ _ h => (by cases h)⟩, ?_, ?_⟩
  · refine ⟨?_, pulling_counters.2.1, pulling_counters.2.2.1, by decide, by decide, pulling_counters.2.2.2.2.2.1, by decide,
      pulling_counters.2.2.2.2.2.2.2.1, by decide, fun _ h => (by cases h), pulling_counters.2.2.2.2.2.2.2.2.2.2⟩
    unfold portSound
    decide +kernel
  · exact ⟨⟨by decide +kernel, fun h => (by cases h)⟩, pulling_tables.2⟩

/-- L1 lost, and L2 STALE with the setpoint at its floor and CHASSIS_LINK_LOST present. -/
theorem witness_StepKeepsTheIntake :
    (let s := { staleDemand 500 150 (intaken (fun i => { i with l1 := .stale, measurement := some (record 7000) }) parked) with
       present := { TripMarks.clear with propLinkLost := true, chassisLinkLost := true } }
     intakeSound s.intake ∧ linkMarksSound s) := by
  refine ⟨⟨⟨by decide, by decide, by decide, by decide, by decide, by decide, fun _ e => (by cases e)⟩, ?_, ?_, ?_, ?_, ?_,
    ?_, ?_, ?_, ?_, ?_⟩, ?_, ?_⟩
  · intro m e
    cases e
    exact pulling_record
  · intro f e
    cases e
    unfold fallbackSound
    decide
  all_goals decide +kernel

/-- The grid at its hottest, the left motor one interval before its hold expires, in the last interval of its window. -/
theorem witness_StepKeepsTheThermalMonitor :
    thermalSound (motored (holding 9 ⟨.boost, 299, none⟩) (gridded (gridAt 10400 6000) parked)).thermal ∧
    tablesSound (motored (holding 9 ⟨.boost, 299, none⟩) (gridded (gridAt 10400 6000) parked)) := by
  refine ⟨⟨fun g e => ?_, fun e => (by cases e), fun w => ?_⟩, ⟨by decide +kernel, fun h => (by cases h)⟩, pulling_tables.2.1,
    pulling_tables.2.2⟩
  · cases e
    unfold gridSound
    decide +kernel
  · cases w
    · refine ⟨by decide, by decide, by decide, by decide, by decide, ?_, by decide +kernel, by decide, by decide, by decide,
        by decide, fun _ e => (by cases e)⟩
      intro x e
      cases e
      decide
    · exact restingMotor_sound

/-- The ends of the row and entry numbers, and rows at the ends of their ranges. -/
theorem witness_RangesIndexesAndBandsFollowTheirTables :
    7 < 8 ∧ 22 < 23 ∧ 17 < 18 ∧ rangePasses 12 #v[127, 65408, 0, 0, 0, 0, 0, 0] = true ∧
    rangePasses 12 #v[128, 0, 0, 0, 0, 0, 0, 0] = false ∧ rangePasses 11 (.replicate 8 1600) = true ∧
    rangePasses 0 (.replicate 8 1601) = false ∧ rangePasses 13 #v[1000, 1000, 900, 750, 550, 350, 150, 151] = false ∧
    rowIsLimp (limpImage.setIfInBounds 17 ⟨limpRow 17, .nv⟩) 17 = false ∧ rowIsLimp limpImage 17 = true := by
  decide +kernel

end Sys2Proof.Tests
end

section
/-! SUPPORT. Rows of the tables entry by entry: the range tests, the pair rule, the CHECK WORD, the bands (O59, O60). -/

namespace Sys2Proof.Proofs

open Sys2Proof.Machine Sys2Proof.Claims

/-! ### Entries -/

/-- Within a row, an entry is the vector's own. -/
theorem rowEntry_eq_getElem (row : Row) {e : Nat} (h : e < 8) : rowEntry row e = row[e] := by simp [rowEntry, h]

/-- The list of a row's entries, place by place. -/
theorem row_getElem?_eq_some (row : Row) (e : Nat) (w : Word) :
    row.toList[e]? = some w ↔ e < 8 ∧ rowEntry row e = w := by
  by_cases h : e < 8
  · simp [h, rowEntry_eq_getElem row h]
  · simp [h]

/-- A row is the list of its eight entries. -/
theorem row_toList (row : Row) : row.toList = (List.range 8).map (rowEntry row) := by
  refine List.ext_getElem (by simp) fun e he _ => ?_
  have h8 : e < 8 := by simpa using he
  simp [rowEntry_eq_getElem row h8]

/-- A test of two lists place by place. -/
theorem zipWith_all_iff {α β : Type} (f : α → β → Bool) (as : List α) (bs : List β) :
    (List.zipWith f as bs).all id = true ↔ ∀ (e : Nat) a b, as[e]? = some a → bs[e]? = some b → f a b = true := by
  rw [List.all_eq_true]
  constructor
  · intro h e a b ha hb
    exact h _ (List.mem_of_getElem? (i := e) (by simp [List.getElem?_zipWith, ha, hb]))
  · intro h x hx
    obtain ⟨e, he⟩ := List.mem_iff_getElem?.mp hx
    obtain ⟨a, b, ha, hb, rfl⟩ := List.getElem?_zipWith_eq_some.mp he
    exact h e a b ha hb

/-- The pair rule entry by entry (R7). -/
theorem pairAgrees_iff (cont peak : Row) :
    pairAgrees cont peak = true ↔ ∀ e, e < 8 → (rowEntry cont e).toNat ≤ (rowEntry peak e).toNat := by
  simp only [pairAgrees, zipWith_all_iff, row_getElem?_eq_some, decide_eq_true_eq]
  constructor
  · intro h e he
    exact h e _ _ ⟨he, rfl⟩ ⟨he, rfl⟩
  · rintro h e _ _ ⟨he, rfl⟩ ⟨-, rfl⟩
    exact h e he

/-- A test of every entry of a row, entry by entry. -/
theorem row_all_iff (f : Word → Bool) (row : Row) :
    row.toList.all f = true ↔ ∀ e, e < 8 → f (rowEntry row e) = true := by
  simp [row_toList]

/-! ### The range test of a row alone (R9, R11, R17) -/

/-- The ranges of a row, entry by entry. -/
theorem rangesPass_iff (ranges : List EntryRange) (row : Row) :
    (List.zipWith inRange ranges row.toList).all id = true ↔
      ∀ e : Nat, e < 8 → ∀ range, ranges[e]? = some range → inRange range (rowEntry row e) = true := by
  rw [zipWith_all_iff]
  simp only [row_getElem?_eq_some]
  constructor
  · intro h e he range hr
    exact h e range _ hr ⟨he, rfl⟩
  · rintro h e range _ hr ⟨he, rfl⟩
    exact h e he range hr

/-- The range test of a row whose eight entries share one range. -/
theorem rangePasses_of_same {r : Nat} {range : EntryRange} (h : entryRanges r = List.replicate 8 range) (row : Row) :
    rangePasses r row = true ↔ (∀ e, e < 8 → inRange range (rowEntry row e) = true) ∧ rowRule r row = true := by
  rw [rangePasses, Bool.and_eq_true, rangesPass_iff, h]
  refine and_congr_left fun _ => forall₂_congr fun e he => ?_
  rw [List.getElem?_replicate, if_pos he]
  simp

/-- The ranges of a protect row are its bounds, read unsigned. -/
theorem entryRanges_protect {r : Nat} (h : 18 ≤ r) (hr : r < 23) :
    entryRanges r = (protectBounds r).map fun b => .unsigned b.1 b.2 := by
  interval_cases r <;> rfl

theorem protectBounds_length (r : Nat) : (protectBounds r).length = 8 := by
  unfold protectBounds
  split <;> rfl

/-- The ranges of a protect row, entry by entry. -/
theorem protectRangesPass_iff {r : Nat} (h : 18 ≤ r) (hr : r < 23) (row : Row) :
    (List.zipWith inRange (entryRanges r) row.toList).all id = true ↔
      ∀ e low high, (protectBounds r)[e]? = some (low, high) →
        low ≤ (rowEntry row e).toNat ∧ (rowEntry row e).toNat ≤ high := by
  rw [rangesPass_iff, entryRanges_protect h hr]
  constructor
  · intro hp e low high he
    have h8 : e < 8 := protectBounds_length r ▸ (List.getElem?_eq_some_iff.mp he).1
    simpa [inRange] using hp e h8 (.unsigned low high) (by simp [he])
  · intro hp e _ range hr
    rw [List.getElem?_map, Option.map_eq_some_iff] at hr
    obtain ⟨⟨low, high⟩, he, rfl⟩ := hr
    simpa [inRange] using hp e low high he

/-- Entries that do not rise, place by place (R9). -/
theorem nonIncreasing_iff (l : List Word) :
    nonIncreasing l = true ↔ ∀ (e : Nat) a b, l[e]? = some a → l[e + 1]? = some b → b.toNat ≤ a.toNat := by
  match l with
  | [] => simp [nonIncreasing]
  | [a] => simp [nonIncreasing]
  | a :: b :: rest =>
    simp only [nonIncreasing, Bool.and_eq_true, decide_eq_true_eq, nonIncreasing_iff (b :: rest)]
    constructor
    · rintro ⟨hab, hrest⟩ e x y hx hy
      cases e with
      | zero => simp_all
      | succ e => exact hrest e x y (by simpa using hx) (by simpa using hy)
    · intro h
      exact ⟨h 0 a b rfl rfl, fun e x y hx hy => h (e + 1) x y (by simpa using hx) (by simpa using hy)⟩

/-- A row whose entries do not rise (R9). -/
theorem row_nonIncreasing_iff (row : Row) : nonIncreasing row.toList = true ↔
    ∀ e, e < 7 → (rowEntry row (e + 1)).toNat ≤ (rowEntry row e).toNat := by
  simp only [nonIncreasing_iff, row_getElem?_eq_some]
  constructor
  · intro h e he
    exact h e _ _ ⟨by omega, rfl⟩ ⟨by omega, rfl⟩
  · rintro h e _ _ ⟨-, rfl⟩ ⟨he, rfl⟩
    exact h e (by omega)

/-- The range test of a row alone is what Tables 1-1 to 1-6, R9 and R11 permit. -/
theorem rangePasses_iff {r : Nat} (hr : r < 23) (row : Row) : rangePasses r row = true ↔ permitted r row := by
  have hcases : r < 12 ∨ r = 12 ∨ r = 13 ∨ r = 14 ∨ r = 15 ∨ r = 16 ∨ r = 17 ∨ 18 ≤ r := by omega
  rcases hcases with h | rfl | rfl | rfl | rfl | rfl | rfl | h
  · have hhigh : r ≠ 12 ∧ r ≠ 13 ∧ r ≠ 14 ∧ r ≠ 15 ∧ r ≠ 16 ∧ r ≠ 17 ∧ r ≠ 18 ∧ ¬18 ≤ r := by omega
    rw [rangePasses_of_same (range := .unsigned 0 1600) (if_pos h)]
    simp [rowRule, permitted, inRange, h, hhigh]
  · rw [rangePasses_of_same (range := .signed (-128) 127) rfl]
    simp [rowRule, permitted, inRange]
  · rw [rangePasses_of_same (range := .unsigned 0 1000) rfl]
    simp [rowRule, permitted, inRange, row_nonIncreasing_iff]
  · rw [rangePasses_of_same (range := .unsigned 0 1000) rfl]
    simp [rowRule, permitted, inRange, row_nonIncreasing_iff]
  · rw [rangePasses_of_same (range := .unsigned 300 7000) rfl]
    simp [rowRule, permitted, inRange]
  · rw [rangePasses_of_same (range := .unsigned 300 7000) rfl]
    simp [rowRule, permitted, inRange]
  · rw [rangePasses_of_same (range := .unsigned 0 200) rfl]
    simp [rowRule, permitted, inRange]
  · have hlow : ¬r < 12 ∧ r ≠ 12 ∧ r ≠ 13 ∧ r ≠ 14 ∧ r ≠ 15 ∧ r ≠ 16 ∧ r ≠ 17 := by omega
    rw [rangePasses, Bool.and_eq_true, protectRangesPass_iff h hr]
    by_cases h18 : r = 18 <;> simp [permitted, rowRule, h, hlow, h18]

/-! ### The CHECK WORD (R16) -/

/-- The sum that a CHECK WORD is formed from. -/
def entrySum (row : Row) : Nat := ((List.range 8).map fun e => (rowEntry row e).toNat).sum

/-- The CHECK WORD test in figures. -/
theorem checkPasses_iff (r : Nat) (row : NvRow) :
    checkPasses r row = true ↔ row.check.toNat = 65535 - (entrySum row.entries + 257 * r) % 65536 := by
  have hsum : (row.entries.toList.map BitVec.toNat).sum = entrySum row.entries := by
    rw [row_toList, List.map_map]
    rfl
  rw [checkPasses, beq_iff_eq, ← BitVec.toNat_inj, checkWord, hsum, toNat_ofNat_16 (Nat.sub_le _ _)]

/-- A row that passes at one position fails at every other: 257 has no small multiple that 65536 divides. -/
theorem checkPasses_elsewhere {r q : Nat} {row : NvRow} (hr : r < 23) (hq : q < 23) (hne : r ≠ q)
    (h : checkPasses r row = true) : checkPasses q row = false := by
  rw [← Bool.not_eq_true, checkPasses_iff]
  rw [checkPasses_iff] at h
  omega

theorem entrySum_erased : entrySum erasedRow.entries = 8 * 65535 := by decide

/-- An erased row fails at every position. -/
theorem checkPasses_erased {r : Nat} (hr : r < 23) : checkPasses r erasedRow = false := by
  have hcheck : erasedRow.check.toNat = 65535 := rfl
  rw [← Bool.not_eq_true, checkPasses_iff, entrySum_erased, hcheck]
  omega

/-- Settles O59, from the CHECK WORD in figures. -/
theorem checkWordBindsARowToItsPlace : Obligations.CheckWordBindsARowToItsPlace :=
  ⟨checkPasses_iff, fun _ _ _ => checkPasses_elsewhere, fun _ => checkPasses_erased⟩

/-! ### Indexes and bands (R4, R5, R6) -/

/-- The speed index by the rows of R4's table: the last one holds from 7000 on. -/
theorem speedIndex_eq (v : Nat) : speedIndex v =
    (if v < 800 then v / 100 else if v < 2400 then 8 + (v - 800) / 200
     else if v < 5600 then 16 + (v - 2400) / 400
     else if v < 7000 then 24 + (v - 5600) / 200
     else 31) := by
  unfold speedIndex
  split_ifs <;> omega

theorem speedIndex_le (v : Nat) : speedIndex v ≤ 31 := by
  unfold speedIndex
  split_ifs <;> omega

/-- Rising lower bounds are counted from the first until one is not reached. -/
theorem bandOf_cons {b : Int} {bounds : List Int} (h : (b :: bounds).Pairwise (· < ·)) (x : Int) :
    bandOf (b :: bounds) x = if x < b then 0 else 1 + bandOf bounds x := by
  unfold bandOf
  split
  next hx =>
    rw [List.length_eq_zero_iff, List.filter_eq_nil_iff]
    intro a ha
    rcases List.mem_cons.mp ha with rfl | ha
    · simpa using hx
    · have hba := List.rel_of_pairwise_cons h ha
      simp only [decide_eq_true_eq]
      omega
  next hx => simp [not_lt.mp hx, Nat.add_comm]

/-- With rising lower bounds the band is the row of R5's table that holds the figure. -/
theorem bandOf_eq_bandBy {b1 b2 b3 b4 b5 b6 b7 : Int} (h1 : [b1, b2, b3, b4, b5, b6, b7].Pairwise (· < ·)) (x : Int) :
    bandOf [b1, b2, b3, b4, b5, b6, b7] x = bandBy b1 b2 b3 b4 b5 b6 b7 x := by
  have h2 := List.Pairwise.of_cons h1
  have h3 := List.Pairwise.of_cons h2
  have h4 := List.Pairwise.of_cons h3
  have h5 := List.Pairwise.of_cons h4
  have h6 := List.Pairwise.of_cons h5
  have h7 := List.Pairwise.of_cons h6
  have hnil : bandOf [] x = 0 := rfl
  rw [bandOf_cons h1, bandOf_cons h2, bandOf_cons h3, bandOf_cons h4, bandOf_cons h5, bandOf_cons h6, bandOf_cons h7,
    hnil, bandBy]
  split_ifs <;> rfl

/-! ### Rows of the WORKING IMAGE (R3, R20) -/

theorem imageRow_eq_getElem (im : Image) {r : Nat} (h : r < 23) : imageRow im r = im[r].entries := by
  simp [imageRow, h]

theorem rowIsLimp_iff (im : Image) {r : Nat} (h : r < 23) : rowIsLimp im r = true ↔ im[r].source = .limp := by
  simp [rowIsLimp, h]

/-- Every named parameter reads its own entry (Tables 1-1 to 1-6). -/
theorem namesTheirEntries_holds (im : Image) : namesTheirEntries im := by
  refine ⟨fun i => ⟨?_, rfl, rfl⟩, fun _ => ⟨rfl, rfl, rfl, rfl, rfl, rfl⟩, rfl, rfl, rfl, rfl, rfl⟩
  rw [propelCont, table32, Nat.zero_add]
  rfl

/-- The envelope source is LIMP while a row of 0 to 17 is (R20). -/
theorem envelopeLimp_iff (im : Image) : envelopeLimp im = true ↔ ∃ r, r < 18 ∧ rowIsLimp im r = true := by
  simp [envelopeLimp]

/-- Settles O60, table by table. -/
theorem rangesIndexesAndBandsFollowTheirTables : Obligations.RangesIndexesAndBandsFollowTheirTables := by
  refine ⟨fun row _ => rowEntry_eq_getElem row, fun im _ h => ⟨imageRow_eq_getElem im h, rowIsLimp_iff im h⟩,
    fun _ row h => rangePasses_iff h row, pairAgrees_iff, speedIndex_eq, fun x => ⟨?_, ?_, ?_⟩, fun x => ?_,
    fun v => ⟨rfl, ?_⟩, fun im => ⟨namesTheirEntries_holds im, envelopeLimp_iff im⟩⟩
  · exact bandOf_eq_bandBy (by decide) x
  · exact bandOf_eq_bandBy (by decide) x
  · have habs : (x.natAbs : Int) = max x (-x) := by omega
    rw [steerBandOf, habs]
    exact bandOf_eq_bandBy (by decide) _
  · exact bandOf_eq_bandBy (by decide) x
  · have := speedIndex_le v
    omega

end Sys2Proof.Proofs
end

section
/-! SUPPORT. Start-up validation row by row (R17, R18, R19), and the part held in reset (O2, O4, O5). -/

namespace Sys2Proof.Proofs

open Sys2Proof.Machine Sys2Proof.Claims

/-! ### The part held -/

/-- Settles O2: every command but the cold reset and the release acts through `whileReleased`. -/
theorem resetLowHoldsThePart : Obligations.ResetLowHoldsThePart := by
  intro s c hlow hcold hrelease
  cases c
  case coldReset => exact absurd rfl hcold
  case resetNRelease => exact absurd rfl hrelease
  all_goals exact congrArg Host.Outcome.next (whileReleased_low hlow)

/-! ### The LIMP SET loaded (R17) -/

theorem limpImage_getElem {r : Nat} (h : r < 23) : limpImage[r] = rowFromLimp r := by
  simp [limpImage, rowFromLimp, limpRow, h]

/-- The image that validation starts from is the LIMP SET with every source flag LIMP. -/
theorem allLimp_limpImage : allLimp limpImage := fun r h => by
  rw [imageRow_eq_getElem _ h, rowIsLimp_iff _ h, limpImage_getElem h]
  exact ⟨rfl, rfl⟩

/-- Settles O4: the release loads the LIMP SET, and every other field is what the model writes. -/
theorem releaseStartsValidation : Obligations.ReleaseStartsValidation := by
  intro s hlow
  have hexec : exec .resetNRelease s = .next (startValidation (s.withResetLow false)) :=
    congrArg Host.Outcome.next (if_pos hlow)
  exact ⟨_, hexec, allLimp_limpImage, rfl⟩

/-! ### The decision of a row (R17, R18) -/

theorem aloneValid_eq (t : Store) (r : Nat) : aloneValid t r = rowValidAlone t r := rfl

theorem contStaysNv_eq_endsNv (t : Store) {k : Nat} (hk : k < 4) : contStaysNv t k = endsNv t k := by
  simp only [contStaysNv, endsNv, aloneValid_eq, if_pos hk]
  cases rowValidAlone t k <;> cases rowValidAlone t (k + 4) <;> rfl

theorem peakBecomesNv_eq_endsNv (t : Store) {k : Nat} (hk : k < 4) : peakBecomesNv t k = endsNv t (k + 4) := by
  have h4 : ¬k + 4 < 4 := by omega
  have h8 : k + 4 < 8 := by omega
  simp only [peakBecomesNv, endsNv, aloneValid_eq, if_neg h4, if_pos h8, Nat.add_sub_cancel]
  cases rowValidAlone t k <;> cases rowValidAlone t (k + 4) <;> rfl

/-- A row outside the pairs ends NV where it is valid alone. -/
theorem endsNv_alone (t : Store) {r : Nat} (h : 8 ≤ r) : endsNv t r = rowValidAlone t r := by
  rw [endsNv, if_neg (by omega), if_neg (by omega), aloneValid_eq]

/-- Where a pair is decided, both rows take what R18 gives them. -/
theorem decideRow_pair (t : Store) {k q : Nat} (hk : k < 4) (hq : q < 23) :
    (decideRow (k + 4) t).image[q] =
      if q = k + 4 then decidedRow t (endsNv t q) q else if q = k then decidedRow t (endsNv t q) q else t.image[q] := by
  have hpair : decideRow (k + 4) t = decidePair k t := if_pos (by omega)
  rw [hpair, decidePair, contStaysNv_eq_endsNv t hk, peakBecomesNv_eq_endsNv t hk]
  simp only [setImageRow, Vector.getElem_setIfInBounds]
  split_ifs <;> grind

/-- A row that decides no pair is copied where it is valid alone, and no other row moves. -/
theorem decideRow_alone (t : Store) {r q : Nat} (hr : r < 4 ∨ 8 ≤ r) (hq : q < 23) :
    (decideRow r t).image[q] = if q = r ∧ rowValidAlone t q = true then rowFromNv t q else t.image[q] := by
  rw [decideRow, if_neg (by omega)]
  split
  next hv =>
    simp only [setImageRow, Vector.getElem_setIfInBounds]
    grind
  next hv => grind

/-! ### The image as validation leaves it (R17, R18, R19) -/

/-- What `standsAfter` says of a row, as one equation. -/
theorem standsAfter_iff (t : Store) (r : Nat) :
    standsAfter t r ↔ ∀ q (h : q < 23), t.image[q] = decidedRow t (tookNv t r q) q := by
  refine forall₂_congr fun q hq => ?_
  rw [imageRow_eq_getElem _ hq]
  have hlimp : rowIsLimp t.image q = decide (t.image[q].source = .limp) := by simp [rowIsLimp, hq]
  rw [hlimp]
  generalize t.image[q] = x
  obtain ⟨entries, source⟩ := x
  cases tookNv t r q <;> cases source <;> simp [decidedRow, rowFromNv, rowFromLimp]

/-- The rows that validation has yet to take are not NV. -/
theorem tookNv_ahead (t : Store) {r q : Nat} (h : r ≤ q) : tookNv t r q = false := if_pos h

/-- A row whose decision is final stands as it ends. -/
theorem tookNv_final (t : Store) {r q : Nat} (h : q < r) (hpair : q < 4 → q + 4 < r) : tookNv t r q = endsNv t q := by
  rw [tookNv, if_neg (by omega), if_neg (by omega)]

/-- A row of PROPEL_CONT stands by itself until its pair is decided. -/
theorem tookNv_cont (t : Store) {r q : Nat} (h : q < r) (hq : q < 4) (hpair : r ≤ q + 4) :
    tookNv t r q = rowValidAlone t q := by
  rw [tookNv, if_neg (by omega), if_pos ⟨hq, hpair⟩, aloneValid_eq]

/-- Taking row `r` moves no row but `r` and, where it decides a pair, the other row of the pair. -/
theorem tookNv_succ (t : Store) {r q : Nat} (h : q ≠ r) (hpair : q < 4 → q + 4 ≠ r) :
    tookNv t (r + 1) q = tookNv t r q := by
  have hle : r + 1 ≤ q ↔ r ≤ q := by omega
  have hcont : q < 4 ∧ r + 1 ≤ q + 4 ↔ q < 4 ∧ r ≤ q + 4 := by omega
  simp only [tookNv, hle, hcont]

/-- Decisions read the NONVOLATILE ARRAY alone, so that a new WORKING IMAGE leaves them as they are. -/
theorem standsAfter_image (t : Store) (im : Image) (r : Nat) :
    standsAfter { t with image := im } r ↔ ∀ q (h : q < 23), im[q] = decidedRow t (tookNv t r q) q :=
  standsAfter_iff _ r

/-- Validation takes one row: the image that stood after the rows below `r` stands after `r` too. -/
theorem standsAfter_decideRow {t : Store} {r : Nat} (hr : r < 23) (h : standsAfter t r) :
    standsAfter { t with image := (decideRow r t).image } (r + 1) := by
  rw [standsAfter_iff] at h
  rw [standsAfter_image]
  intro q hq
  by_cases hpair : 4 ≤ r ∧ r < 8
  · obtain ⟨k, rfl⟩ := Nat.exists_eq_add_of_le' hpair.1
    have hk : k < 4 := by omega
    rw [decideRow_pair t hk hq]
    split_ifs with hpeak hcont
    · rw [tookNv_final t (by omega) (by omega)]
    · rw [tookNv_final t (by omega) (by omega)]
    · rw [tookNv_succ t hpeak (by omega), h q hq]
  · rw [decideRow_alone t (by omega) hq]
    by_cases hqr : q = r
    · subst hqr
      have htook : tookNv t (q + 1) q = rowValidAlone t q := by
        by_cases h4 : q < 4
        · exact tookNv_cont t (by omega) h4 (by omega)
        · rw [tookNv_final t (by omega) (by omega), endsNv_alone t (by omega)]
      rw [htook, h q hq, tookNv_ahead t (Nat.le_refl q)]
      cases rowValidAlone t q <;> simp [decidedRow]
    · rw [if_neg (fun hc => hqr hc.1), tookNv_succ t hqr (by omega), h q hq]

/-! ### Validation on the whole part (R17, R78) -/

/-- The part after validation has taken the rows from `r` to below `q`, with `im` the image it leaves: only row 18 re-forms
the steering reserve. -/
def afterRows (s : State) (r q : Nat) (im : Image) : State :=
  { s with
    validation := some q
    store := { s.store with image := im }
    traction := { s.traction with
      reserve :=
        if r ≤ 18 ∧ 18 < q then reserveOf im s.intake.l2 (demandInForce s.intake).pressure else s.traction.reserve } }

theorem afterRows_none {s : State} {r : Nat} (h : s.validation = some r) : afterRows s r r s.store.image = s := by
  have hrow : ¬(r ≤ 18 ∧ 18 < r) := by omega
  simp only [afterRows, if_neg hrow, ← h]

theorem validateNext_eq {s : State} {r : Nat} (h : s.validation = some r) (hr : r < 23) :
    validateNext s = afterRows s r (r + 1) (decideRow r s.store).image := by
  have hstore : decideRow r s.store = { s.store with image := (decideRow r s.store).image } := by
    unfold decideRow decidePair setImageRow
    split_ifs <;> rfl
  unfold validateNext
  simp only [h, if_pos hr]
  by_cases h18 : r = 18
  · subst h18
    simp only [if_true, afterRows]
    rw [hstore]
    rfl
  · have hrow : ¬(r ≤ 18 ∧ 18 < r + 1) := by omega
    simp only [if_neg h18, afterRows, if_neg hrow]
    rw [hstore]
    rfl

/-- The steering reserve reads row 18 alone. -/
theorem reserveOf_congr {im im' : Image} (h : imageRow im 18 = imageRow im' 18) (l2 : Freshness) (pressure : Nat) :
    reserveOf im l2 pressure = reserveOf im' l2 pressure := by
  have hentry (e : Nat) : param im 18 e = param im' 18 e := by rw [param, param, h]
  have hlow : steerLow im = steerLow im' := hentry 2
  have hok : steerOk im = steerOk im' := hentry 3
  have hhi : steerResHi im = steerResHi im' := hentry 4
  have hlo : steerResLo im = steerResLo im' := hentry 5
  rw [reserveOf, reserveOf, hlow, hok, hhi, hlo]

/-- Two runs of rows, one after the other; a reserve formed in the first stays, since the second leaves row 18 alone. -/
theorem afterRows_afterRows (s : State) {r p q : Nat} {im im' : Image} (hrp : r ≤ p) (hpq : p ≤ q)
    (h : 18 < p → imageRow im 18 = imageRow im' 18) :
    afterRows (afterRows s r p im) p q im' = afterRows s r q im' := by
  simp only [afterRows]
  congr 2
  by_cases h18 : 18 < p
  · have hlate : ¬(p ≤ 18 ∧ 18 < q) := by omega
    have hboth : (r ≤ 18 ∧ 18 < p) ↔ (r ≤ 18 ∧ 18 < q) := by omega
    simp only [if_neg hlate, hboth, reserveOf_congr (h h18)]
  · have hboth : (p ≤ 18 ∧ 18 < q) ↔ (r ≤ 18 ∧ 18 < q) := by omega
    have hfirst : ¬(r ≤ 18 ∧ 18 < p) := by omega
    simp only [if_neg hfirst, hboth]

/-- Row 18 once taken stands as it ends. -/
theorem imageRow_18_of_standsAfter {t : Store} {im : Image} {r : Nat} (h : standsAfter { t with image := im } r)
    (hr : 18 < r) : imageRow im 18 = (decidedRow t (endsNv t 18) 18).entries := by
  have h18 := (standsAfter_image t im r).mp h 18 (by omega)
  rw [tookNv_final t hr (by omega)] at h18
  rw [imageRow_eq_getElem im (by omega), h18]

/-- Validation takes `n` rows. -/
theorem validateRows_eq (n : Nat) {s : State} {r : Nat} (h : s.validation = some r) (hn : r + n ≤ 23)
    (hs : standsAfter s.store r) :
    ∃ im, validateRows n s = afterRows s r (r + n) im ∧ standsAfter { s.store with image := im } (r + n) := by
  induction n generalizing s r with
  | zero => exact ⟨s.store.image, (afterRows_none h).symm, hs⟩
  | succ n ih =>
    have hnext := validateNext_eq h (by omega)
    have hstands := standsAfter_decideRow (by omega) hs
    obtain ⟨im, heq, him⟩ :=
      ih (s := afterRows s r (r + 1) (decideRow r s.store).image) (r := r + 1) rfl (by omega) hstands
    have hsum : r + 1 + n = r + (n + 1) := by omega
    rw [hsum] at heq him
    refine ⟨im, ?_, him⟩
    rw [validateRows, hnext, heq, afterRows_afterRows s (by omega) (by omega)]
    intro h18
    exact (imageRow_18_of_standsAfter hstands h18).trans
      (imageRow_18_of_standsAfter (t := s.store) him (by omega)).symm

/-- With every row taken validation leaves the part as it is. -/
theorem validateNext_past {s : State} {r : Nat} (h : s.validation = some r) (hr : 23 ≤ r) : validateNext s = s := by
  simp [validateNext, h, Nat.not_lt.mpr hr]

/-- The mode goes from STARTUP to PARKED with no program to swap: mode and TRIP_OUT_N change, and nothing else (R130,
R137). -/
theorem changeMode_parked_of_startup {s : State} (hm : s.mode = .startup) (hp : s.store.programmer = .idle) :
    changeMode .parked s = { s with mode := .parked, tripOut := decide (s.trips.level = .d) } := by
  have hne : s.mode ≠ .parked := by simp [hm]
  have hdrive : s.mode ≠ .drive := by simp [hm]
  have hline : lineAsserted .parked s.trips.level = decide (s.trips.level = .d) := by simp [lineAsserted]
  unfold changeMode
  simp only [if_neg hne, if_neg hdrive, if_true]
  rw [trySwap_none (by simp [hp]), ← hline]
  rfl

/-- With no command waiting and no pass in flight, a step takes the next row. -/
theorem step_validates {s : State} (hlow : s.resetLow = false) (hidle : s.pending = []) (hpass : s.engine.pass = none) :
    step s = .next (validateNext s) := by
  have hdone : runStages (validateNext s) = validateNext s := runStages_done fun n => by simp [hpass]
  unfold step
  simp only [hidle, idleWork, whileReleased_high hlow, hdone]

/-- The image stands as validation ends it. -/
theorem standsAfter_all {t : Store} {im : Image} (h : standsAfter { t with image := im } 23) (q : Nat) (hq : q < 23) :
    imageRow im q = (if endsNv t q then (nvRow t q).entries else limpRow q) ∧ rowIsLimp im q = !endsNv t q := by
  have htook : tookNv t 23 q = endsNv t q := tookNv_final t hq (by omega)
  exact htook ▸ h q hq

/-- Settles O5: by one row on an idle step (`standsAfter_decideRow`), by induction on the rows left at the completion
(`validateRows_eq`). -/
theorem validationDecidesEveryRow : Obligations.ValidationDecidesEveryRow := by
  refine ⟨fun s r hlow hidle hval hpass hs => ?_, fun s r hlow hval hmode hprog hr hs => ?_⟩
  · rw [step_validates hlow hidle hpass]
    refine ⟨fun hr => ⟨_, rfl, ?_, ?_⟩, fun hr => by rw [validateNext_past hval hr]⟩
    · rw [validateNext_eq hval hr]
      exact standsAfter_decideRow hr hs
    · have hrow : (r ≤ 18 ∧ 18 < r + 1) ↔ r = 18 := by omega
      rw [validateNext_eq hval hr]
      simp only [afterRows, hrow]
  · obtain ⟨im, heq, him⟩ := validateRows_eq (23 - r) hval (by omega) hs
    have hsum : r + (23 - r) = 23 := by omega
    rw [hsum] at heq him
    have hexec : exec .validationComplete s = .next (completeValidation r s) := by
      refine congrArg Host.Outcome.next ?_
      simp only [whileReleased_high hlow, hval]
    have hparked : completeValidation r s =
        { afterRows s r 23 im with mode := .parked, validation := none, tripOut := decide (s.trips.level = .d) } := by
      rw [completeValidation, heq]
      exact changeMode_parked_of_startup hmode hprog
    rw [hexec, hparked]
    refine ⟨_, rfl, standsAfter_all him, ?_⟩
    have hrow : (r ≤ 18 ∧ 18 < 23) ↔ r ≤ 18 := by omega
    simp only [afterRows, hrow]

end Sys2Proof.Proofs
end

section
/-! SUPPORT. Every step keeps the promises about the tables (O51): what the promises read, the operations that change it, and
the commands one by one. -/

namespace Sys2Proof.Proofs

open Sys2Proof.Machine Sys2Proof.Safety Sys2Proof.Claims

/-! ### What the promises read -/

/-- What the promises about the tables read stands in `t` as in `s`; in STARTUP a pass state of IDLE and an empty held slot
stay. -/
structure SameTables (s t : State) : Prop where
  resetLow : t.resetLow = s.resetLow
  mode : t.mode = s.mode
  validation : t.validation = s.validation
  image : t.store.image = s.store.image
  programmer : t.store.programmer = s.store.programmer
  stage : t.store.stage = s.store.stage
  receive : t.portL3.receive = s.portL3.receive
  restartDue : t.restartDue = s.restartDue
  pass : s.mode = .startup → s.engine.pass = none → t.engine.pass = none
  held : s.mode = .startup → s.heldMeasure = none → t.heldMeasure = none

/-- The promises stand where all that they read stands. -/
theorem SameTables.keeps {s t : State} (e : SameTables s t) (h : tablesSound s) : tablesSound t := by
  obtain ⟨⟨hmode, hstartup⟩, himage, hprog, hrestart⟩ := h
  refine ⟨⟨?_, fun hm => ?_⟩, ?_, ?_, ?_⟩
  · rw [e.mode, e.resetLow, e.validation]
    exact hmode
  · have hs := e.mode ▸ hm
    obtain ⟨hpass, hheld, hidle⟩ := hstartup hs
    exact ⟨e.pass hs hpass, e.held hs hheld, e.programmer.trans hidle⟩
  · simpa only [imageSound, pairDecided, e.image, e.validation] using himage
  · simpa only [programmerSound, e.image, e.programmer, e.stage] using hprog
  · simpa only [restartSound, e.receive, e.programmer, e.restartDue] using hrestart

/-- An operation keeps the promises about the tables. -/
def keepsTables (f : State → State) : Prop := ∀ s, tablesSound s → tablesSound (f s)

theorem keepsTables_of_same {f : State → State} (h : ∀ s, SameTables s (f s)) : keepsTables f :=
  fun s hs => (h s).keeps hs

theorem keepsTables.comp {f g : State → State} (hg : keepsTables g) (hf : keepsTables f) :
    keepsTables fun s => g (f s) :=
  fun s h => hg _ (hf s h)

/-- A command that acts while RESET_N is high keeps the promises if it does so then. -/
theorem whileReleased_keeps {f : State → State} (hf : ∀ s, s.resetLow = false → tablesSound s → tablesSound (f s)) :
    keepsTables (whileReleased f) := by
  intro s h
  cases hlow : s.resetLow with
  | false => exact whileReleased_high hlow ▸ hf s hlow h
  | true =>
    rw [whileReleased_low hlow]
    exact h

theorem keepsTables.whileReleased {f : State → State} (hf : keepsTables f) : keepsTables (whileReleased f) :=
  whileReleased_keeps fun s _ => hf s

theorem keepsTables.whenDue {f : State → State} (due : State → Bool) (hf : keepsTables f) :
    keepsTables (whenDue due f) := by
  intro s h
  unfold Machine.whenDue
  split
  · exact hf s h
  · exact h

/-! ### The WORKING IMAGE (R2, R7, R18) -/

/-- The image with the pairs below row `r` decided: every row passes its range test, every decided pair agrees. -/
def imageFit (im : Image) (r : Nat) : Prop :=
  (∀ q, q < 23 → rangePasses q (imageRow im q) = true) ∧
  (∀ k, k < 4 → k + 4 < r → pairAgrees (imageRow im k) (imageRow im (k + 4)) = true)

/-- While validation runs the pairs below its next row are decided. -/
theorem imageSound_running {s : State} {r : Nat} (h : s.validation = some r) :
    imageSound s ↔ imageFit s.store.image r := by
  simp [imageSound, imageFit, pairDecided, h]

/-- While validation does not run every pair is decided. -/
theorem imageSound_ended {s : State} (h : s.validation = none) : imageSound s ↔ imageFit s.store.image 23 := by
  have hall (k : Nat) : k < 4 → k + 4 < 23 := by omega
  simp +contextual [imageSound, imageFit, pairDecided, h, hall]

/-- Past the pairs a further row decides none. -/
theorem imageFit_past {im : Image} {r q : Nat} (hr : 8 ≤ r) (h : imageFit im r) : imageFit im q :=
  ⟨h.1, fun k hk _ => h.2 k hk (by omega)⟩

/-- Every row of the LIMP SET passes its range test (R17). -/
theorem limpRow_rangePasses {r : Nat} (h : r < 23) : rangePasses r (limpRow r) = true := by
  revert r
  decide

/-- Each entry of a LIMP row of a pair is 800 (Table 1-1). -/
theorem limpRow_pair {r e : Nat} (hr : r < 8) (he : e < 8) : (rowEntry (limpRow r) e).toNat = 800 := by
  have hall : ∀ r < 8, ∀ e < 8, (rowEntry (limpRow r) e).toNat = 800 := by decide
  exact hall r hr e he

/-- The image that validation starts from is fit, whatever pairs count as decided. -/
theorem imageFit_limpImage (r : Nat) : imageFit limpImage r := by
  refine ⟨fun q hq => ?_, fun k hk _ => ?_⟩
  · rw [(allLimp_limpImage q hq).1]
    exact limpRow_rangePasses hq
  · rw [(allLimp_limpImage k (by omega)).1, (allLimp_limpImage (k + 4) (by omega)).1, pairAgrees_iff]
    intro e he
    rw [limpRow_pair (by omega) he, limpRow_pair (by omega) he]

/-- A row ends NV only where it is valid alone (R18). -/
theorem rowValidAlone_of_endsNv {t : Store} {r : Nat} (h : endsNv t r = true) : rowValidAlone t r = true := by
  simp only [endsNv, aloneValid_eq] at h
  grind

/-- A decided row passes its range test where the decision for NV rests on it (R17). -/
theorem decidedRow_rangePasses {t : Store} {b : Bool} {r : Nat} (hr : r < 23) (h : b = true → rowValidAlone t r = true) :
    rangePasses r (decidedRow t b r).entries = true := by
  cases b with
  | false => exact limpRow_rangePasses hr
  | true => exact (Bool.and_eq_true_iff.mp (h rfl)).2

/-- The rows that a decision leaves agree as a pair: LIMP entries are 800, and a row that stays NV beside a LIMP one has been
held against 800 (R18). -/
theorem decidedPair_agrees (t : Store) {k : Nat} (hk : k < 4) :
    pairAgrees (decidedRow t (endsNv t k) k).entries (decidedRow t (endsNv t (k + 4)) (k + 4)).entries = true := by
  rw [← contStaysNv_eq_endsNv t hk, ← peakBecomesNv_eq_endsNv t hk, pairAgrees_iff]
  intro e he
  have hcont := limpRow_pair (r := k) (by omega) he
  have hpeak := limpRow_pair (r := k + 4) (by omega) he
  unfold contStaysNv peakBecomesNv
  cases hc : rowValidAlone t k <;> cases hp : rowValidAlone t (k + 4)
  · simp [decidedRow, rowFromLimp, hcont, hpeak]
  · cases hall : (nvRow t (k + 4)).entries.toList.all fun e => decide (800 ≤ e.toNat)
    · simp [decidedRow, rowFromLimp, hcont, hpeak]
    · have hentry := (row_all_iff _ _).mp hall e he
      simpa [decidedRow, rowFromLimp, rowFromNv, hall, hcont] using hentry
  · cases hall : (nvRow t k).entries.toList.all fun e => decide (e.toNat ≤ 800)
    · simp [decidedRow, rowFromLimp, hcont, hpeak]
    · have hentry := (row_all_iff _ _).mp hall e he
      simpa [decidedRow, rowFromLimp, rowFromNv, hall, hpeak] using hentry
  · cases hagree : pairAgrees (nvRow t k).entries (nvRow t (k + 4)).entries
    · simp [decidedRow, rowFromLimp, hcont, hpeak]
    · simpa [decidedRow, rowFromNv, hagree] using (pairAgrees_iff _ _).mp hagree e he

/-- Validation of a row keeps the image fit, and decides the pair of a row of PROPEL_PEAK. -/
theorem imageFit_decideRow {t : Store} {r : Nat} (hr : r < 23) (h : imageFit t.image r) :
    imageFit (decideRow r t).image (r + 1) := by
  obtain ⟨hrange, hpairs⟩ := h
  by_cases hpair : 4 ≤ r ∧ r < 8
  · obtain ⟨j, rfl⟩ := Nat.exists_eq_add_of_le' hpair.1
    have hj : j < 4 := by omega
    refine ⟨fun q hq => ?_, fun k hk hkr => ?_⟩
    · rw [imageRow_eq_getElem _ hq, decideRow_pair t hj hq]
      split_ifs
      · exact decidedRow_rangePasses hq rowValidAlone_of_endsNv
      · exact decidedRow_rangePasses hq rowValidAlone_of_endsNv
      · exact imageRow_eq_getElem t.image hq ▸ hrange q hq
    · have hk' : k < 23 := by omega
      have hk4 : k + 4 < 23 := by omega
      rw [imageRow_eq_getElem _ hk', imageRow_eq_getElem _ hk4, decideRow_pair t hj hk', decideRow_pair t hj hk4]
      by_cases hkj : k = j
      · subst hkj
        simpa using decidedPair_agrees t hk
      · have hold := hpairs k hk (by omega)
        rw [imageRow_eq_getElem _ hk', imageRow_eq_getElem _ hk4] at hold
        have h1 : k ≠ j + 4 := by omega
        have h2 : k + 4 ≠ j := by omega
        simpa [h1, h2, hkj] using hold
  · refine ⟨fun q hq => ?_, fun k hk hkr => ?_⟩
    · rw [imageRow_eq_getElem _ hq, decideRow_alone t (by omega) hq]
      split_ifs with hv
      · exact decidedRow_rangePasses (b := true) hq fun _ => hv.2
      · exact imageRow_eq_getElem t.image hq ▸ hrange q hq
    · have hk' : k < 23 := by omega
      have hk4 : k + 4 < 23 := by omega
      have hold := hpairs k hk (by omega)
      rw [imageRow_eq_getElem _ hk', imageRow_eq_getElem _ hk4] at hold ⊢
      rw [decideRow_alone t (by omega) hk', decideRow_alone t (by omega) hk4, if_neg (by omega), if_neg (by omega)]
      exact hold

/-- A row that passes the range test of R179 goes into the image with every row in range and every pair in order. -/
theorem imageFit_swap {im : Image} {st : StagedRow} {r : Nat} (hst : st.row < 23)
    (hrow : commitRangePasses im st.row st.entries = true) (h : imageFit im r) :
    imageFit (im.setIfInBounds st.row ⟨st.entries, .nv⟩) r := by
  obtain ⟨hrange, hpairs⟩ := h
  obtain ⟨hself, hpair⟩ := Bool.and_eq_true_iff.mp hrow
  simp only [commitPairAgrees] at hpair
  refine ⟨fun q hq => ?_, fun k hk hkr => ?_⟩
  · rw [imageRow_set _ _ _ _ hst]
    split_ifs with hq'
    · exact hq' ▸ hself
    · exact hrange q hq
  · rw [imageRow_set _ _ _ _ hst, imageRow_set _ _ _ _ hst]
    by_cases hcont : k = st.row
    · have hlt : st.row < 4 := hcont ▸ hk
      subst hcont
      simpa [hlt] using hpair
    · by_cases hpeak : k + 4 = st.row
      · rw [← hpeak, if_neg (by omega), if_pos (by omega), Nat.add_sub_cancel] at hpair
        simpa [hcont, hpeak] using hpair
      · simpa [hcont, hpeak] using hpairs k hk hkr

end Sys2Proof.Proofs
end

section
/-! SUPPORT. The operations that touch what the promises about the tables read, and the commands one by one (O51). -/

namespace Sys2Proof.Proofs

open Sys2Proof.Machine Sys2Proof.Safety Sys2Proof.Claims

/-! ### The swap and the mode (R133, R182) -/

/-- A swap keeps the promises: what it installs passed the range test against the image as it stands. -/
theorem trySwap_keeps : keepsTables trySwap := by
  intro s h
  unfold trySwap
  split
  next st hst =>
    split
    next hswap =>
      obtain ⟨hwait, hparked, hpass⟩ := hswap
      obtain ⟨⟨hmode, hstartup⟩, himage, ⟨hrow, hfit⟩, hrestart⟩ := h
      obtain ⟨st', hst', hcommit⟩ := hfit (by simp [hwait])
      obtain rfl : st = st' := Option.some.inj (hst.symm.trans hst')
      have hvalidation : s.validation = none := by simp_all
      have hswapped : (swapRow st s).store.image = s.store.image.setIfInBounds st.row ⟨st.entries, .nv⟩ ∧
          (swapRow st s).store.programmer = .idle ∧ (swapRow st s).store.stage = none := by
        unfold swapRow
        dsimp only
        split <;> simp
      obtain ⟨hnew, hidle, hempty⟩ := hswapped
      refine ⟨⟨by simpa using hmode, fun hm => ?_⟩, ?_, ?_, ?_⟩
      · simp [hparked] at hm
      · rw [imageSound_ended (by simpa using hvalidation), hnew]
        exact imageFit_swap (hrow st hst) hcommit ((imageSound_ended hvalidation).mp himage)
      · simp [programmerSound, hidle, hempty]
      · obtain ⟨-, hdue⟩ := hrestart
        simp only [restartSound, hidle, swapRow_frame]
        exact ⟨fun _ => trivial, fun hd => ⟨trivial, (hdue hd).2⟩⟩
    next => exact h
  next => exact h

/-- A change of mode that neither enters nor leaves STARTUP keeps the promises. -/
theorem changeMode_keeps {m : Mode} {s : State} (hm : m = .startup ↔ s.mode = .startup) (h : tablesSound s) :
    tablesSound (changeMode m s) := by
  unfold changeMode
  split
  · exact h
  next hne =>
    have hs : s.mode ≠ .startup := fun hs => hne (hs.trans (hm.mpr hs).symm)
    have hm' : m ≠ .startup := fun h' => hs (hm.mp h')
    have hset (t : State) (ht : SameTables (s.withMode m) t) : tablesSound t := by
      refine ht.keeps ?_
      obtain ⟨⟨hmode, -⟩, himage, hprog, hrestart⟩ := h
      refine ⟨⟨?_, fun hc => absurd hc hm'⟩, himage, hprog, hrestart⟩
      exact ⟨fun hc => absurd hc hm', fun hc => absurd (hmode.mpr hc) hs⟩
    have hline : tablesSound (refreshLine (s.withMode m)) := hset _ (by constructor <;> simp)
    have hdrawn : tablesSound (withdrawPositive (refreshLine (s.withMode m))) := hset _ (by constructor <;> simp)
    dsimp only
    split_ifs
    · exact trySwap_keeps _ hdrawn
    · exact trySwap_keeps _ hline
    · exact hdrawn
    · exact hline

/-! ### Ports (R154, R188) -/

/-- A port is put in place: L3 may not take up the reply to an accepted RESTART with the Row Programmer at work, nor leave IDLE
while a warm restart is due. -/
theorem withPort_keeps {p : PortId} {x : Port} {s : State} (h : tablesSound s)
    (hx : p = .l3 → (restartAccepted x.receive → s.store.programmer = .idle) ∧
      (s.restartDue = true → x.receive = .idle)) : tablesSound (s.withPort p x) := by
  obtain ⟨hstartup, himage, hprog, haccepted, hdue⟩ := h
  cases p with
  | l1 => exact ⟨hstartup, himage, hprog, haccepted, hdue⟩
  | l2 => exact ⟨hstartup, himage, hprog, haccepted, hdue⟩
  | l3 =>
    obtain ⟨hx1, hx2⟩ := hx rfl
    exact ⟨hstartup, himage, hprog, hx1, fun hd => ⟨(hdue hd).1, hx2 hd⟩⟩

/-- L3 at work on a frame or a reply waits for no warm restart. -/
theorem restartDue_false {p : PortId} {s : State} (h : tablesSound s) (hbusy : (s.port p).receive ≠ .idle) (hp : p = .l3) :
    s.restartDue ≠ true := by
  obtain ⟨-, -, -, -, hdue⟩ := h
  subst hp
  exact fun hd => hbusy (hdue hd).2

theorem countOn_keeps (p : PortId) (f : Counters → Counters) : keepsTables (countOn p f) :=
  keepsTables_of_same fun s => by cases p <;> constructor <;> simp [countOn]

/-- A port with no accepted RESTART to answer, where no warm restart is due. -/
theorem setReceive_keeps {p : PortId} {r : Receive} {s : State} (h : tablesSound s)
    (hr : p = .l3 → restartAccepted r → s.store.programmer = .idle) (hdue : p = .l3 → s.restartDue ≠ true) :
    tablesSound (setReceive p r s) :=
  withPort_keeps h fun hp => ⟨hr hp, fun hd => absurd hd (hdue hp)⟩

theorem setReceive_idle_keeps (p : PortId) : keepsTables (setReceive p .idle) :=
  fun _ h => withPort_keeps h fun _ => ⟨False.elim, fun _ => rfl⟩

theorem abandonOnLength_keeps {p : PortId} {s : State} (h : tablesSound s) (hdue : p = .l3 → s.restartDue ≠ true) :
    tablesSound (abandonOnLength p s) :=
  setReceive_keeps (countOn_keeps p countLength s h) (fun _ => False.elim) (by simpa using hdue)

theorem takeMarker_keeps {p : PortId} {a : Byte} {s : State} (h : tablesSound s) (hdue : p = .l3 → s.restartDue ≠ true) :
    tablesSound (takeMarker p a s) := by
  unfold takeMarker
  split_ifs
  · exact setReceive_keeps h (fun _ => False.elim) hdue
  · exact setReceive_keeps h (fun _ => False.elim) hdue
  · exact setReceive_keeps (countOn_keeps p _ s h) (fun _ => False.elim) (by simpa using hdue)

theorem onMarker_keeps (p : PortId) (a : Byte) : keepsTables (onMarker p a) := by
  intro s h
  unfold onMarker
  split
  · exact h
  next hawaits =>
    have hdue (hp : p = .l3) : s.restartDue ≠ true := fun hd => hawaits ((awaitsRestart_iff p s).mpr ⟨hp, hd⟩)
    split
    · exact takeMarker_keeps h hdue
    · exact takeMarker_keeps h hdue
    · exact takeMarker_keeps (countOn_keeps p _ s h) (by simpa using hdue)
    · exact takeMarker_keeps (countOn_keeps p _ s h) (by simpa using hdue)
    · exact h

theorem onFramingError_keeps (p : PortId) : keepsTables (onFramingError p) := by
  intro s h
  unfold onFramingError
  split
  next hr =>
    have hdue := restartDue_false (p := p) h (by simp [hr])
    exact setReceive_keeps (countOn_keeps p _ s h) (fun _ => False.elim) (by simpa using hdue)
  · exact h
  · exact countOn_keeps p _ s h

theorem onGap_keeps (p : PortId) : keepsTables (onGap p) := by
  intro s h
  unfold onGap
  split
  · exact setReceive_idle_keeps p _ (countOn_keeps p _ s h)
  · exact setReceive_idle_keeps p s h
  · exact h

theorem onLength_keeps (p : PortId) (length : Byte) : keepsTables (onLength p length) := by
  intro s h
  unfold onLength
  split
  next hr =>
    split
    · exact abandonOnLength_keeps h (restartDue_false h (by simp [hr]))
    · exact h
  · exact h

theorem onShortBreak_keeps (p : PortId) : keepsTables (onShortBreak p) := by
  intro s h
  unfold onShortBreak
  split
  · exact h
  · exact countOn_keeps p _ s h
  · exact setReceive_idle_keeps p _ (countOn_keeps p _ s h)

theorem resync_keeps (p : PortId) : keepsTables (resync p) :=
  fun _ h => withPort_keeps h fun _ => ⟨False.elim, fun _ => rfl⟩

theorem onLongBreak_keeps (p : PortId) : keepsTables (onLongBreak p) := by
  intro s h
  have hsync := resync_keeps p s h
  unfold onLongBreak
  split
  · exact h
  · cases p with
    | l1 =>
      exact SameTables.keeps (s := resync .l1 s)
        ⟨rfl, rfl, rfl, rfl, rfl, rfl, rfl, rfl, fun _ => id, fun _ _ => rfl⟩ hsync
    | l2 => exact hsync
    | l3 =>
      exact SameTables.keeps (s := resync .l3 s)
        ⟨rfl, rfl, rfl, rfl, rfl, rfl, rfl, rfl, fun _ => id, fun _ => id⟩ hsync

theorem onCheckFailure_keeps (p : PortId) (code : Byte) (payload : List Byte) (check : Byte) :
    keepsTables (onCheckFailure p code payload check) := by
  intro s h
  unfold onCheckFailure
  split
  next hr =>
    split_ifs
    · exact abandonOnLength_keeps h (restartDue_false h (by simp [hr]))
    · exact h
    · exact setReceive_idle_keeps p _ (countOn_keeps p _ s h)
  · exact h

/-- The reply to an accepted RESTART that was owed is now being sent: the Row Programmer is IDLE still. -/
theorem beginReply_keeps (p : PortId) : keepsTables (beginReply p) := by
  intro s h
  unfold beginReply
  split
  next a code body hr =>
    refine setReceive_keeps h (fun hp hacc => ?_) (restartDue_false h (by simp [hr]))
    obtain ⟨-, -, -, haccepted, -⟩ := h
    subst hp
    rw [State.port_l3] at hr
    rw [hr] at haccepted
    exact haccepted hacc
  · exact h

/-- After the reply to an accepted RESTART a warm restart is due, with the Row Programmer IDLE and L3 too. -/
theorem completeReply_keeps (p : PortId) : keepsTables (completeReply p) := by
  intro s h
  unfold completeReply
  split
  next reply hr =>
    have hidle := setReceive_idle_keeps p s h
    dsimp only
    split
    next hrestart =>
      obtain ⟨rfl, hcode, hok⟩ := hrestart
      rw [State.port_l3] at hr
      obtain ⟨-, -, -, haccepted, -⟩ := h
      have hprog : s.store.programmer = .idle := haccepted (by rw [hr]; exact ⟨hcode, hok⟩)
      obtain ⟨hstartup, himage, hfit, haccepted', -⟩ := hidle
      exact ⟨hstartup, himage, hfit, haccepted', fun _ => ⟨hprog, rfl⟩⟩
    · exact hidle
  · exact h

/-! ### Requests (R156, R157) -/

/-- L3 has no accepted RESTART to answer or to follow. -/
def noRestart (s : State) : Prop := s.restartDue ≠ true ∧ ¬restartAccepted s.portL3.receive

/-- What the owner of a request on port `p` owes the promises: it keeps them, leaves the mark of a due warm restart alone, and
accepts a RESTART only with the Row Programmer IDLE. A request on L3 comes while L3 collects its frame, with no RESTART open. -/
structure HandlerKeeps (p : PortId) (code : Byte) (handle : State → State × Option ReplyBody) : Prop where
  sound : ∀ s, tablesSound s → (p = .l3 → noRestart s) → tablesSound (handle s).1
  due : ∀ s, (handle s).1.restartDue = s.restartDue
  idle : ∀ s body, (handle s).2 = some body → code = restartCode → body.result = .ok →
    (handle s).1.store.programmer = .idle

/-- An owner of a request that is no RESTART. -/
theorem HandlerKeeps.of_code {p : PortId} {code : Byte} {handle : State → State × Option ReplyBody}
    (hcode : code ≠ restartCode) (sound : keepsTables fun s => (handle s).1)
    (due : ∀ s, (handle s).1.restartDue = s.restartDue) : HandlerKeeps p code handle :=
  ⟨fun s h _ => sound s h, due, fun _ _ _ hc => absurd hc hcode⟩

/-- A request that reads only. -/
theorem HandlerKeeps.of_read {p : PortId} {code : Byte} {handle : State → State × Option ReplyBody}
    (hcode : code ≠ restartCode) (hread : ∀ s, (handle s).1 = s) : HandlerKeeps p code handle :=
  .of_code hcode (fun s h => (congrArg tablesSound (hread s)).mpr h) fun s => congrArg State.restartDue (hread s)

theorem answerRead_keeps {p : PortId} {code : Byte} (hcode : code ≠ restartCode) (n : Nat) (payload : List Byte)
    (body : State → ReplyBody) : HandlerKeeps p code (answerRead n payload body) :=
  .of_read hcode fun _ => rfl

/-- A code that no port lists is not accepted. -/
theorem answerUnknown_keeps (p : PortId) (code : Byte) : HandlerKeeps p code answerUnknown where
  sound := fun _ h _ => h
  due := fun _ => rfl
  idle := by
    rintro s _ ⟨⟩ - hok
    cases hok

/-- The notice of a sound frame touches nothing that the promises read. -/
theorem heard_keeps (p : PortId) : keepsTables (heard p) :=
  (keepsTables_of_same (f := noteSound p) fun s => by constructor <;> simp).comp (countOn_keeps p countGood)

theorem heard_restartDue (p : PortId) (s : State) : (heard p s).restartDue = s.restartDue := by simp [heard]

/-- A request frame keeps the promises where its owner does. -/
theorem serveRequest_keeps (p : PortId) {code : Byte} (payload : List Byte) {handle : State → State × Option ReplyBody}
    (hh : HandlerKeeps p code handle) : keepsTables (serveRequest p code payload handle) := by
  intro s h
  unfold serveRequest
  split
  next a hr =>
    have hdue := restartDue_false (p := p) h (by simp [hr])
    split
    · exact abandonOnLength_keeps h hdue
    · rw [takeSound_eq (h := rfl)]
      have hnone (hp : p = .l3) : noRestart (heard p s) := by
        subst hp
        rw [State.port_l3] at hr
        exact ⟨hdue rfl, by simp [heard, countOn, hr, restartAccepted]⟩
      refine setReceive_keeps (hh.sound _ (heard_keeps p s h) hnone) (fun _ hacc => ?_) fun hp => ?_
      · match hbody : (handle (heard p s)).2 with
        | none => simp [hbody, restartAccepted] at hacc
        | some body =>
          rw [hbody] at hacc
          exact hh.idle _ body hbody hacc.1 hacc.2
      · rw [hh.due, heard_restartDue]
        exact hdue hp
  · exact h

end Sys2Proof.Proofs
end

section
/-! SUPPORT. Every command, and every step, keeps the promises about the tables (O51). -/

namespace Sys2Proof.Proofs

open Sys2Proof.Machine Sys2Proof.Safety Sys2Proof.Claims

/-! ### Resets and validation (R17 to R19, R150, R188) -/

/-- Validation that runs is in STARTUP, and the Row Programmer is IDLE. -/
theorem startup_of_validation {s : State} {r : Nat} (h : tablesSound s) (hval : s.validation = some r) :
    s.mode = .startup ∧ s.store.programmer = .idle := by
  obtain ⟨⟨hmode, hstartup⟩, -⟩ := h
  have hm := hmode.mpr (.inr (by simp [hval]))
  exact ⟨hm, (hstartup hm).2.2⟩

/-- Validation takes its next row. -/
theorem validateNext_keeps : keepsTables validateNext := by
  intro s h
  cases hval : s.validation with
  | none => simpa [validateNext, hval] using h
  | some r =>
    by_cases hr : r < 23
    · obtain ⟨-, hidle⟩ := startup_of_validation h hval
      rw [validateNext_eq hval hr]
      obtain ⟨hstartup, himage, ⟨hrow, -⟩, hrestart⟩ := h
      refine ⟨by simpa [startupSound, afterRows, hval] using hstartup, ?_, ⟨hrow, fun hp => absurd hidle hp⟩, hrestart⟩
      exact (imageSound_running rfl).mpr (imageFit_decideRow hr ((imageSound_running hval).mp himage))
    · rw [validateNext_past hval (by omega)]
      exact h

theorem validateRows_keeps (n : Nat) : keepsTables (validateRows n) := by
  induction n with
  | zero => exact fun _ h => h
  | succ n ih => exact ih.comp validateNext_keeps

/-- Validation that takes `n` rows goes on by as many, or past the last. -/
theorem validateRows_reaches (n : Nat) {s : State} {r : Nat} (h : s.validation = some r) :
    ∃ q, (validateRows n s).validation = some q ∧ min (r + n) 23 ≤ q := by
  induction n generalizing s r with
  | zero => exact ⟨r, h, by omega⟩
  | succ n ih =>
    by_cases hr : r < 23
    · have hnext : (validateNext s).validation = some (r + 1) := by rw [validateNext_eq h hr]; rfl
      obtain ⟨q, hq, hle⟩ := ih hnext
      exact ⟨q, hq, by omega⟩
    · obtain ⟨q, hq, hle⟩ := ih h
      rw [validateRows, validateNext_past h (by omega)]
      exact ⟨q, hq, by omega⟩

/-- Validation completes with every pair decided. -/
theorem completeValidation_keeps {s : State} {r : Nat} (hlow : s.resetLow = false) (h : tablesSound s)
    (hval : s.validation = some r) : tablesSound (completeValidation r s) := by
  obtain ⟨q, hq, hle⟩ := validateRows_reaches (23 - r) hval
  have hrows := validateRows_keeps (23 - r) s h
  obtain ⟨hmode, hidle⟩ := startup_of_validation hrows hq
  rw [completeValidation, changeMode_parked_of_startup (by simpa using hmode) (by simpa using hidle)]
  obtain ⟨-, himage, hprog, hrestart⟩ := hrows
  refine ⟨by simp [startupSound, hlow], ?_, hprog, hrestart⟩
  exact (imageSound_ended rfl).mpr (imageFit_past (by omega) ((imageSound_running hq).mp himage))

theorem validationComplete_keeps : keepsTables (whileReleased fun s =>
    match s.validation with
    | some r => completeValidation r s
    | none => s) := by
  refine whileReleased_keeps fun s hlow h => ?_
  cases hval : s.validation with
  | none => exact h
  | some r => exact completeValidation_keeps hlow h hval

/-- Validation starts on the LIMP SET, in STARTUP with the Row Programmer IDLE. -/
theorem startValidation_keeps {s : State} (hm : s.mode = .startup)
    (hrest : s.engine.pass = none ∧ s.heldMeasure = none ∧ s.store.programmer = .idle)
    (hrow : ∀ st, s.store.stage = some st → st.row < 23) (hrestart : restartSound s) : tablesSound (startValidation s) := by
  obtain ⟨hpass, hheld, hidle⟩ := hrest
  refine ⟨⟨⟨fun _ => .inr rfl, fun _ => hm⟩, fun _ => ⟨hpass, hheld, hidle⟩⟩, ?_, ⟨hrow, fun hp => absurd hidle hp⟩, hrestart⟩
  exact (imageSound_running rfl).mpr (imageFit_limpImage 0)

theorem resetNRelease_keeps :
    keepsTables fun s => if s.resetLow then startValidation (s.withResetLow false) else s := by
  intro s h
  dsimp only
  split
  next hlow =>
    obtain ⟨⟨hmode, hstartup⟩, -, ⟨hrow, -⟩, hrestart⟩ := h
    have hm := hmode.mpr (.inl hlow)
    exact startValidation_keeps hm (hstartup hm) hrow hrestart
  · exact h

theorem warmRestart_keeps : keepsTables (whileReleased fun s =>
    if warmRestartDue s then startValidation (afterWarmRestart s) else s) := by
  refine keepsTables.whileReleased fun s h => ?_
  split
  · refine startValidation_keeps rfl ⟨rfl, rfl, rfl⟩ (fun st hst => ?_) ⟨fun _ => rfl, fun hd => ?_⟩
    · cases hst
    · cases hd
  · exact h

/-- A cold reset leaves the part as it leaves every part: STARTUP, the LIMP SET, the Row Programmer IDLE. -/
theorem coldReset_keeps : keepsTables fun s =>
    ((State.coldReset (nvAfterColdReset s.freeCount s.store)).withFreeCount
      (s.freeCount + freeTakenByReset s.store)).withPending s.pending := by
  intro s _
  refine ⟨⟨⟨fun _ => .inl rfl, fun _ => rfl⟩, fun _ => ⟨rfl, rfl, rfl⟩⟩, ?_, ⟨fun st hst => ?_, fun hp => absurd rfl hp⟩,
    fun _ => rfl, fun hd => ?_⟩
  · exact (imageSound_ended rfl).mpr (imageFit_limpImage 23)
  · cases hst
  · cases hd

/-! ### The interval expiry and its events (R142) -/

/-- The expiry of lockout and idle counts leaves image, programmer and buffer alone (R172, R174). -/
theorem countLockout_frame (t : Store) : (countLockout t).image = t.image ∧ (countLockout t).programmer = t.programmer ∧
    (countLockout t).stage = t.stage := by
  unfold countLockout
  split <;> simp

theorem countIdle_frame (t : Store) : (countIdle t).image = t.image ∧ (countIdle t).programmer = t.programmer ∧
    (countIdle t).stage = t.stage := by
  unfold countIdle
  split_ifs <;> simp

theorem countLockout_keeps : keepsTables fun s => s.withStore (countLockout s.store) :=
  keepsTables_of_same fun s => by constructor <;> simp [countLockout_frame]

theorem countIdle_keeps : keepsTables fun s => s.withStore (countIdle s.store) :=
  keepsTables_of_same fun s => by constructor <;> simp [countIdle_frame]

theorem storeAtExpiry_keeps : keepsTables storeAtExpiry := countIdle_keeps.comp countLockout_keeps

theorem countL1_keeps : keepsTables countL1 := keepsTables_of_same fun s => by constructor <;> simp

theorem countL2_keeps : keepsTables countL2 := keepsTables_of_same fun s => by constructor <;> simp

theorem countStandstill_keeps : keepsTables countStandstill := keepsTables_of_same fun s => by constructor <;> simp

theorem stepGrace_keeps : keepsTables stepGrace := keepsTables_of_same fun s => by constructor <;> simp

theorem settlePayload_keeps : keepsTables settlePayload := keepsTables_of_same fun s => by constructor <;> simp

theorem onMotor_keeps (w : Wheel) (f : State → Motor → Motor) : keepsTables fun s => onMotor w (f s) s :=
  keepsTables_of_same fun s => by constructor <;> simp

theorem thermalAtExpiry_keeps : keepsTables thermalAtExpiry := keepsTables_of_same fun s => by constructor <;> simp

theorem steeringAtExpiry_keeps : keepsTables steeringAtExpiry := keepsTables_of_same fun s => by constructor <;> simp

theorem travelPlan_keeps : keepsTables travelPlan := keepsTables_of_same fun s => by constructor <;> simp

theorem stepShortfall_keeps : keepsTables stepShortfall := keepsTables_of_same fun s => by constructor <;> simp

theorem stamp_keeps : keepsTables fun s => s.withStamp (s.stamp + 1) :=
  keepsTables_of_same fun s => by constructor <;> simp

theorem intakeAtExpiry_keeps : keepsTables intakeAtExpiry :=
  settlePayload_keeps.comp (countStandstill_keeps.comp (countL2_keeps.comp countL1_keeps))

theorem plannerAtExpiry_keeps : keepsTables plannerAtExpiry := stepShortfall_keeps.comp travelPlan_keeps

theorem expireInterval_keeps : keepsTables expireInterval :=
  storeAtExpiry_keeps.comp (plannerAtExpiry_keeps.comp (steeringAtExpiry_keeps.comp
    (thermalAtExpiry_keeps.comp (intakeAtExpiry_keeps.comp stamp_keeps))))

/-! ### The requests of L1 and the pass (R44, R57, R58) -/

/-- Outside STARTUP a pass may start. -/
theorem startPass_keeps {s : State} (h : tablesSound s) (hm : s.mode ≠ .startup) : tablesSound (startPass s) :=
  SameTables.keeps (by constructor <;> simp [hm]) h

theorem takeMeasure_keeps (m : MeasurementRecord) : keepsTables (takeMeasure m) :=
  keepsTables_of_same fun s => by constructor <;> simp [takeMeasure]

theorem takeMeasure_restartDue (m : MeasurementRecord) (s : State) : (takeMeasure m s).restartDue = s.restartDue := by
  simp [takeMeasure]

theorem engineAtMeasure_keeps (payload : List Byte) : keepsTables fun s => (engineAtMeasure payload s).1 := by
  intro s h
  unfold engineAtMeasure
  dsimp only
  split_ifs with hm hpass
  · exact h
  · exact startPass_keeps h hm
  · exact SameTables.keeps (by constructor <;> simp [hm]) h

theorem engineAtMeasure_restartDue (payload : List Byte) (s : State) :
    (engineAtMeasure payload s).1.restartDue = s.restartDue := by
  unfold engineAtMeasure
  split_ifs <;> simp

theorem handleMeasure_keeps (payload : List Byte) : HandlerKeeps .l1 0x10 (handleMeasure payload) := by
  refine .of_code (by decide) (fun s h => ?_) fun s => ?_
  · unfold handleMeasure
    dsimp only
    split
    · exact engineAtMeasure_keeps payload _ (takeMeasure_keeps _ s h)
    · exact h
  · unfold handleMeasure
    split
    · rw [engineAtMeasure_restartDue, takeMeasure_restartDue]
    · rfl

theorem runStages_keeps : keepsTables runStages :=
  keepsTables_of_same fun s => by
    have hpass : s.mode = .startup → s.engine.pass = none → (runStages s).engine.pass = none := fun _ hp => by
      rw [runStages_done (by simp [hp]), hp]
    constructor
    case pass => exact hpass
    all_goals simp

theorem writeGrant_keeps (w : PassWork) : keepsTables (writeGrant w) :=
  keepsTables_of_same fun s => by constructor <;> simp [writeGrant]

theorem replyOfPass_keeps (lineAtSpace : Bool) : keepsTables (replyOfPass lineAtSpace) := by
  intro s h
  rw [replyOfPass_eq]
  exact withPort_keeps (p := .l1) h fun hp => nomatch hp

theorem handOn_keeps {lineAtSpace : Bool} {s : State} (h : tablesSound s) (hm : s.mode ≠ .startup) :
    tablesSound (handOn lineAtSpace s) := by
  have hswap := trySwap_keeps s h
  have hm' : (trySwap s).mode ≠ .startup := by simpa using hm
  unfold handOn
  dsimp only
  split
  · exact startPass_keeps (SameTables.keeps (by constructor <;> simp) hswap) hm'
  · exact replyOfPass_keeps lineAtSpace _ hswap

/-- A pass in flight is not in STARTUP. -/
theorem completePass_keeps (lineAtSpace : Bool) : keepsTables (completePass lineAtSpace) := by
  intro s h
  unfold completePass
  split
  next w hw =>
    have hm : s.mode ≠ .startup := fun hm => by
      obtain ⟨⟨-, hstartup⟩, -⟩ := h
      exact absurd hw (by simp [(hstartup hm).1])
    exact handOn_keeps (writeGrant_keeps w s h) (by simpa using hm)
  · exact h

/-! ### Requests that read, and those that no port lists (R147, R156) -/

/-- A request that reads only keeps the promises. -/
theorem readRequest_keeps (p : PortId) (payload : List Byte) {code : Byte} (hcode : code ≠ restartCode) (n : Nat)
    (body : State → ReplyBody) : keepsTables (serveRequest p code payload (answerRead n payload body)) :=
  serveRequest_keeps p payload (answerRead_keeps hcode n payload body)

theorem faultRead_keeps (p : PortId) (payload : List Byte) : HandlerKeeps p 0x26
    (if isListed p 0x26 then answerRead 1 payload (faultReadReply payload) else answerUnknown) := by
  split
  · exact answerRead_keeps (by decide) 1 payload _
  · exact answerUnknown_keeps p _

theorem unknownRequest_keeps (p : PortId) (code : Byte) (payload : List Byte) : keepsTables fun s =>
    if isListed p code then s else serveRequest p code payload answerUnknown s := by
  intro s h
  dsimp only
  split
  · exact h
  · exact serveRequest_keeps p payload (answerUnknown_keeps p code) s h

/-! ### The requests of L2 -/

theorem modeByDirection_startup (m : Mode) (d : Direction) : modeByDirection m d = .startup ↔ m = .startup := by
  cases m <;> cases d <;> decide

theorem modeByPark_startup (m : Mode) (park : Bool) (i : Intake) : modeByPark m park i = .startup ↔ m = .startup := by
  cases m <;> cases park <;> simp [modeByPark] <;> split_ifs <;> simp

theorem handDirection_keeps (d : Direction) : keepsTables (handDirection d) := fun s h =>
  changeMode_keeps (modeByDirection_startup _ d) (SameTables.keeps (by constructor <;> simp) h)

theorem judgeDirection_keeps (d : Direction) : keepsTables (judgeDirection d) := by
  intro s h
  unfold judgeDirection
  split_ifs
  · exact SameTables.keeps (by constructor <;> simp) h
  · exact handDirection_keeps d s h
  · exact SameTables.keeps (by constructor <;> simp) h

theorem handPark_keeps : keepsTables handPark := fun _ h => changeMode_keeps (modeByPark_startup _ _ _) h

theorem acceptDemand_keeps (d : DemandRecord) : keepsTables (acceptDemand d) := by
  have hrecord : keepsTables fun s => withdrawOnBrake (formReserve
      (markPresent .chassisLinkLost false (s.withIntake (intakeWithDemand s.store.image d s.intake)))) :=
    keepsTables_of_same fun s => by constructor <;> simp
  exact handPark_keeps.comp (settlePayload_keeps.comp ((judgeDirection_keeps d.direction).comp hrecord))

/-- A DEMAND of 14 bytes is accepted, and any other changes nothing (R26). -/
theorem handleDemand_state (payload : List Byte) (s : State) :
    (handleDemand payload s).1 = if payload.length = 14 then acceptDemand (readDemand payload) s else s := by
  simp only [handleDemand, apply_ite Prod.fst]

theorem handleDemand_keeps (payload : List Byte) : HandlerKeeps .l2 0x20 (handleDemand payload) := by
  refine .of_code (by decide) (fun s h => ?_) fun s => ?_
  · refine (congrArg tablesSound (handleDemand_state payload s)).mpr ?_
    split_ifs
    · exact acceptDemand_keeps _ s h
    · exact h
  · rw [handleDemand_state]
    split_ifs <;> simp

/-- The promises do not read the plan. -/
theorem sameTables_withPlanner (s : State) (p : Planner) : SameTables s (s.withPlanner p) := by constructor <;> simp

/-- The promises do not read the trips. -/
theorem sameTables_withTrips (s : State) (t : Trips) : SameTables s (s.withTrips t) := by constructor <;> simp

/-- A PLAN_APPEND changes the plan at most (R112, R113). -/
theorem handleAppend_state (payload : List Byte) (s : State) :
    (handleAppend payload s).1 = s ∨
      ∃ segs, (handleAppend payload s).1 = s.withPlanner (appendSegments segs s.planner) := by
  unfold handleAppend
  split
  · exact .inl rfl
  · obtain ⟨r, segs⟩ := judgeAppend payload s.planner
    cases r
    case ok => exact .inr ⟨segs, rfl⟩
    all_goals exact .inl rfl

theorem handleAppend_keeps (payload : List Byte) : HandlerKeeps .l2 0x21 (handleAppend payload) := by
  refine .of_code (by decide) (fun s h => ?_) fun s => ?_
  · rcases handleAppend_state payload s with e | ⟨segs, e⟩
    · exact (congrArg tablesSound e).mpr h
    · exact (congrArg tablesSound e).mpr ((sameTables_withPlanner s _).keeps h)
  · rcases handleAppend_state payload s with e | ⟨segs, e⟩ <;> rw [e]
    rfl

theorem startPlan_keeps : keepsTables startPlan :=
  keepsTables_of_same fun s => by constructor <;> simp [startPlan]

theorem handleStart_keeps (payload : List Byte) : HandlerKeeps .l2 0x22 (handleStart payload) := by
  refine .of_code (by decide) (fun s h => ?_) fun s => ?_
  · unfold handleStart
    dsimp only
    split_ifs
    · exact h
    · exact h
    · exact startPlan_keeps s h
    · exact h
  · unfold handleStart
    split_ifs <;> simp [startPlan]

theorem handleClear_keeps (payload : List Byte) : HandlerKeeps .l2 0x23 (handleClear payload) := by
  refine .of_code (by decide) (fun s h => ?_) fun s => ?_
  · unfold handleClear
    dsimp only
    split_ifs
    · exact h
    · exact h
    · exact (sameTables_withPlanner s _).keeps h
  · unfold handleClear
    split_ifs <;> rfl

theorem handlePlanRead_keeps (payload : List Byte) : HandlerKeeps .l2 0x24 (handlePlanRead payload) :=
  .of_read (by decide) fun s => by
    unfold handlePlanRead
    split_ifs <;> rfl

theorem clearTrips_keeps : keepsTables clearTrips :=
  keepsTables_of_same fun s => by constructor <;> simp [clearTrips]

theorem handleTripClear_keeps (payload : List Byte) : HandlerKeeps .l2 0x25 (handleTripClear payload) := by
  refine .of_code (by decide) (fun s h => ?_) fun s => ?_
  · unfold handleTripClear
    dsimp only
    split_ifs
    · exact h
    · exact clearTrips_keeps s h
    · exact h
  · unfold handleTripClear
    split_ifs <;> rfl

/-! ### The requests of L3 (file 09) -/

theorem handleFaultAck_keeps (payload : List Byte) : HandlerKeeps .l3 0x36 (handleFaultAck payload) := by
  refine .of_code (by decide) (fun s h => ?_) fun s => ?_
  · unfold handleFaultAck
    dsimp only
    split_ifs
    · exact h
    · exact h
    · exact (sameTables_withTrips s _).keeps h
  · unfold handleFaultAck
    split_ifs <;> rfl

/-- Access levels, failures and the lockout are nothing that the promises read. -/
theorem failAccess_keeps : keepsTables fun s => s.withStore (failAccess s.store) :=
  keepsTables_of_same fun s => by
    unfold failAccess
    split_ifs <;> constructor <;> simp

theorem grantAccess_keeps (level : Nat) : keepsTables fun s => s.withStore (grantAccess level s.store) :=
  keepsTables_of_same fun s => by constructor <;> simp [grantAccess]

theorem testCode_keeps (level : Nat) (code : BitVec 32) : keepsTables fun s => (testCode level code s).1 := by
  intro s h
  unfold testCode
  dsimp only
  split
  · exact grantAccess_keeps level s h
  · exact failAccess_keeps s h

theorem testTruck_keeps : keepsTables fun s => (testTruck s).1 := by
  intro s h
  unfold testTruck
  dsimp only
  split
  · exact grantAccess_keeps 2 s h
  · exact h

theorem handleAccess_keeps (payload : List Byte) : HandlerKeeps .l3 0x30 (handleAccess payload) := by
  refine .of_code (by decide) (fun s h => ?_) fun s => ?_
  · unfold handleAccess
    dsimp only
    split_ifs
    · exact h
    · exact h
    · exact h
    · exact testTruck_keeps s h
    · exact testCode_keeps _ _ s h
  · unfold handleAccess testTruck testCode
    dsimp only
    split_ifs <;> rfl

theorem handleLogout_keeps (payload : List Byte) : HandlerKeeps .l3 0x31 (handleLogout payload) := by
  refine .of_code (by decide) (fun s h => ?_) fun s => ?_
  · unfold handleLogout
    dsimp only
    split
    · exact h
    · exact SameTables.keeps (by constructor <;> simp) h
  · unfold handleLogout
    split <;> rfl

/-- A ROW_STAGE is accepted with the Row Programmer IDLE and for a row of the tables (R176). -/
theorem stageResult_ok {payload : List Byte} {s : State} (h : stageResult payload s = .ok) :
    s.store.programmer = .idle ∧ (byteAt payload 0).toNat < 23 := by
  unfold stageResult at h
  split_ifs at h with hlength hbusy hrange
  push Not at hbusy hrange
  exact ⟨hbusy.2, by omega⟩

theorem handleStage_keeps (payload : List Byte) : HandlerKeeps .l3 0x33 (handleStage payload) := by
  refine .of_code (by decide) (fun s h => ?_) fun s => ?_
  · unfold handleStage
    dsimp only
    split
    next hok =>
      obtain ⟨hidle, hrow⟩ := stageResult_ok hok
      obtain ⟨hstartup, himage, -, hrestart⟩ := h
      refine ⟨hstartup, himage, ⟨fun st hst => ?_, fun hp => absurd hidle hp⟩, hrestart⟩
      obtain rfl : _ = st := Option.some.inj hst
      exact hrow
    · exact h
  · unfold handleStage
    split <;> rfl

/-- A ROW_COMMIT is accepted in PARKED, for a staged row that passes the range test of R179. -/
theorem commitResult_ok {r : Nat} {s : State} (h : commitResult r s = .ok) :
    s.mode = .parked ∧ ∃ st, s.store.stage = some st ∧ commitRangePasses s.store.image st.row st.entries = true := by
  unfold commitResult at h
  split at h
  next => cases h
  next st hst =>
    split_ifs at h with hrow haccess hmode hrange
    obtain ⟨hparked, -⟩ := hmode
    obtain rfl : st.row = r := not_not.mp hrow
    exact ⟨hparked, st, hst, hrange⟩

theorem handleCommit_keeps (payload : List Byte) : HandlerKeeps .l3 0x34 (handleCommit payload) := by
  refine ⟨fun s h hnone => ?_, fun s => ?_, fun _ _ _ hc => absurd hc (by decide)⟩
  · unfold handleCommit
    split_ifs
    · exact h
    · exact h
    · split
      next hok =>
        obtain ⟨hparked, st, hst, hrange⟩ := commitResult_ok hok
        obtain ⟨hdue, hopen⟩ := hnone rfl
        obtain ⟨⟨hmode, -⟩, himage, ⟨hrow, -⟩, -⟩ := h
        refine ⟨⟨hmode, fun hm => ?_⟩, himage, ⟨hrow, fun _ => ⟨st, hst, hrange⟩⟩, fun ha => absurd ha hopen,
          fun hd => absurd hd hdue⟩
        exact absurd (hparked.symm.trans hm) (by decide)
      next => exact h
  · unfold handleCommit
    split_ifs
    · rfl
    · rfl
    · split <;> rfl

/-- A RESTART is accepted only with the Row Programmer IDLE (R188). -/
theorem restartResult_ok {payload : List Byte} {s : State} (h : restartResult payload s = .ok) :
    s.store.programmer = .idle := by
  unfold restartResult at h
  split_ifs at h with _ _ _ hidle
  exact not_not.mp hidle

theorem handleRestart_keeps (payload : List Byte) : HandlerKeeps .l3 restartCode (handleRestart payload) where
  sound := fun _ h _ => h
  due := fun _ => rfl
  idle := by
    rintro s _ ⟨⟩ - hok
    exact restartResult_ok hok

/-- A verify leaves image and buffer, and its swap waits with what it is to install (R181, R182). -/
theorem verifyStore_frame (st : StagedRow) (cells : NvRow) (t : Store) :
    (verifyStore st cells t).image = t.image ∧ (verifyStore st cells t).stage = t.stage := by
  unfold verifyStore
  dsimp only
  split <;> simp

/-- A program ends outside STARTUP and with no accepted RESTART, since the Row Programmer has been at work. -/
theorem verify_keeps {s : State} {st : StagedRow} (cells : NvRow) (h : tablesSound s)
    (hprog : s.store.programmer = .programming) : tablesSound (s.withStore (verifyStore st cells s.store)) := by
  have hbusy : s.store.programmer ≠ .idle := by simp [hprog]
  obtain ⟨⟨hmode, hstartup⟩, himage, ⟨hrow, hfit⟩, haccepted, hdue⟩ := h
  obtain ⟨hsame, hstage⟩ := verifyStore_frame st cells s.store
  refine ⟨⟨hmode, fun hm => absurd (hstartup hm).2.2 hbusy⟩, ?_, ?_, fun ha => absurd (haccepted ha) hbusy,
    fun hd => absurd (hdue hd).1 hbusy⟩
  · simpa [imageSound, pairDecided, hsame] using himage
  · simp only [programmerSound, State.withStore_store, hsame, hstage]
    exact ⟨hrow, fun _ => hfit hbusy⟩

theorem programVerify_keeps (found : Option NvRow) : keepsTables (whileReleased fun s =>
    match s.store.programmer, s.store.stage with
    | .programming, some st => trySwap (s.withStore (verifyStore st (programmedRow st found) s.store))
    | _, _ => s) := by
  refine keepsTables.whileReleased fun s h => ?_
  split
  next st hprog hst => exact trySwap_keeps _ (verify_keeps _ h hprog)
  next => exact h

/-! ### Commands and steps -/

/-- Every command keeps the promises about the tables. -/
theorem exec_keeps (c : Instr) : ∃ f, (∀ s, exec c s = .next (f s)) ∧ keepsTables f := by
  cases c
  case coldReset => exact ⟨_, fun _ => rfl, coldReset_keeps⟩
  case resetNRelease => exact ⟨_, fun _ => rfl, resetNRelease_keeps⟩
  case validationComplete => exact ⟨_, fun _ => rfl, validationComplete_keeps⟩
  case warmRestart => exact ⟨_, fun _ => rfl, warmRestart_keeps⟩
  case baseIntervalExpiry => exact ⟨_, fun _ => rfl, expireInterval_keeps.whileReleased⟩
  case l1LinkStale => exact ⟨_, fun _ => rfl, ((countStandstill_keeps.comp countL1_keeps).whenDue l1Due).whileReleased⟩
  case l2LinkStale => exact ⟨_, fun _ => rfl, (countL2_keeps.whenDue l2Due).whileReleased⟩
  case chassisLinkLost => exact ⟨_, fun _ => rfl, (stepGrace_keeps.whenDue graceDue).whileReleased⟩
  case sensorHoldExpired w => exact ⟨_, fun _ => rfl, ((onMotor_keeps w _).whenDue (holdDue w)).whileReleased⟩
  case boostWindowEnd w => exact ⟨_, fun _ => rfl, ((onMotor_keeps w _).whenDue (boostDue w)).whileReleased⟩
  case recoverEnd w => exact ⟨_, fun _ => rfl, ((onMotor_keeps w _).whenDue (recoverDue w)).whileReleased⟩
  case steerPressureLow => exact ⟨_, fun _ => rfl, (steeringAtExpiry_keeps.whenDue pressureDue).whileReleased⟩
  case planAdvance => exact ⟨_, fun _ => rfl, (travelPlan_keeps.whenDue advanceDue).whileReleased⟩
  case retardShortfall => exact ⟨_, fun _ => rfl, (stepShortfall_keeps.whenDue shortfallDue).whileReleased⟩
  case lockoutEnd => exact ⟨_, fun _ => rfl, (countLockout_keeps.whenDue lockoutDue).whileReleased⟩
  case serviceIdleTimeout => exact ⟨_, fun _ => rfl, (countIdle_keeps.whenDue idleDue).whileReleased⟩
  case markerCharacter p a => exact ⟨_, fun _ => rfl, (onMarker_keeps p a).whileReleased⟩
  case framingError p => exact ⟨_, fun _ => rfl, (onFramingError_keeps p).whileReleased⟩
  case gapTimeout p => exact ⟨_, fun _ => rfl, (onGap_keeps p).whileReleased⟩
  case lengthError p n => exact ⟨_, fun _ => rfl, (onLength_keeps p n).whileReleased⟩
  case shortBreak p => exact ⟨_, fun _ => rfl, (onShortBreak_keeps p).whileReleased⟩
  case longBreak p => exact ⟨_, fun _ => rfl, (onLongBreak_keeps p).whileReleased⟩
  case checkFailure p code pl check => exact ⟨_, fun _ => rfl, (onCheckFailure_keeps p code pl check).whileReleased⟩
  case unknownRequest p code pl => exact ⟨_, fun _ => rfl, (unknownRequest_keeps p code pl).whileReleased⟩
  case replyBegin p => exact ⟨_, fun _ => rfl, (beginReply_keeps p).whileReleased⟩
  case replyComplete p => exact ⟨_, fun _ => rfl, (completeReply_keeps p).whileReleased⟩
  case measure pl => exact ⟨_, fun _ => rfl, (serveRequest_keeps .l1 pl (handleMeasure_keeps pl)).whileReleased⟩
  case passCompletion b => exact ⟨_, fun _ => rfl, ((completePass_keeps b).comp runStages_keeps).whileReleased⟩
  case grantRead pl => exact ⟨_, fun _ => rfl, (readRequest_keeps .l1 pl (code := 0x11) (by decide) 0 _).whileReleased⟩
  case linkStatus p pl => exact ⟨_, fun _ => rfl, (readRequest_keeps p pl (code := 0x1F) (by decide) 0 _).whileReleased⟩
  case demand pl => exact ⟨_, fun _ => rfl, (serveRequest_keeps .l2 pl (handleDemand_keeps pl)).whileReleased⟩
  case planAppend pl => exact ⟨_, fun _ => rfl, (serveRequest_keeps .l2 pl (handleAppend_keeps pl)).whileReleased⟩
  case planStart pl => exact ⟨_, fun _ => rfl, (serveRequest_keeps .l2 pl (handleStart_keeps pl)).whileReleased⟩
  case planClear pl => exact ⟨_, fun _ => rfl, (serveRequest_keeps .l2 pl (handleClear_keeps pl)).whileReleased⟩
  case planRead pl => exact ⟨_, fun _ => rfl, (serveRequest_keeps .l2 pl (handlePlanRead_keeps pl)).whileReleased⟩
  case tripClear pl => exact ⟨_, fun _ => rfl, (serveRequest_keeps .l2 pl (handleTripClear_keeps pl)).whileReleased⟩
  case faultRead p pl => exact ⟨_, fun _ => rfl, (serveRequest_keeps p pl (faultRead_keeps p pl)).whileReleased⟩
  case faultAck pl => exact ⟨_, fun _ => rfl, (serveRequest_keeps .l3 pl (handleFaultAck_keeps pl)).whileReleased⟩
  case access pl => exact ⟨_, fun _ => rfl, (serveRequest_keeps .l3 pl (handleAccess_keeps pl)).whileReleased⟩
  case logout pl => exact ⟨_, fun _ => rfl, (serveRequest_keeps .l3 pl (handleLogout_keeps pl)).whileReleased⟩
  case rowRead pl => exact ⟨_, fun _ => rfl, (readRequest_keeps .l3 pl (code := 0x32) (by decide) 1 _).whileReleased⟩
  case rowStage pl => exact ⟨_, fun _ => rfl, (serveRequest_keeps .l3 pl (handleStage_keeps pl)).whileReleased⟩
  case rowCommit pl => exact ⟨_, fun _ => rfl, (serveRequest_keeps .l3 pl (handleCommit_keeps pl)).whileReleased⟩
  case programVerify found => exact ⟨_, fun _ => rfl, programVerify_keeps found⟩
  case storeStatus pl => exact ⟨_, fun _ => rfl, (readRequest_keeps .l3 pl (code := 0x35) (by decide) 0 _).whileReleased⟩
  case countersRead pl => exact ⟨_, fun _ => rfl, (readRequest_keeps .l3 pl (code := 0x37) (by decide) 0 _).whileReleased⟩
  case modelRead pl => exact ⟨_, fun _ => rfl, (readRequest_keeps .l3 pl (code := 0x38) (by decide) 1 _).whileReleased⟩
  case identRead pl => exact ⟨_, fun _ => rfl, (readRequest_keeps .l3 pl (code := 0x39) (by decide) 0 _).whileReleased⟩
  case restart pl => exact ⟨_, fun _ => rfl, (serveRequest_keeps .l3 pl (handleRestart_keeps pl)).whileReleased⟩

/-- With no command waiting the part keeps the promises by what it does by itself. -/
theorem idleWork_keeps : keepsTables idleWork := (runStages_keeps.comp validateNext_keeps).whileReleased

/-- Settles O51, command by command. -/
theorem stepKeepsTheTables : Obligations.StepKeepsTheTables := by
  intro s t h hstep
  unfold step at hstep
  split at hstep
  · exact Host.Outcome.next.inj hstep ▸ idleWork_keeps s h
  next c rest _ =>
    obtain ⟨f, hf, hkeeps⟩ := exec_keeps c
    have hrest : tablesSound (s.withPending rest) := h
    exact Host.Outcome.next.inj ((hf _).symm.trans hstep) ▸ hkeeps _ hrest

end Sys2Proof.Proofs
end

section
/-! SUPPORT. Promises kept by commands and steps, whatever the promise: what a request frame can do, what the owner of each
request leaves, and the commands gathered (O54, O55). -/

namespace Sys2Proof.Proofs

open Sys2Proof.Machine Sys2Proof.Safety Sys2Proof.Claims

/-! ### Operations that keep a promise -/

/-- An operation keeps the promise `P`. -/
def Keeps (P : State → Prop) (f : State → State) : Prop := ∀ s, P s → P (f s)

theorem Keeps.comp {P : State → Prop} {f g : State → State} (hg : Keeps P g) (hf : Keeps P f) : Keeps P fun s => g (f s) :=
  fun s h => hg _ (hf s h)

/-- A command that acts while RESET_N is high keeps a promise if its effect does. -/
theorem Keeps.whileReleased {P : State → Prop} {f : State → State} (hf : Keeps P f) : Keeps P (whileReleased f) := by
  intro s h
  unfold Machine.whileReleased
  split
  · exact h
  · exact hf s h

/-- A share that is taken only where it is due has that to rest on. -/
theorem Keeps.whenDue {P : State → Prop} {due : State → Bool} {f : State → State}
    (hf : ∀ s, due s = true → P s → P (f s)) : Keeps P (whenDue due f) := by
  intro s h
  unfold Machine.whenDue
  split
  next hdue => exact hf s hdue h
  next => exact h

/-! ### Requests (R154 to R157) -/

/-- What a request frame can do: it is discarded, it is abandoned on its length byte, or it is counted and handed to its owner,
whose answer is owed. -/
theorem serveRequest_cases (p : PortId) (code : Byte) (payload : List Byte) (handle : State → State × Option ReplyBody)
    (s : State) :
    serveRequest p code payload handle s = s ∨ serveRequest p code payload handle s = abandonOnLength p s ∨
    ∃ a, (s.port p).receive = .addressed a ∧ serveRequest p code payload handle s =
      setReceive p (.replyPending a code (handle (heard p s)).2) (handle (heard p s)).1 := by
  unfold serveRequest
  split
  next a ha =>
    split
    · exact .inr (.inl rfl)
    · exact .inr (.inr ⟨a, ha, takeSound_eq rfl⟩)
  · exact .inl rfl

/-- A MEASURE of 23 bytes is accepted, and any other changes nothing (R22). -/
theorem handleMeasure_state (payload : List Byte) (s : State) :
    (handleMeasure payload s).1 =
      if payload.length = 23 then (engineAtMeasure payload (takeMeasure (readMeasure payload) s)).1 else s := by
  simp only [handleMeasure, apply_ite Prod.fst]

/-- A PLAN_START changes the plan at most (R114). -/
theorem handleStart_state (payload : List Byte) (s : State) :
    (handleStart payload s).1 = s ∨ (handleStart payload s).1 = startPlan s := by
  unfold handleStart
  split_ifs <;> simp

/-- A PLAN_CLEAR empties the plan at most (R115). -/
theorem handleClear_state (payload : List Byte) (s : State) :
    (handleClear payload s).1 = s ∨ (handleClear payload s).1 = s.withPlanner (clearedPlan s.planner) := by
  unfold handleClear
  split_ifs <;> simp

theorem handlePlanRead_state (payload : List Byte) (s : State) : (handlePlanRead payload s).1 = s := by
  unfold handlePlanRead
  split_ifs <;> rfl

/-- A TRIP_CLEAR clears trips at most (R144). -/
theorem handleTripClear_state (payload : List Byte) (s : State) :
    (handleTripClear payload s).1 = s ∨ (handleTripClear payload s).1 = clearTrips s := by
  unfold handleTripClear
  split_ifs <;> simp

/-- A FAULT_ACK removes CLEARED records at most (R148). -/
theorem handleFaultAck_state (payload : List Byte) (s : State) :
    (handleFaultAck payload s).1 = s ∨
    (handleFaultAck payload s).1 = s.withTrips { s.trips with faults := s.trips.faults.filter fun r => !r.cleared } := by
  unfold handleFaultAck
  split_ifs <;> simp

/-- An ACCESS grants level 1 or 2, counts a failure, or changes nothing (R170, R171). -/
theorem handleAccess_state (payload : List Byte) (s : State) :
    (handleAccess payload s).1 = s ∨ (handleAccess payload s).1 = s.withStore (failAccess s.store) ∨
    ∃ level, (level = 1 ∨ level = 2) ∧ (handleAccess payload s).1 = s.withStore (grantAccess level s.store) := by
  unfold handleAccess testTruck testCode
  dsimp only
  split_ifs with _ hlevel
  · exact .inl rfl
  · exact .inl rfl
  · exact .inl rfl
  · exact .inr (.inr ⟨2, .inr rfl, rfl⟩)
  · exact .inl rfl
  · exact .inr (.inr ⟨_, by omega, rfl⟩)
  · exact .inr (.inl rfl)

/-- A LOGOUT drops the ACCESS LEVEL at most (R173). -/
theorem handleLogout_state (payload : List Byte) (s : State) :
    (handleLogout payload s).1 = s ∨ (handleLogout payload s).1 = s.withStore { s.store with accessLevel := 0 } := by
  unfold handleLogout
  split_ifs <;> simp

/-- A ROW_STAGE fills the STAGE BUFFER at most (R177). -/
theorem handleStage_state (payload : List Byte) (s : State) :
    (handleStage payload s).1 = s ∨ ∃ r e values, (handleStage payload s).1 = s.withStore (stageValues r e values s.store) := by
  unfold handleStage
  split
  · exact .inr ⟨_, _, _, rfl⟩
  · exact .inl rfl

/-- A ROW_COMMIT starts the programmer at most (R180). -/
theorem handleCommit_state (payload : List Byte) (s : State) :
    (handleCommit payload s).1 = s ∨ (handleCommit payload s).1 = s.withStore { s.store with programmer := .programming } := by
  unfold handleCommit
  split_ifs
  · exact .inl rfl
  · exact .inl rfl
  · split
    · exact .inr rfl
    · exact .inl rfl

/-- The owner of a request answers it at once: only a MEASURE may have to wait for its pass (R157). -/
def Answers (handle : State → State × Option ReplyBody) : Prop := ∀ s, (handle s).2.isSome = true

theorem handleDemand_answers (payload : List Byte) : Answers (handleDemand payload) := fun s => by
  unfold handleDemand
  split <;> rfl

theorem handleAppend_answers (payload : List Byte) : Answers (handleAppend payload) := fun s => by
  unfold handleAppend
  split
  · rfl
  · split <;> rfl

theorem handleStart_answers (payload : List Byte) : Answers (handleStart payload) := fun s => by
  unfold handleStart
  split_ifs <;> rfl

theorem handleClear_answers (payload : List Byte) : Answers (handleClear payload) := fun s => by
  unfold handleClear
  split_ifs <;> rfl

theorem handlePlanRead_answers (payload : List Byte) : Answers (handlePlanRead payload) := fun s => by
  unfold handlePlanRead
  split_ifs <;> rfl

theorem handleTripClear_answers (payload : List Byte) : Answers (handleTripClear payload) := fun s => by
  unfold handleTripClear
  split_ifs <;> rfl

theorem handleFaultAck_answers (payload : List Byte) : Answers (handleFaultAck payload) := fun s => by
  unfold handleFaultAck
  split_ifs <;> rfl

theorem handleAccess_answers (payload : List Byte) : Answers (handleAccess payload) := fun s => by
  unfold handleAccess testTruck testCode
  dsimp only
  split_ifs <;> rfl

theorem handleLogout_answers (payload : List Byte) : Answers (handleLogout payload) := fun s => by
  unfold handleLogout
  split <;> rfl

theorem handleStage_answers (payload : List Byte) : Answers (handleStage payload) := fun s => by
  unfold handleStage
  split <;> rfl

theorem handleCommit_answers (payload : List Byte) : Answers (handleCommit payload) := fun s => by
  unfold handleCommit
  split_ifs
  · rfl
  · rfl
  · split <;> rfl

/-! ### The commands gathered -/

/-- A promise that the owner of a request keeps is kept by the request: the frame is counted, the answer owed. -/
abbrev RequestKeeps (P : State → Prop) (p : PortId) (code : Byte) (payload : List Byte)
    (handle : State → State × Option ReplyBody) : Prop :=
  Keeps P (serveRequest p code payload handle)

/-- The promise `P` is kept by everything that a command or the part by itself does. Requests that only read are taken
together, with what their owners keep of the tables' promises. -/
structure CommandsKeep (P : State → Prop) : Prop where
  pending : ∀ rest, Keeps P fun s => s.withPending rest
  idle : Keeps P fun s => runStages (validateNext s)
  coldReset : Keeps P fun s => ((State.coldReset (nvAfterColdReset s.freeCount s.store)).withFreeCount
    (s.freeCount + freeTakenByReset s.store)).withPending s.pending
  resetNRelease : Keeps P fun s => if s.resetLow then startValidation (s.withResetLow false) else s
  validationComplete : ∀ r s, s.resetLow = false → s.validation = some r → P s → P (completeValidation r s)
  warmRestart : ∀ s, warmRestartDue s = true → P s → P (startValidation (afterWarmRestart s))
  expiry : Keeps P expireInterval
  l1Stale : Keeps P (whenDue l1Due fun s => countStandstill (countL1 s))
  l2Stale : Keeps P (whenDue l2Due countL2)
  grace : Keeps P (whenDue graceDue stepGrace)
  holdExpired : ∀ w, Keeps P (whenDue (holdDue w) fun s =>
    onMotor w (fun m => handBand s.store.image (formMotorBand s.store.image (countHold m))) s)
  boostEnd : ∀ w, Keeps P (whenDue (boostDue w) fun s => onMotor w (countMotorBoost s.store.image) s)
  recoverEnd : ∀ w, Keeps P (whenDue (recoverDue w) fun s => onMotor w (countMotorBoost s.store.image) s)
  pressure : Keeps P (whenDue pressureDue steeringAtExpiry)
  advance : Keeps P (whenDue advanceDue travelPlan)
  shortfall : Keeps P (whenDue shortfallDue stepShortfall)
  lockoutEnd : Keeps P (whenDue lockoutDue fun s => s.withStore (countLockout s.store))
  idleTimeout : Keeps P (whenDue idleDue fun s => s.withStore (countIdle s.store))
  marker : ∀ p a, Keeps P (onMarker p a)
  framingError : ∀ p, Keeps P (onFramingError p)
  gap : ∀ p, Keeps P (onGap p)
  length : ∀ p n, Keeps P (onLength p n)
  shortBreak : ∀ p, Keeps P (onShortBreak p)
  longBreak : ∀ p, Keeps P (onLongBreak p)
  checkFailure : ∀ p code payload check, Keeps P (onCheckFailure p code payload check)
  replyBegin : ∀ p, Keeps P (beginReply p)
  replyComplete : ∀ p, Keeps P (completeReply p)
  read : ∀ p code payload handle, (∀ s, (handle s).1 = s) → Answers handle → HandlerKeeps p code handle →
    RequestKeeps P p code payload handle
  measure : ∀ payload, RequestKeeps P .l1 0x10 payload (handleMeasure payload)
  passCompletion : ∀ b, Keeps P fun s => completePass b (runStages s)
  demand : ∀ payload, RequestKeeps P .l2 0x20 payload (handleDemand payload)
  planAppend : ∀ payload, RequestKeeps P .l2 0x21 payload (handleAppend payload)
  planStart : ∀ payload, RequestKeeps P .l2 0x22 payload (handleStart payload)
  planClear : ∀ payload, RequestKeeps P .l2 0x23 payload (handleClear payload)
  tripClear : ∀ payload, RequestKeeps P .l2 0x25 payload (handleTripClear payload)
  faultAck : ∀ payload, RequestKeeps P .l3 0x36 payload (handleFaultAck payload)
  access : ∀ payload, RequestKeeps P .l3 0x30 payload (handleAccess payload)
  logout : ∀ payload, RequestKeeps P .l3 0x31 payload (handleLogout payload)
  rowStage : ∀ payload, RequestKeeps P .l3 0x33 payload (handleStage payload)
  rowCommit : ∀ payload, RequestKeeps P .l3 0x34 payload (handleCommit payload)
  programVerify : ∀ found s st, s.store.programmer = .programming → s.store.stage = some st → P s →
    P (trySwap (s.withStore (verifyStore st (programmedRow st found) s.store)))

/-- A command whose effect is `f` keeps what `f` keeps. -/
theorem Keeps.of_next {P : State → Prop} {f : State → State} (hf : Keeps P f) (s t : State) (h : P s)
    (e : (Host.Outcome.next (f s) : Host.Outcome State Fault Refusal) = .next t) : P t :=
  Host.Outcome.next.inj e ▸ hf s h

/-- A request that only reads keeps the promise. -/
theorem CommandsKeep.answerRead {P : State → Prop} (h : CommandsKeep P) (p : PortId) {code : Byte}
    (hcode : code ≠ restartCode) (payload : List Byte) (n : Nat) (body : State → ReplyBody) :
    RequestKeeps P p code payload (answerRead n payload body) :=
  h.read p code payload _ (fun _ => rfl) (fun _ => rfl) (answerRead_keeps hcode n payload body)

/-- Every command keeps a promise that everything it does keeps. -/
theorem CommandsKeep.exec {P : State → Prop} (h : CommandsKeep P) (c : Instr) (s t : State) (hs : P s)
    (e : exec c s = .next t) : P t := by
  cases c
  case coldReset => exact h.coldReset.of_next s t hs e
  case resetNRelease => exact h.resetNRelease.of_next s t hs e
  case validationComplete =>
    refine Host.Outcome.next.inj e ▸ ?_
    unfold whileReleased
    split
    · exact hs
    next hlow =>
      dsimp only
      split
      next r hval => exact h.validationComplete r s (Bool.eq_false_iff.mpr hlow) hval hs
      next => exact hs
  case warmRestart =>
    have hkeeps : Keeps P fun s => if warmRestartDue s then startValidation (afterWarmRestart s) else s := by
      intro s hs
      dsimp only
      split
      next hdue => exact h.warmRestart s hdue hs
      next => exact hs
    exact hkeeps.whileReleased.of_next s t hs e
  case baseIntervalExpiry => exact h.expiry.whileReleased.of_next s t hs e
  case l1LinkStale => exact h.l1Stale.whileReleased.of_next s t hs e
  case l2LinkStale => exact h.l2Stale.whileReleased.of_next s t hs e
  case chassisLinkLost => exact h.grace.whileReleased.of_next s t hs e
  case sensorHoldExpired w => exact (h.holdExpired w).whileReleased.of_next s t hs e
  case boostWindowEnd w => exact (h.boostEnd w).whileReleased.of_next s t hs e
  case recoverEnd w => exact (h.recoverEnd w).whileReleased.of_next s t hs e
  case steerPressureLow => exact h.pressure.whileReleased.of_next s t hs e
  case planAdvance => exact h.advance.whileReleased.of_next s t hs e
  case retardShortfall => exact h.shortfall.whileReleased.of_next s t hs e
  case lockoutEnd => exact h.lockoutEnd.whileReleased.of_next s t hs e
  case serviceIdleTimeout => exact h.idleTimeout.whileReleased.of_next s t hs e
  case markerCharacter p a => exact (h.marker p a).whileReleased.of_next s t hs e
  case framingError p => exact (h.framingError p).whileReleased.of_next s t hs e
  case gapTimeout p => exact (h.gap p).whileReleased.of_next s t hs e
  case lengthError p n => exact (h.length p n).whileReleased.of_next s t hs e
  case shortBreak p => exact (h.shortBreak p).whileReleased.of_next s t hs e
  case longBreak p => exact (h.longBreak p).whileReleased.of_next s t hs e
  case checkFailure p code pl check => exact (h.checkFailure p code pl check).whileReleased.of_next s t hs e
  case unknownRequest p code pl =>
    have hkeeps : Keeps P fun s => if isListed p code then s else serveRequest p code pl answerUnknown s := by
      intro s hs
      dsimp only
      split
      · exact hs
      · exact h.read p code pl _ (fun _ => rfl) (fun _ => rfl) (answerUnknown_keeps p code) s hs
    exact hkeeps.whileReleased.of_next s t hs e
  case replyBegin p => exact (h.replyBegin p).whileReleased.of_next s t hs e
  case replyComplete p => exact (h.replyComplete p).whileReleased.of_next s t hs e
  case measure pl => exact (h.measure pl).whileReleased.of_next s t hs e
  case passCompletion b => exact (h.passCompletion b).whileReleased.of_next s t hs e
  case grantRead pl => exact (h.answerRead .l1 (code := 0x11) (by decide) pl 0 _).whileReleased.of_next s t hs e
  case linkStatus p pl => exact (h.answerRead p (code := 0x1F) (by decide) pl 0 _).whileReleased.of_next s t hs e
  case demand pl => exact (h.demand pl).whileReleased.of_next s t hs e
  case planAppend pl => exact (h.planAppend pl).whileReleased.of_next s t hs e
  case planStart pl => exact (h.planStart pl).whileReleased.of_next s t hs e
  case planClear pl => exact (h.planClear pl).whileReleased.of_next s t hs e
  case planRead pl =>
    exact (h.read .l2 0x24 pl _ (handlePlanRead_state pl) (handlePlanRead_answers pl)
      (handlePlanRead_keeps pl)).whileReleased.of_next s t hs e
  case tripClear pl => exact (h.tripClear pl).whileReleased.of_next s t hs e
  case faultRead p pl =>
    have hkeeps : RequestKeeps P p 0x26 pl
        (if isListed p 0x26 then Machine.answerRead 1 pl (faultReadReply pl) else answerUnknown) := by
      split
      · exact h.answerRead p (by decide) pl 1 _
      · exact h.read p 0x26 pl _ (fun _ => rfl) (fun _ => rfl) (answerUnknown_keeps p _)
    exact hkeeps.whileReleased.of_next s t hs e
  case faultAck pl => exact (h.faultAck pl).whileReleased.of_next s t hs e
  case access pl => exact (h.access pl).whileReleased.of_next s t hs e
  case logout pl => exact (h.logout pl).whileReleased.of_next s t hs e
  case rowRead pl => exact (h.answerRead .l3 (code := 0x32) (by decide) pl 1 _).whileReleased.of_next s t hs e
  case rowStage pl => exact (h.rowStage pl).whileReleased.of_next s t hs e
  case rowCommit pl => exact (h.rowCommit pl).whileReleased.of_next s t hs e
  case programVerify found =>
    refine Host.Outcome.next.inj e ▸ Keeps.whileReleased (fun s hs => ?_) s hs
    split
    next st hprog hst => exact h.programVerify found s st hprog hst hs
    next => exact hs
  case storeStatus pl => exact (h.answerRead .l3 (code := 0x35) (by decide) pl 0 _).whileReleased.of_next s t hs e
  case countersRead pl => exact (h.answerRead .l3 (code := 0x37) (by decide) pl 0 _).whileReleased.of_next s t hs e
  case modelRead pl => exact (h.answerRead .l3 (code := 0x38) (by decide) pl 1 _).whileReleased.of_next s t hs e
  case identRead pl => exact (h.answerRead .l3 (code := 0x39) (by decide) pl 0 _).whileReleased.of_next s t hs e
  case restart pl =>
    exact (h.read .l3 restartCode pl _ (fun _ => rfl) (fun _ => rfl) (handleRestart_keeps pl)).whileReleased.of_next s t hs e

/-- Every step keeps a promise that everything a command does keeps. -/
theorem CommandsKeep.step {P : State → Prop} (h : CommandsKeep P) (s t : State) (hs : P s) (e : step s = .next t) : P t := by
  unfold Machine.step at e
  split at e
  · exact h.idle.whileReleased.of_next s t hs e
  next c rest _ => exact h.exec c _ t (h.pending rest s hs) e

end Sys2Proof.Proofs
end

section
/-! SUPPORT. The present marks: which mark each operation sets, and that it sets no other (R40, R134). -/

namespace Sys2Proof.Proofs

open Sys2Proof.Machine Sys2Proof.Safety Sys2Proof.Claims

/-! ### One owner, one mark -/

theorem markPresent_get (c e : TripCode) (b : Bool) (s : State) :
    (markPresent c b s).present.get e = if e = c then b else s.present.get e := by
  by_cases h : e = c
  · subst h
    simp [markPresent]
  · simp [markPresent, h]

theorem formGrid_get (g : Grid) (s : State) (e : TripCode) : (formGrid g s).present.get e =
    if e = .gridOvertemp then decide ((gridTrip s.store.image : Int) ≤ (formBand g).effective) else s.present.get e := by
  unfold formGrid
  dsimp only
  split
  · simp [judgeCondition_get]
  · rw [judgeCondition_get]
    rfl

theorem gridAtExpiry_get {e : TripCode} (h : e ≠ .gridOvertemp) (s : State) :
    (gridAtExpiry s).present.get e = s.present.get e := by
  unfold gridAtExpiry
  split
  · rfl
  · rw [formGrid_get, if_neg h]

theorem gridAtMeasure_get {e : TripCode} (h : e ≠ .gridOvertemp) (m : MeasurementRecord) (s : State) :
    (gridAtMeasure m s).present.get e = s.present.get e := by
  unfold gridAtMeasure
  split <;> rw [formGrid_get, if_neg h]

theorem judgeMotor_get {w : Wheel} {e : TripCode} (h : e ≠ motorOvertempOf w) (m : MeasurementRecord) (s : State) :
    (judgeMotor w m s).present.get e = s.present.get e := by
  unfold judgeMotor
  split
  · rw [judgeCondition_get, if_neg h]
  · rfl

theorem thermalAtMeasure_get {e : TripCode} (h : e ≠ .gridOvertemp) (hw : ∀ w, e ≠ motorOvertempOf w)
    (m : MeasurementRecord) (s : State) : (thermalAtMeasure m s).present.get e = s.present.get e := by
  simp only [thermalAtMeasure, wheelAtMeasure, judgeMotor_get (hw _), onMotor_frame, gridAtMeasure_get h]

theorem thermalAtExpiry_get {e : TripCode} (h : e ≠ .gridOvertemp) (s : State) :
    (thermalAtExpiry s).present.get e = s.present.get e := by
  simp only [thermalAtExpiry, onMotor_frame, gridAtExpiry_get h]

/-- The excess count of wheel `w` after a comparison (R67). -/
def excessAfter (w : Wheel) (granted achieved : Int) (s : State) : Nat :=
  if inExcess granted achieved (tqTol s.store.image) then saturate 5 (s.engine.excess.get w) else 0

/-- The state with a wheel's excess count stepped and the mark that stands at 5 set, before any raise (R67). -/
def excessMarked (w : Wheel) (granted achieved : Int) (s : State) : State :=
  markPresent (torqueExcessOf w) (decide (excessAfter w granted achieved s = 5))
    (s.withEngine { s.engine with excess := s.engine.excess.set w (excessAfter w granted achieved s) })

/-- Supervision of a wheel steps its count and raises the code where the count goes from 4 to 5 (R67). -/
theorem superviseWheel_eq (w : Wheel) (granted achieved : Int) (s : State) : superviseWheel w granted achieved s =
    if s.engine.excess.get w = 4 ∧ excessAfter w granted achieved s = 5 then
      raiseTrip (torqueExcessOf w) (some achieved) (excessMarked w granted achieved s)
    else excessMarked w granted achieved s := rfl

theorem superviseWheel_get {w : Wheel} {e : TripCode} (h : e ≠ torqueExcessOf w) (granted achieved : Int) (s : State) :
    (superviseWheel w granted achieved s).present.get e = s.present.get e := by
  have hmarked : (excessMarked w granted achieved s).present.get e = s.present.get e := by
    simp [excessMarked, markPresent_get, h]
  rw [superviseWheel_eq]
  split <;> simp [hmarked]

theorem supervise_get {e : TripCode} (h : ∀ w, e ≠ torqueExcessOf w) (granted : Both Int) (m : MeasurementRecord)
    (s : State) : (supervise granted m s).present.get e = s.present.get e := by
  unfold supervise
  split
  · rfl
  · rw [superviseWheel_get (h _), superviseWheel_get (h _)]

theorem judgeOverspeed_get {e : TripCode} (h : e ≠ .overspeed) (m : MeasurementRecord) (s : State) :
    (judgeOverspeed m s).present.get e = s.present.get e := by
  rw [judgeOverspeed, judgeCondition_get, if_neg h]

theorem steeringAtExpiry_get {e : TripCode} (h : e ≠ .steerPressureLow) (s : State) :
    (steeringAtExpiry s).present.get e = s.present.get e := by
  unfold steeringAtExpiry
  dsimp only
  split <;> simp [markPresent_get, h]

theorem stepShortfall_get {e : TripCode} (h : e ≠ .retardShortfall) (s : State) :
    (stepShortfall s).present.get e = s.present.get e := by
  unfold stepShortfall
  dsimp only
  rw [judgeCondition_get, if_neg h]
  rfl

theorem plannerAtExpiry_get {e : TripCode} (h : e ≠ .retardShortfall) (s : State) :
    (plannerAtExpiry s).present.get e = s.present.get e := by
  simp [plannerAtExpiry, stepShortfall_get h]

/-! ### The marks of the INTAKE UNIT -/

theorem staleL1_get (s : State) (e : TripCode) :
    (staleL1 s).present.get e = if e = .propLinkLost then true else s.present.get e := by
  simp [staleL1, markPresent_get]

theorem stepGrace_get (s : State) (e : TripCode) : (stepGrace s).present.get e =
    if e = .chassisLinkLost then
      decide (l2Grace s.store.image ≤ s.intake.grace + 1) || s.present.chassisLinkLost
    else s.present.get e := by
  have hreach : l2Grace s.store.image ≤ min (s.intake.grace + 1) (l2Grace s.store.image) ↔
      l2Grace s.store.image ≤ s.intake.grace + 1 := by omega
  simp [stepGrace, judgeCondition_get, hreach]

end Sys2Proof.Proofs
end

section
/-! SUPPORT. The records of the INTAKE UNIT as payloads give them, and every step keeps the INTAKE UNIT sound (O55). -/

namespace Sys2Proof.Proofs

open Sys2Proof.Machine Sys2Proof.Safety Sys2Proof.Claims

/-! ### The records as stored (R23, R24, R27) -/

theorem readMeasure_eq (p : List Byte) : readMeasure p = measureOf p := by
  simp [readMeasure, measureOf, clampInt, clampNat, windingIsValid, gridSensorIsValid]

theorem readDemand_eq (p : List Byte) : readDemand p = demandOf p := rfl

/-- A signed figure of two bytes has 16 bits. -/
theorem signedAt_carries (p : List Byte) (i : Nat) : carries (signedAt p i) := by
  have hlow := BitVec.le_toInt (wordAt p i)
  have hhigh := BitVec.toInt_le (x := wordAt p i)
  simp only [carries, signedAt]
  omega

/-- An unsigned figure of two bytes has 16 bits. -/
theorem unsignedAt_le (p : List Byte) (i : Nat) : unsignedAt p i ≤ 65535 := by
  have := (wordAt p i).isLt
  simp only [unsignedAt]
  omega

/-- The record of any MEASURE payload is in bounds (R23, R24). -/
theorem measureOf_sound (p : List Byte) : measurementSound (measureOf p) := by
  refine ⟨fun w => ?_, by simp [measureOf], fun w => ?_, fun w => ⟨?_, ?_⟩, by simp [measureOf], signedAt_carries p 16,
    by simp [measureOf], unsignedAt_le p 18, by simp [measureOf], by simp [measureOf]⟩
  · cases w <;> simp [measureOf, Both.get]
  · cases w <;> simp [measureOf, Both.get]
  · cases w <;> exact signedAt_carries p _
  · cases w <;> simp [measureOf, Both.get]

/-- The record of any DEMAND payload is in bounds (R27). -/
theorem demandOf_sound (p : List Byte) : demandSound (demandOf p) := by
  refine ⟨by simp [demandOf], by simp [demandOf], by simp [demandOf], by simp [demandOf], by simp [demandOf],
    by simp [demandOf], fun h hh => ?_⟩
  simp only [demandOf] at hh
  split_ifs at hh
  obtain rfl := Option.some.inj hh
  omega

/-! ### What the promise reads -/

/-- The promise of the INTAKE UNIT. -/
def intakePromise (s : State) : Prop := intakeSound s.intake ∧ linkMarksSound s

/-- What the promise of the INTAKE UNIT reads stands in `t` as in `s`. -/
structure SameIntake (s t : State) : Prop where
  intake : t.intake = s.intake
  propLost : t.present.get .propLinkLost = s.present.get .propLinkLost
  chassisLost : t.present.get .chassisLinkLost = s.present.get .chassisLinkLost

theorem SameIntake.keeps {s t : State} (e : SameIntake s t) (h : intakePromise s) : intakePromise t := by
  obtain ⟨hi, hp, hc⟩ := h
  refine ⟨e.intake ▸ hi, ?_, ?_⟩
  · rw [e.intake]
    exact (iff_of_eq (congrArg (· = true) e.propLost)).trans hp
  · rw [e.intake]
    exact fun h => hc (e.chassisLost.symm.trans h)

theorem keepsIntake_of_same {f : State → State} (h : ∀ s, SameIntake s (f s)) : Keeps intakePromise f :=
  fun s hs => (h s).keeps hs

theorem keepsIntake_whenDue {due : State → Bool} {f : State → State} (h : ∀ s, SameIntake s (f s)) :
    Keeps intakePromise (whenDue due f) :=
  Keeps.whenDue fun s _ => keepsIntake_of_same h s

/-! ### Ports and requests -/

theorem sameIntake_setReceive (p : PortId) (r : Receive) (s : State) : SameIntake s (setReceive p r s) := by
  constructor <;> simp

theorem sameIntake_countOn (p : PortId) (f : Counters → Counters) (s : State) : SameIntake s (countOn p f s) := by
  constructor <;> simp

theorem SameIntake.trans {s t u : State} (h : SameIntake s t) (h' : SameIntake t u) : SameIntake s u :=
  ⟨h'.intake.trans h.intake, h'.propLost.trans h.propLost, h'.chassisLost.trans h.chassisLost⟩

theorem SameIntake.rfl {s : State} : SameIntake s s := ⟨Eq.refl _, Eq.refl _, Eq.refl _⟩

/-- A port counted and put into a receive state. -/
theorem sameIntake_port (p : PortId) (r : Receive) (f : Counters → Counters) (s : State) :
    SameIntake s (setReceive p r (countOn p f s)) :=
  (sameIntake_countOn p f s).trans (sameIntake_setReceive p r _)

theorem sameIntake_takeMarker (p : PortId) (a : Byte) (s : State) : SameIntake s (takeMarker p a s) := by
  unfold takeMarker
  split_ifs
  · exact sameIntake_setReceive p _ s
  · exact sameIntake_setReceive p _ s
  · exact sameIntake_port p _ _ s

theorem sameIntake_onMarker (p : PortId) (a : Byte) (s : State) : SameIntake s (onMarker p a s) := by
  unfold onMarker
  split
  · exact .rfl
  · split
    · exact sameIntake_takeMarker p a s
    · exact sameIntake_takeMarker p a s
    · exact (sameIntake_countOn p _ s).trans (sameIntake_takeMarker p a _)
    · exact (sameIntake_countOn p _ s).trans (sameIntake_takeMarker p a _)
    · exact .rfl

theorem sameIntake_onFramingError (p : PortId) (s : State) : SameIntake s (onFramingError p s) := by
  unfold onFramingError
  split
  · exact sameIntake_port p _ _ s
  · exact .rfl
  · exact sameIntake_countOn p _ s

theorem sameIntake_onGap (p : PortId) (s : State) : SameIntake s (onGap p s) := by
  unfold onGap
  split
  · exact sameIntake_port p _ _ s
  · exact sameIntake_setReceive p _ s
  · exact .rfl

theorem sameIntake_onLength (p : PortId) (n : Byte) (s : State) : SameIntake s (onLength p n s) := by
  unfold onLength
  split
  · split
    · exact sameIntake_port p _ _ s
    · exact .rfl
  · exact .rfl

theorem sameIntake_onShortBreak (p : PortId) (s : State) : SameIntake s (onShortBreak p s) := by
  unfold onShortBreak
  split
  · exact .rfl
  · exact sameIntake_countOn p _ s
  · exact sameIntake_port p _ _ s

theorem sameIntake_onLongBreak (p : PortId) (s : State) : SameIntake s (onLongBreak p s) := by
  unfold onLongBreak
  split
  · exact .rfl
  · cases p <;> exact ⟨Eq.refl _, Eq.refl _, Eq.refl _⟩

theorem sameIntake_onCheckFailure (p : PortId) (code : Byte) (payload : List Byte) (check : Byte) (s : State) :
    SameIntake s (onCheckFailure p code payload check s) := by
  unfold onCheckFailure
  split
  · split_ifs
    · exact sameIntake_port p _ _ s
    · exact .rfl
    · exact sameIntake_port p _ _ s
  · exact .rfl

theorem sameIntake_beginReply (p : PortId) (s : State) : SameIntake s (beginReply p s) := by
  unfold beginReply
  split
  · exact sameIntake_setReceive p _ s
  · exact .rfl

theorem sameIntake_completeReply (p : PortId) (s : State) : SameIntake s (completeReply p s) := by
  unfold completeReply
  split
  · dsimp only
    split
    · exact (sameIntake_setReceive p _ s).trans ⟨Eq.refl _, Eq.refl _, Eq.refl _⟩
    · exact sameIntake_setReceive p _ s
  · exact .rfl

theorem sameIntake_heard (p : PortId) (s : State) : SameIntake s (heard p s) := by constructor <;> simp [heard]

/-- A request keeps the promise where its owner does. -/
theorem requestKeepsIntake (p : PortId) (code : Byte) (payload : List Byte) {handle : State → State × Option ReplyBody}
    (hh : Keeps intakePromise fun s => (handle s).1) : RequestKeeps intakePromise p code payload handle := by
  intro s h
  rcases serveRequest_cases p code payload handle s with e | e | ⟨a, -, e⟩
  · exact e.symm ▸ h
  · exact e.symm ▸ (sameIntake_port p _ _ s).keeps h
  · exact e.symm ▸ (sameIntake_setReceive p _ _).keeps (hh _ ((sameIntake_heard p s).keeps h))

/-- A request whose owner leaves the INTAKE UNIT alone. -/
theorem requestKeepsIntake_of_same (p : PortId) (code : Byte) (payload : List Byte)
    {handle : State → State × Option ReplyBody} (hh : ∀ s, SameIntake s (handle s).1) :
    RequestKeeps intakePromise p code payload handle :=
  requestKeepsIntake p code payload (keepsIntake_of_same hh)

/-! ### Taking a MEASURE (R22, R34) -/

/-- An accepted MEASURE makes L1 FRESH with a record in bounds, and PROP_LINK_LOST absent. -/
theorem intakeAtMeasure_keeps (p : List Byte) : Keeps intakePromise (intakeAtMeasure (measureOf p)) := by
  rintro s ⟨⟨hdemand, -, hfallback, -, -, hl2, hstale, hgrace, -, hstill, hpayload⟩, -, hlost⟩
  have hintake : (intakeAtMeasure (measureOf p) s).intake = intakeWithMeasure s.store.image (measureOf p) s.intake := by
    simp [intakeAtMeasure]
  have hmark (c : TripCode) (h1 : c ≠ .dcLinkOvervolt) (h2 : c ≠ .inverterFault) :
      (intakeAtMeasure (measureOf p) s).present.get c = if c = .propLinkLost then false else s.present.get c := by
    simp [intakeAtMeasure, judgeCondition_get, markPresent_get, h1, h2]
  have hprop := hmark .propLinkLost (by decide) (by decide)
  have hchassis := hmark .chassisLinkLost (by decide) (by decide)
  refine ⟨?_, ?_, ?_⟩
  · rw [hintake]
    refine ⟨hdemand, fun m hm => ?_, hfallback, by simp [intakeWithMeasure], by simp [intakeWithMeasure], hl2, hstale, hgrace,
      by simp [intakeWithMeasure], ?_, hpayload⟩
    · obtain rfl := Option.some.inj hm
      exact measureOf_sound p
    · simp only [intakeWithMeasure]
      split_ifs <;> omega
  · rw [hintake]
    simpa [intakeWithMeasure, TripMarks.get] using hprop
  · rw [hintake]
    exact fun h => hlost (hchassis.symm.trans h)

theorem takeMeasure_keepsIntake (p : List Byte) : Keeps intakePromise (takeMeasure (measureOf p)) := by
  intro s h
  refine SameIntake.keeps ?_ (intakeAtMeasure_keeps p s h)
  constructor
  · simp [takeMeasure]
  · simp only [takeMeasure]
    rw [supervise_get (by rintro ⟨⟩ <;> decide), judgeOverspeed_get (by decide),
      thermalAtMeasure_get (by decide) (by rintro ⟨⟩ <;> decide)]
  · simp only [takeMeasure]
    rw [supervise_get (by rintro ⟨⟩ <;> decide), judgeOverspeed_get (by decide),
      thermalAtMeasure_get (by decide) (by rintro ⟨⟩ <;> decide)]

theorem sameIntake_engineAtMeasure (payload : List Byte) (s : State) : SameIntake s (engineAtMeasure payload s).1 := by
  unfold engineAtMeasure
  split_ifs <;> constructor <;> simp

theorem handleMeasure_keepsIntake (payload : List Byte) : Keeps intakePromise fun s => (handleMeasure payload s).1 := by
  intro s h
  dsimp only
  rw [handleMeasure_state, readMeasure_eq]
  split
  · exact (sameIntake_engineAtMeasure payload _).keeps (takeMeasure_keepsIntake payload s h)
  · exact h

/-! ### Taking a DEMAND (R26) -/

/-- A latched payload is one of a DEMAND RECORD in bounds (R30). -/
theorem settlePayload_payload (s : State) : (settlePayload s).intake.payload =
    if payloadSettle s.store.image ≤ s.intake.standstill then s.intake.demand.payload else s.intake.payload := by
  unfold settlePayload latchPayload
  split
  · split
    next h => exact h
    next =>
      dsimp only
      split <;> simp
  · rfl

/-- The payload latched, the rest of the INTAKE UNIT stands. -/
theorem settlePayload_intake (s : State) : (settlePayload s).intake = { s.intake with
    payload := if payloadSettle s.store.image ≤ s.intake.standstill then s.intake.demand.payload else s.intake.payload } := by
  obtain ⟨-, -, -, -, -, -, -, -, -, -, -, -, -, -, -, -, -, h⟩ := settlePayload_frame s
  have hpayload := settlePayload_payload s
  generalize (settlePayload s).intake = i at *
  cases i
  simp_all

theorem settlePayload_keepsIntake : Keeps intakePromise settlePayload := by
  rintro s ⟨⟨hdemand, hrecord, hfallback, hnever, hl1, hl2, hstale, hgrace, hfresh, hstill, hpayload⟩, hmarks⟩
  refine ⟨?_, by simpa [linkMarksSound] using hmarks⟩
  rw [settlePayload_intake]
  refine ⟨hdemand, hrecord, hfallback, hnever, hl1, hl2, hstale, hgrace, hfresh, hstill, ?_⟩
  obtain ⟨-, -, -, -, hload, -⟩ := hdemand
  dsimp only
  split_ifs
  · exact hload
  · exact hpayload

/-- The record at standstill, in the words of R28. -/
theorem atStandstill_iff (i : Intake) : atStandstill i = true ↔ i.measurement.isSome ∧ refSpeedOr0 i < 50 := by
  unfold atStandstill refSpeedOr0
  cases i.measurement <;> simp

/-- A new held direction never takes the part into PARKED, so that no swap is made. -/
theorem modeByDirection_parked (m : Mode) (d : Direction) : modeByDirection m d = .parked → m = .parked := by
  cases m <;> cases d <;> decide

/-- A change of mode that does not enter PARKED leaves tables and steering reserve as they are. -/
theorem changeMode_unparked {m : Mode} {s : State} (h : m = .parked → s.mode = .parked) :
    (changeMode m s).store = s.store ∧ (changeMode m s).traction = s.traction := by
  by_cases hm : s.mode = m
  · rw [changeMode_same hm]
    exact ⟨rfl, rfl⟩
  · have hne : m ≠ .parked := fun hp => hm ((h hp).trans hp.symm)
    unfold changeMode
    simp only [if_neg hm, if_neg hne]
    split <;> simp

/-- A judged direction leaves tables and steering reserve as they are. -/
theorem judgeDirection_store (d : Direction) (s : State) :
    (judgeDirection d s).store = s.store ∧ (judgeDirection d s).traction = s.traction := by
  have hhand : (handDirection d s).store = s.store ∧ (handDirection d s).traction = s.traction := by
    obtain ⟨hstore, htraction⟩ := changeMode_unparked
      (s := planDirection d (s.withIntake { s.intake with direction := d, directionHeld := false }))
      (modeByDirection_parked _ d)
    exact ⟨hstore.trans (by simp), htraction.trans (by simp)⟩
  unfold judgeDirection
  split_ifs
  · exact ⟨rfl, rfl⟩
  · exact hhand
  · exact ⟨rfl, rfl⟩

/-- The held direction and its flag after the judgement (R28). -/
theorem judgeDirection_intake (d : Direction) (s : State) : (judgeDirection d s).intake =
    { s.intake with direction := (heldAfter d s.intake).1, directionHeld := (heldAfter d s.intake).2 } := by
  unfold judgeDirection heldAfter
  split_ifs with hsame hstill hstill' hstill'
  · simp
  · simp [handDirection]
  · exact absurd ((atStandstill_iff _).mp hstill) hstill'
  · exact absurd ((atStandstill_iff _).mpr hstill') hstill
  · simp

/-- The INTAKE UNIT after an accepted DEMAND (R26, R27, R28, R30, R38). -/
theorem acceptDemand_intake (d : DemandRecord) (s : State) : (acceptDemand d s).intake = { s.intake with
    demand := d, l2 := .fresh, l2Count := l2Timeout s.store.image, fallback := none, grace := 0
    direction := (heldAfter d.direction s.intake).1
    directionHeld := (heldAfter d.direction s.intake).2
    payload := if payloadSettle s.store.image ≤ s.intake.standstill then d.payload else s.intake.payload } := by
  have hheld : heldAfter d.direction (intakeWithDemand s.store.image d s.intake) = heldAfter d.direction s.intake := rfl
  simp only [acceptDemand, handPark_frame, settlePayload_intake, judgeDirection_intake, judgeDirection_store,
    withdrawOnBrake_frame, formReserve_frame, markPresent_frame, State.withIntake_intake, State.withIntake_store, hheld]
  rfl

/-- The marks after an accepted DEMAND: CHASSIS_LINK_LOST is absent (R38, R39). -/
theorem acceptDemand_present (d : DemandRecord) (s : State) :
    (acceptDemand d s).present = { s.present with chassisLinkLost := false } := by
  simp [acceptDemand, markPresent, TripMarks.set]

theorem acceptDemand_keepsIntake (p : List Byte) : Keeps intakePromise (acceptDemand (demandOf p)) := by
  rintro s ⟨⟨-, hrecord, -, hnever, hl1, -, -, -, hfresh, hstill, hpayload⟩, hprop, -⟩
  have hdemand := demandOf_sound p
  refine ⟨?_, ?_, ?_⟩
  · rw [acceptDemand_intake]
    refine ⟨hdemand, hrecord, by simp, hnever, hl1, by simp, by simp, by simp, hfresh, hstill, ?_⟩
    obtain ⟨-, -, -, -, hload, -⟩ := hdemand
    dsimp only
    split_ifs
    · exact hload
    · exact hpayload
  · rw [acceptDemand_intake, acceptDemand_present]
    exact hprop
  · rw [acceptDemand_present]
    exact fun h => absurd h (by simp)

theorem handleDemand_keepsIntake (payload : List Byte) : Keeps intakePromise fun s => (handleDemand payload s).1 := by
  intro s h
  dsimp only
  rw [handleDemand_state, readDemand_eq]
  split
  · exact acceptDemand_keepsIntake payload s h
  · exact h

end Sys2Proof.Proofs
end

section
/-! SUPPORT. The INTAKE UNIT at an expiry, and every step keeps it sound (O55). -/

namespace Sys2Proof.Proofs

open Sys2Proof.Machine Sys2Proof.Safety Sys2Proof.Claims

/-! ### The freshness of the links at an expiry (R32, R34, R36, R37, R39) -/

/-- L1 after an expiry: its freshness and its count (R32). -/
theorem countL1_intake (s : State) : (countL1 s).intake =
    if s.intake.l1 = .fresh then
      if s.intake.l1Count ≤ 1 then { s.intake with l1 := .stale, l1Count := 0 }
      else { s.intake with l1Count := s.intake.l1Count - 1 }
    else s.intake := by
  unfold countL1
  split_ifs <;> simp [staleL1]

/-- The marks after L1 has been counted: PROP_LINK_LOST is present where L1 goes STALE (R34). -/
theorem countL1_get (s : State) (e : TripCode) : (countL1 s).present.get e =
    if e = .propLinkLost ∧ s.intake.l1 = .fresh ∧ s.intake.l1Count ≤ 1 then true else s.present.get e := by
  unfold countL1
  split_ifs <;> simp_all [staleL1_get]

/-- The FALLBACK DEMAND lowered by an expiry (R37). -/
def lowered (im : Image) (f : FallbackDemand) : FallbackDemand := { f with setpoint := max 500 (f.setpoint - staleDecel im) }

/-- L2 after an expiry: its freshness and its count, the FALLBACK DEMAND and the grace count (R32, R36, R37, R39). -/
theorem countL2_intake (s : State) : (countL2 s).intake =
    if s.intake.l2 = .fresh then
      if s.intake.l2Count ≤ 1 then { s.intake with l2 := .stale, l2Count := 0, fallback := some (formFallback s), grace := 0 }
      else { s.intake with l2Count := s.intake.l2Count - 1 }
    else if s.intake.l2 = .stale then
      { s.intake with
        fallback := s.intake.fallback.map (lowered s.store.image)
        grace := min (s.intake.grace + 1) (l2Grace s.store.image) }
    else s.intake := by
  unfold countL2
  cases s.intake.l2
  · rfl
  · simp only [if_true]
    split <;> simp [staleL2]
  · simp [stepGrace, lowerSetpoint]
    rfl

/-- The marks after L2 has been counted: CHASSIS_LINK_LOST is present once the grace count has reached L2_GRACE (R39). -/
theorem countL2_get (s : State) (e : TripCode) : (countL2 s).present.get e =
    if e = .chassisLinkLost ∧ s.intake.l2 = .stale ∧ l2Grace s.store.image ≤ s.intake.grace + 1 then true
    else s.present.get e := by
  unfold countL2
  split
  next h => simp [h]
  next h =>
    split <;> simp [h]
  next h =>
    rw [stepGrace_get]
    by_cases he : e = .chassisLinkLost
    · subst he
      by_cases hreach : l2Grace s.store.image ≤ s.intake.grace + 1 <;> simp [h, hreach, lowerSetpoint, TripMarks.get]
    · simp [he]

/-- The setpoint of a FALLBACK DEMAND just formed (R37). -/
theorem firstSetpoint_le {s : State} (h : ∀ m, s.intake.measurement = some m → measurementSound m) :
    firstSetpoint s ≤ 7000 := by
  have hspeed : refSpeedOr0 s.intake ≤ 7000 := by
    unfold refSpeedOr0
    split
    next m hm =>
      obtain ⟨-, hm, -⟩ := h m hm
      exact hm
    next => omega
  unfold firstSetpoint
  omega

theorem fallbackSound_lowered {f : FallbackDemand} (im : Image) (h : fallbackSound f) : fallbackSound (lowered im f) := by
  obtain ⟨hlever, hlow, hhigh, hpressure, -, hset⟩ := h
  refine ⟨hlever, hlow, hhigh, hpressure, ?_, ?_⟩ <;> (simp only [lowered]; omega)

/-! ### What an expiry keeps while the standstill counter has still to follow (R29) -/

/-- The promise of the INTAKE UNIT but for the standstill counter, which an expiry steps after the freshness of L1. -/
def intakePromiseBut (s : State) : Prop :=
  intakeSound { s.intake with standstill := 0 } ∧ s.intake.standstill ≤ 65535 ∧ linkMarksSound s

theorem intakePromiseBut_of {s : State} (h : intakePromise s) : intakePromiseBut s := by
  obtain ⟨⟨hdemand, hrecord, hfallback, hnever, hl1, hl2, hstale, hgrace, -, hstill, hpayload⟩, hmarks⟩ := h
  exact ⟨⟨hdemand, hrecord, hfallback, hnever, hl1, hl2, hstale, hgrace, fun _ => rfl, Nat.zero_le _, hpayload⟩, hstill, hmarks⟩

/-- Where L1 goes STALE, a record stands and PROP_LINK_LOST is present; else its count steps and its mark stays. -/
theorem countL1_keepsBut : Keeps intakePromiseBut countL1 := by
  rintro s ⟨⟨hdemand, hrecord, hfallback, hnever, hl1, hl2, hstale, hgrace, -, -, hpayload⟩, hstill, hprop, hchassis⟩
  have hlost : (countL1 s).present.propLinkLost =
      if s.intake.l1 = .fresh ∧ s.intake.l1Count ≤ 1 then true else s.present.propLinkLost := by
    simpa [TripMarks.get] using countL1_get s .propLinkLost
  have hother : (countL1 s).present.chassisLinkLost = s.present.chassisLinkLost := by
    simpa [TripMarks.get] using countL1_get s .chassisLinkLost
  by_cases hfresh : s.intake.l1 = .fresh
  · have hrecorded : s.intake.measurement ≠ none := by simpa [hfresh] using hnever
    by_cases hcount : s.intake.l1Count ≤ 1
    · have hintake : (countL1 s).intake = { s.intake with l1 := .stale, l1Count := 0 } := by
        rw [countL1_intake, if_pos hfresh, if_pos hcount]
      rw [if_pos ⟨hfresh, hcount⟩] at hlost
      simp only [intakePromiseBut, linkMarksSound, hother, hlost, hintake]
      exact ⟨⟨hdemand, hrecord, hfallback, by simpa using hrecorded, fun _ => rfl, hl2, hstale, hgrace, fun _ => rfl,
        Nat.zero_le _, hpayload⟩, hstill, by simp, hchassis⟩
    · have hintake : (countL1 s).intake = { s.intake with l1Count := s.intake.l1Count - 1 } := by
        rw [countL1_intake, if_pos hfresh, if_neg hcount]
      rw [if_neg fun h => hcount h.2] at hlost
      simp only [intakePromiseBut, linkMarksSound, hother, hlost, hintake]
      exact ⟨⟨hdemand, hrecord, hfallback, hnever, fun h => absurd hfresh h, hl2, hstale, hgrace, fun _ => rfl,
        Nat.zero_le _, hpayload⟩, hstill, hprop, hchassis⟩
  · have hquiet : countL1 s = s := if_neg hfresh
    rw [hquiet]
    exact ⟨⟨hdemand, hrecord, hfallback, hnever, hl1, hl2, hstale, hgrace, fun _ => rfl, Nat.zero_le _, hpayload⟩, hstill,
      hprop, hchassis⟩

/-- Where L2 goes STALE the FALLBACK DEMAND takes bounded figures; while STALE it keeps them. -/
theorem countL2_keepsBut : Keeps intakePromiseBut countL2 := by
  intro s h
  have hother : (countL2 s).present.propLinkLost = s.present.propLinkLost := by
    simpa [TripMarks.get] using countL2_get s .propLinkLost
  have hlost : s.intake.l2 ≠ .stale → (countL2 s).present.chassisLinkLost = s.present.chassisLinkLost := fun hl2 => by
    simpa [TripMarks.get, hl2] using countL2_get s .chassisLinkLost
  have hintake := countL2_intake s
  match hfresh : s.intake.l2 with
  | .never =>
    have hquiet : countL2 s = s := by simp [countL2, hfresh]
    rw [hquiet]
    exact h
  | .fresh =>
    obtain ⟨⟨hdemand, hrecord, -, hnever, hl1, -, hstale, hgrace, -, -, hpayload⟩, hstill, hprop, hchassis⟩ := h
    dsimp only at hstale hgrace
    rw [if_pos hfresh] at hintake
    have hmark := hlost (by simp [hfresh])
    have habsent : s.present.chassisLinkLost ≠ true := fun hp => by simp [hchassis hp] at hfresh
    by_cases hcount : s.intake.l2Count ≤ 1
    · rw [if_pos hcount] at hintake
      have hformed : fallbackSound (formFallback s) := by
        obtain ⟨-, hlever, hlow, hhigh, -, hpressure, -⟩ := hdemand
        exact ⟨hlever, hlow, hhigh, hpressure, Nat.le_max_left _ _, firstSetpoint_le hrecord⟩
      simp only [intakePromiseBut, linkMarksSound, hother, hmark, hintake]
      exact ⟨⟨hdemand, hrecord, fun f hf => Option.some.inj hf ▸ hformed, hnever, hl1, fun _ => rfl, by simp, fun _ => rfl,
        fun _ => rfl, Nat.zero_le _, hpayload⟩, hstill, hprop, fun hp => absurd hp habsent⟩
    · rw [if_neg hcount] at hintake
      have hnone : s.intake.fallback = none := by simpa [hfresh] using hstale
      simp only [intakePromiseBut, linkMarksSound, hother, hmark, hintake]
      exact ⟨⟨hdemand, hrecord, by simp [hnone], hnever, hl1, fun h => absurd hfresh h, hstale, hgrace, fun _ => rfl,
        Nat.zero_le _, hpayload⟩, hstill, hprop, hchassis⟩
  | .stale =>
    obtain ⟨⟨hdemand, hrecord, hfallback, hnever, hl1, hl2, hstale, -, -, -, hpayload⟩, hstill, hprop, -⟩ := h
    dsimp only at hstale
    rw [if_neg (by simp [hfresh]), if_pos hfresh] at hintake
    have hlowered (f : FallbackDemand) (hf : s.intake.fallback.map (lowered s.store.image) = some f) : fallbackSound f := by
      obtain ⟨f', hf', rfl⟩ := Option.map_eq_some_iff.mp hf
      exact fallbackSound_lowered _ (hfallback f' hf')
    simp only [intakePromiseBut, linkMarksSound, hother, hintake]
    exact ⟨⟨hdemand, hrecord, hlowered, hnever, hl1, hl2, by simpa using hstale, fun h => absurd hfresh h, fun _ => rfl,
      Nat.zero_le _, hpayload⟩, hstill, hprop, fun _ => hfresh⟩

/-- The standstill counter follows the freshness of L1 (R29). -/
theorem countStandstill_keeps_of {s : State} (h : intakePromiseBut s) : intakePromise (countStandstill s) := by
  obtain ⟨⟨hdemand, hrecord, hfallback, hnever, hl1, hl2, hstale, hgrace, -, -, hpayload⟩, hstill, hmarks⟩ := h
  refine ⟨⟨hdemand, hrecord, hfallback, hnever, hl1, hl2, hstale, hgrace, fun hfresh => if_neg hfresh, ?_, hpayload⟩, hmarks⟩
  change standstillAfter s.intake ≤ 65535
  unfold standstillAfter saturate
  split_ifs <;> omega

/-- Where L1 is not counted the standstill counter stands. -/
theorem countL2_keepsIntake : Keeps intakePromise countL2 := by
  intro s h
  obtain ⟨⟨hdemand, hrecord, hfallback, hnever, hl1, hl2, hstale, hgrace, -, -, hpayload⟩, hstill, hmarks⟩ :=
    countL2_keepsBut s (intakePromiseBut_of h)
  obtain ⟨⟨-, -, -, -, -, -, -, -, hfresh, -, -⟩, -⟩ := h
  exact ⟨⟨hdemand, hrecord, hfallback, hnever, hl1, hl2, hstale, hgrace, by simpa using hfresh, hstill, hpayload⟩, hmarks⟩

theorem intakeAtExpiry_keepsIntake : Keeps intakePromise intakeAtExpiry := fun _ h =>
  settlePayload_keepsIntake _
    (countStandstill_keeps_of (countL2_keepsBut _ (countL1_keepsBut _ (intakePromiseBut_of h))))

theorem expireInterval_keepsIntake : Keeps intakePromise expireInterval := by
  intro s h
  have hstamp : intakePromise (s.withStamp (s.stamp + 1)) := h
  refine SameIntake.keeps ?_ (intakeAtExpiry_keepsIntake _ hstamp)
  constructor
  · simp [expireInterval]
  · simp [expireInterval, plannerAtExpiry_get, steeringAtExpiry_get, thermalAtExpiry_get]
  · simp [expireInterval, plannerAtExpiry_get, steeringAtExpiry_get, thermalAtExpiry_get]

/-- The grace count steps while L2 is STALE alone, where CHASSIS_LINK_LOST may be present (R39). -/
theorem stepGrace_keepsIntake {s : State} (hdue : graceDue s = true) (h : intakePromise s) : intakePromise (stepGrace s) := by
  obtain ⟨⟨hdemand, hrecord, hfallback, hnever, hl1, hl2, hstale, -, hfresh, hstill, hpayload⟩, hprop, -⟩ := h
  have hl2stale : s.intake.l2 = .stale := by
    simp only [graceDue, Bool.and_eq_true, decide_eq_true_eq] at hdue
    exact hdue.1.1
  have hintake : (stepGrace s).intake = { s.intake with grace := min (s.intake.grace + 1) (l2Grace s.store.image) } := by
    simp [stepGrace]
  have hother : (stepGrace s).present.propLinkLost = s.present.propLinkLost := by
    simpa [TripMarks.get] using stepGrace_get s .propLinkLost
  simp only [intakePromise, linkMarksSound, hother, hintake]
  exact ⟨⟨hdemand, hrecord, hfallback, hnever, hl1, hl2, hstale, fun h => absurd hl2stale h, hfresh, hstill, hpayload⟩, hprop,
    fun _ => hl2stale⟩

/-! ### Resets, the swap, and the commands gathered -/

/-- The INTAKE UNIT after either reset, with no condition present (R43). -/
theorem intakePromise_afterReset {s : State} (hintake : s.intake = .afterReset) (hpresent : s.present = .clear) :
    intakePromise s := by
  rw [intakePromise, linkMarksSound, hintake, hpresent]
  refine ⟨⟨⟨by decide, by decide, by decide, by decide, by decide, by decide, ?_⟩, ?_, ?_, ?_, ?_, ?_, ?_, ?_, ?_, ?_, ?_⟩, ?_, ?_⟩
  all_goals simp [Intake.afterReset, DemandRecord.afterReset, TripMarks.clear]

/-- A completion writes the engine, the held slot, the L1 port and what a swap changes. -/
theorem sameIntake_completePass (b : Bool) (s : State) : SameIntake s (completePass b s) := by
  unfold completePass
  split
  · unfold handOn
    dsimp only
    split
    · constructor <;> simp
    · rw [replyOfPass_eq]
      constructor <;> simp
  · exact .rfl

/-- Everything that a command does keeps the promise of the INTAKE UNIT. -/
theorem commandsKeepIntake : CommandsKeep intakePromise where
  pending _ := keepsIntake_of_same fun _ => by constructor <;> simp
  idle := keepsIntake_of_same fun _ => by constructor <;> simp
  coldReset _ _ := intakePromise_afterReset rfl rfl
  resetNRelease := keepsIntake_of_same fun s => by split <;> constructor <;> simp
  validationComplete r s _ _ h := SameIntake.keeps (by constructor <;> simp [completeValidation]) h
  warmRestart _ _ _ := intakePromise_afterReset rfl rfl
  expiry := expireInterval_keepsIntake
  l1Stale := Keeps.whenDue fun s _ h => countStandstill_keeps_of (countL1_keepsBut s (intakePromiseBut_of h))
  l2Stale := Keeps.whenDue fun s _ h => countL2_keepsIntake s h
  grace := Keeps.whenDue fun _ hdue h => stepGrace_keepsIntake hdue h
  holdExpired _ := keepsIntake_whenDue fun _ => by constructor <;> simp
  boostEnd _ := keepsIntake_whenDue fun _ => by constructor <;> simp
  recoverEnd _ := keepsIntake_whenDue fun _ => by constructor <;> simp
  pressure := keepsIntake_whenDue fun _ => by constructor <;> simp [steeringAtExpiry_get]
  advance := keepsIntake_whenDue fun _ => by constructor <;> simp
  shortfall := keepsIntake_whenDue fun _ => by constructor <;> simp [stepShortfall_get]
  lockoutEnd := keepsIntake_whenDue fun _ => by constructor <;> simp
  idleTimeout := keepsIntake_whenDue fun _ => by constructor <;> simp
  marker p a := keepsIntake_of_same (sameIntake_onMarker p a)
  framingError p := keepsIntake_of_same (sameIntake_onFramingError p)
  gap p := keepsIntake_of_same (sameIntake_onGap p)
  length p n := keepsIntake_of_same (sameIntake_onLength p n)
  shortBreak p := keepsIntake_of_same (sameIntake_onShortBreak p)
  longBreak p := keepsIntake_of_same (sameIntake_onLongBreak p)
  checkFailure p code payload check := keepsIntake_of_same (sameIntake_onCheckFailure p code payload check)
  replyBegin p := keepsIntake_of_same (sameIntake_beginReply p)
  replyComplete p := keepsIntake_of_same (sameIntake_completeReply p)
  read p code payload _ hsame _ _ := requestKeepsIntake_of_same p code payload fun s => (hsame s).symm ▸ .rfl
  measure payload := requestKeepsIntake .l1 0x10 payload (handleMeasure_keepsIntake payload)
  passCompletion b := keepsIntake_of_same fun s =>
    SameIntake.trans (by constructor <;> simp) (sameIntake_completePass b (runStages s))
  demand payload := requestKeepsIntake .l2 0x20 payload (handleDemand_keepsIntake payload)
  planAppend payload := requestKeepsIntake_of_same .l2 0x21 payload fun s => by
    rcases handleAppend_state payload s with e | ⟨segs, e⟩ <;> rw [e] <;> constructor <;> simp
  planStart payload := requestKeepsIntake_of_same .l2 0x22 payload fun s => by
    rcases handleStart_state payload s with e | e <;> rw [e] <;> constructor <;> simp [startPlan]
  planClear payload := requestKeepsIntake_of_same .l2 0x23 payload fun s => by
    rcases handleClear_state payload s with e | e <;> rw [e] <;> constructor <;> simp
  tripClear payload := requestKeepsIntake_of_same .l2 0x25 payload fun s => by
    rcases handleTripClear_state payload s with e | e <;> rw [e] <;> constructor <;> simp [clearTrips]
  faultAck payload := requestKeepsIntake_of_same .l3 0x36 payload fun s => by
    rcases handleFaultAck_state payload s with e | e <;> rw [e] <;> constructor <;> simp
  access payload := requestKeepsIntake_of_same .l3 0x30 payload fun s => by
    rcases handleAccess_state payload s with e | e | ⟨_, -, e⟩ <;> rw [e] <;> constructor <;> simp
  logout payload := requestKeepsIntake_of_same .l3 0x31 payload fun s => by
    rcases handleLogout_state payload s with e | e <;> rw [e] <;> constructor <;> simp
  rowStage payload := requestKeepsIntake_of_same .l3 0x33 payload fun s => by
    rcases handleStage_state payload s with e | ⟨_, _, _, e⟩ <;> rw [e] <;> constructor <;> simp
  rowCommit payload := requestKeepsIntake_of_same .l3 0x34 payload fun s => by
    rcases handleCommit_state payload s with e | e <;> rw [e] <;> constructor <;> simp
  programVerify _ s _ _ _ h := SameIntake.keeps (s := s) (by constructor <;> simp) h

/-- Settles O55, from what everything that a command does keeps (`commandsKeepIntake`). -/
theorem stepKeepsTheIntake : Obligations.StepKeepsTheIntake := fun s t hintake hmarks e =>
  commandsKeepIntake.step s t ⟨hintake, hmarks⟩ e

end Sys2Proof.Proofs
end

section
/-! SUPPORT. The bounds that the tables set, what the promise of passes and counters reads, and the ports (O54). -/

namespace Sys2Proof.Proofs

open Sys2Proof.Machine Sys2Proof.Safety Sys2Proof.Claims

/-! ### The bounds that the tables set (Tables 1-1 to 1-6) -/

/-- An entry of a protect row lies within its bounds. -/
theorem param_bounds {s : State} (h : tablesSound s) (r e : Nat) {low high : Nat} (hr : 18 ≤ r) (hr' : r < 23)
    (he : (protectBounds r)[e]? = some (low, high)) : low ≤ param s.store.image r e ∧ param s.store.image r e ≤ high := by
  obtain ⟨-, ⟨hrange, -⟩, -⟩ := h
  obtain ⟨-, -, -, -, -, hprotect, -⟩ := (rangePasses_iff hr' _).mp (hrange r hr')
  exact hprotect hr e low high he

theorem l1Timeout_le {s : State} (h : tablesSound s) : l1Timeout s.store.image ≤ 50 :=
  (param_bounds h 21 5 (by omega) (by omega) rfl).2

theorem l2Timeout_le {s : State} (h : tablesSound s) : l2Timeout s.store.image ≤ 50 :=
  (param_bounds h 21 6 (by omega) (by omega) rfl).2

theorem l2Grace_le {s : State} (h : tablesSound s) : l2Grace s.store.image ≤ 1200 :=
  (param_bounds h 21 7 (by omega) (by omega) rfl).2

theorem shortfallIntervals_le {s : State} (h : tablesSound s) : shortfallIntervals s.store.image ≤ 600 :=
  (param_bounds h 21 3 (by omega) (by omega) rfl).2

theorem serviceIdle_le {s : State} (h : tablesSound s) : serviceIdle s.store.image ≤ 36000 :=
  (param_bounds h 22 5 (by omega) (by omega) rfl).2

theorem lockoutLength_bounds {s : State} (h : tablesSound s) :
    10 ≤ lockoutLength s.store.image ∧ lockoutLength s.store.image ≤ 6000 :=
  param_bounds h 22 6 (by omega) (by omega) rfl

/-- A steering reserve formed from the tables is STEER_RES_HI, STEER_RES_LO or 0 (R77). -/
theorem reserveOf_le {s : State} (h : tablesSound s) (l2 : Freshness) (pressure : Nat) :
    reserveOf s.store.image l2 pressure ≤ 500 := by
  have hhi : steerResHi s.store.image ≤ 500 := (param_bounds h 18 4 (by omega) (by omega) rfl).2
  have hlo : steerResLo s.store.image ≤ 500 := (param_bounds h 18 5 (by omega) (by omega) rfl).2
  unfold reserveOf
  split_ifs <;> omega

/-! ### What the promise of passes and counters reads -/

/-- Passes, held MEASURE and owed replies together, and the counters within their ranges. -/
def passesAndCounters (s : State) : Prop := passSound s ∧ countersSound s

/-- The promise of passes and counters, with the promise of the tables that it rests on. -/
def countersPromise (s : State) : Prop := passesAndCounters s ∧ tablesSound s

/-- The traction factors, and those that a pass in flight has copied and not yet used (R45, R69). -/
def factorsSound (s : State) : Prop :=
  (∀ w, 250 ≤ s.traction.tf.get w ∧ s.traction.tf.get w ≤ 1000) ∧ copiedFactorsSound s.engine

/-- Every bound of the promise that holds in `s` holds in `t`, and passes, held MEASURE and replies stand together in `t` if
they do in `s`. -/
structure CountersFollow (s t : State) : Prop where
  pass : passSound s → passSound t
  portL1 : portSound s.portL1 → portSound t.portL1
  portL2 : portSound s.portL2 → portSound t.portL2
  portL3 : portSound s.portL3 → portSound t.portL3
  overflow : s.trips.overflow ≤ 255 → t.trips.overflow ≤ 255
  writeFail : s.store.writeFail ≤ 65535 → t.store.writeFail ≤ 65535
  excess : (∀ w, s.engine.excess.get w ≤ 5) → ∀ w, t.engine.excess.get w ≤ 5
  pressure : s.traction.pressureCount ≤ 20 → t.traction.pressureCount ≤ 20
  factors : factorsSound s → factorsSound t
  reserve : s.traction.reserve ≤ 500 → t.traction.reserve ≤ 500
  level : s.store.accessLevel ≤ 2 → t.store.accessLevel ≤ 2
  failures : s.store.failures ≤ 2 → t.store.failures ≤ 2
  l1Count : s.intake.l1Count ≤ 50 → t.intake.l1Count ≤ 50
  l2Count : s.intake.l2Count ≤ 50 → t.intake.l2Count ≤ 50
  grace : s.intake.grace ≤ 1200 → t.intake.grace ≤ 1200
  shortfall : s.planner.shortfall ≤ 600 → t.planner.shortfall ≤ 600
  lockout : (∀ n, s.store.lockout = some n → 1 ≤ n ∧ n ≤ 6000) → ∀ n, t.store.lockout = some n → 1 ≤ n ∧ n ≤ 6000
  idle : s.store.idleCount ≤ 36000 → t.store.idleCount ≤ 36000

theorem CountersFollow.keeps {s t : State} (e : CountersFollow s t) (h : passesAndCounters s) : passesAndCounters t := by
  obtain ⟨hpass, h1, h2, h3, hoverflow, hwrite, hexcess, hpressure, htf, hreserve, hcopied, hlevel, hfail, hl1, hl2, hgrace,
    hshort, hlock, hidle⟩ := h
  obtain ⟨htf', hcopied'⟩ := e.factors ⟨htf, hcopied⟩
  exact ⟨e.pass hpass, e.portL1 h1, e.portL2 h2, e.portL3 h3, e.overflow hoverflow, e.writeFail hwrite, e.excess hexcess,
    e.pressure hpressure, htf', e.reserve hreserve, hcopied', e.level hlevel, e.failures hfail,
    e.l1Count hl1, e.l2Count hl2, e.grace hgrace, e.shortfall hshort, e.lockout hlock, e.idle hidle⟩

/-- An operation that keeps the promise of the tables, and the bounds with the tables in range, keeps the promise. -/
theorem keepsCounters_of {f : State → State} (ht : keepsTables f)
    (hf : ∀ s, tablesSound s → passesAndCounters s → passesAndCounters (f s)) : Keeps countersPromise f :=
  fun s h => ⟨hf s h.2 h.1, ht s h.2⟩

theorem keepsCounters_of_follow {f : State → State} (ht : keepsTables f)
    (hf : ∀ s, tablesSound s → CountersFollow s (f s)) : Keeps countersPromise f :=
  keepsCounters_of ht fun s h => (hf s h).keeps

/-! ### Ports (R161) -/

theorem bump_le (n : Nat) : bump n ≤ 65535 := Nat.min_le_right _ _

/-- The steps of a port's seven counters (R161). -/
def countSteps : List (Counters → Counters) :=
  [countGood, countCheck, countFraming, countGap, countLength, countMisaddressed, countSuperseded]

theorem portSound_counted {x : Port} {f : Counters → Counters} (hf : f ∈ countSteps) (h : portSound x) :
    portSound { x with counters := f x.counters } := by
  obtain ⟨hgood, hcheck, hframing, hgap, hlength, hmis, hsuper⟩ := h
  simp only [countSteps, List.mem_cons, List.not_mem_nil, or_false] at hf
  rcases hf with rfl | rfl | rfl | rfl | rfl | rfl | rfl
  · exact ⟨bump_le _, hcheck, hframing, hgap, hlength, hmis, hsuper⟩
  · exact ⟨hgood, bump_le _, hframing, hgap, hlength, hmis, hsuper⟩
  · exact ⟨hgood, hcheck, bump_le _, hgap, hlength, hmis, hsuper⟩
  · exact ⟨hgood, hcheck, hframing, bump_le _, hlength, hmis, hsuper⟩
  · exact ⟨hgood, hcheck, hframing, hgap, bump_le _, hmis, hsuper⟩
  · exact ⟨hgood, hcheck, hframing, hgap, hlength, bump_le _, hsuper⟩
  · exact ⟨hgood, hcheck, hframing, hgap, hlength, hmis, bump_le _⟩

/-- A port is put in place with its counters in range: a reply it owes unformed is that of a pass in flight, on L1, or was owed
before. -/
theorem withPort_follow {p : PortId} {x : Port} {s : State} (hx : portSound (s.port p) → portSound x)
    (hr : ∀ a c, x.receive = .replyPending a c none →
      (s.port p).receive = .replyPending a c none ∨ (p = .l1 ∧ s.engine.pass.isSome = true)) :
    CountersFollow s (s.withPort p x) where
  pass := by
    rintro ⟨hheld, hrecord, h1, h2, h3⟩
    cases p with
    | l1 =>
      refine ⟨hheld, hrecord, fun a c hac => ?_, h2, h3⟩
      rcases hr a c hac with hold | ⟨-, hpass⟩
      · exact h1 a c hold
      · exact hpass
    | l2 =>
      refine ⟨hheld, hrecord, h1, fun a c hac => ?_, h3⟩
      rcases hr a c hac with hold | ⟨hp, -⟩
      · exact h2 a c hold
      · cases hp
    | l3 =>
      refine ⟨hheld, hrecord, h1, h2, fun a c hac => ?_⟩
      rcases hr a c hac with hold | ⟨hp, -⟩
      · exact h3 a c hold
      · cases hp
  portL1 := by
    cases p
    case l1 => exact hx
    all_goals exact id
  portL2 := by
    cases p
    case l2 => exact hx
    all_goals exact id
  portL3 := by
    cases p
    case l3 => exact hx
    all_goals exact id
  overflow := by simp
  writeFail := by simp
  excess := by simp
  pressure := by simp
  factors := by simp [factorsSound]
  reserve := by simp
  level := by simp
  failures := by simp
  l1Count := by simp
  l2Count := by simp
  grace := by simp
  shortfall := by simp
  lockout := by simp
  idle := by simp

/-- A counter steps. -/
theorem countOn_follow (p : PortId) {f : Counters → Counters} (hf : f ∈ countSteps) (s : State) :
    CountersFollow s (countOn p f s) :=
  withPort_follow (portSound_counted hf) fun _ _ h => .inl h

/-- A port goes into a receive state that owes no unformed reply. -/
theorem setReceive_follow (p : PortId) {r : Receive} (hr : ∀ a c, r ≠ .replyPending a c none) (s : State) :
    CountersFollow s (setReceive p r s) :=
  withPort_follow id fun a c h => absurd h (hr a c)

theorem CountersFollow.trans {s t u : State} (h : CountersFollow s t) (h' : CountersFollow t u) : CountersFollow s u where
  pass := h'.pass ∘ h.pass
  portL1 := h'.portL1 ∘ h.portL1
  portL2 := h'.portL2 ∘ h.portL2
  portL3 := h'.portL3 ∘ h.portL3
  overflow := h'.overflow ∘ h.overflow
  writeFail := h'.writeFail ∘ h.writeFail
  excess := h'.excess ∘ h.excess
  pressure := h'.pressure ∘ h.pressure
  factors := h'.factors ∘ h.factors
  reserve := h'.reserve ∘ h.reserve
  level := h'.level ∘ h.level
  failures := h'.failures ∘ h.failures
  l1Count := h'.l1Count ∘ h.l1Count
  l2Count := h'.l2Count ∘ h.l2Count
  grace := h'.grace ∘ h.grace
  shortfall := h'.shortfall ∘ h.shortfall
  lockout := h'.lockout ∘ h.lockout
  idle := h'.idle ∘ h.idle

theorem CountersFollow.rfl {s : State} : CountersFollow s s where
  pass := id
  portL1 := id
  portL2 := id
  portL3 := id
  overflow := id
  writeFail := id
  excess := id
  pressure := id
  factors := id
  reserve := id
  level := id
  failures := id
  l1Count := id
  l2Count := id
  grace := id
  shortfall := id
  lockout := id
  idle := id

/-- A port counts and goes into a receive state that owes no unformed reply. -/
theorem port_follow (p : PortId) {r : Receive} {f : Counters → Counters} (hf : f ∈ countSteps)
    (hr : ∀ a c, r ≠ .replyPending a c none) (s : State) : CountersFollow s (setReceive p r (countOn p f s)) :=
  (countOn_follow p hf s).trans (setReceive_follow p hr _)

theorem countGood_step : countGood ∈ countSteps := by simp [countSteps]
theorem countCheck_step : countCheck ∈ countSteps := by simp [countSteps]
theorem countFraming_step : countFraming ∈ countSteps := by simp [countSteps]
theorem countGap_step : countGap ∈ countSteps := by simp [countSteps]
theorem countLength_step : countLength ∈ countSteps := by simp [countSteps]
theorem countMisaddressed_step : countMisaddressed ∈ countSteps := by simp [countSteps]
theorem countSuperseded_step : countSuperseded ∈ countSteps := by simp [countSteps]

/-! ### Line events (R154, R155, R159, R160) -/

theorem takeMarker_follow (p : PortId) (a : Byte) (s : State) : CountersFollow s (takeMarker p a s) := by
  unfold takeMarker
  split_ifs
  · exact setReceive_follow p (by simp) s
  · exact setReceive_follow p (by simp) s
  · exact port_follow p countMisaddressed_step (by simp) s

theorem onMarker_follow (p : PortId) (a : Byte) (s : State) : CountersFollow s (onMarker p a s) := by
  unfold onMarker
  split
  · exact .rfl
  · split
    · exact takeMarker_follow p a s
    · exact takeMarker_follow p a s
    · exact (countOn_follow p countFraming_step s).trans (takeMarker_follow p a _)
    · exact (countOn_follow p countSuperseded_step s).trans (takeMarker_follow p a _)
    · exact .rfl

theorem onFramingError_follow (p : PortId) (s : State) : CountersFollow s (onFramingError p s) := by
  unfold onFramingError
  split
  · exact port_follow p countFraming_step (by simp) s
  · exact .rfl
  · exact countOn_follow p countFraming_step s

theorem onGap_follow (p : PortId) (s : State) : CountersFollow s (onGap p s) := by
  unfold onGap
  split
  · exact port_follow p countGap_step (by simp) s
  · exact setReceive_follow p (by simp) s
  · exact .rfl

theorem abandonOnLength_follow (p : PortId) (s : State) : CountersFollow s (abandonOnLength p s) :=
  port_follow p countLength_step (by simp) s

theorem onLength_follow (p : PortId) (n : Byte) (s : State) : CountersFollow s (onLength p n s) := by
  unfold onLength
  split
  · split
    · exact abandonOnLength_follow p s
    · exact .rfl
  · exact .rfl

theorem onShortBreak_follow (p : PortId) (s : State) : CountersFollow s (onShortBreak p s) := by
  unfold onShortBreak
  split
  · exact .rfl
  · exact countOn_follow p countFraming_step s
  · exact port_follow p countFraming_step (by simp) s

/-- A resynchronised port counts from 0. -/
theorem resync_follow (p : PortId) (s : State) : CountersFollow s (resync p s) :=
  withPort_follow (fun _ => by simp [portSound, Port.afterReset, Counters.zero]) nofun

/-- A held MEASURE discarded waits for no pass. -/
theorem heldDiscarded_follow (s : State) : CountersFollow s (s.withHeldMeasure none) := by
  refine { CountersFollow.rfl (s := s) with pass := ?_ }
  rintro ⟨-, hrecord, h1, h2, h3⟩
  exact ⟨nofun, hrecord, h1, h2, h3⟩

/-- A lower ACCESS LEVEL is in range. -/
theorem levelDropped_follow (s : State) : CountersFollow s (s.withStore { s.store with accessLevel := 0 }) :=
  { CountersFollow.rfl (s := s) with level := fun _ => Nat.zero_le 2 }

theorem onLongBreak_follow (p : PortId) (s : State) : CountersFollow s (onLongBreak p s) := by
  unfold onLongBreak
  split
  · exact .rfl
  · cases p with
    | l1 => exact (resync_follow .l1 s).trans (heldDiscarded_follow _)
    | l2 => exact resync_follow .l2 s
    | l3 => exact (resync_follow .l3 s).trans (levelDropped_follow _)

theorem onCheckFailure_follow (p : PortId) (code : Byte) (payload : List Byte) (check : Byte) (s : State) :
    CountersFollow s (onCheckFailure p code payload check s) := by
  unfold onCheckFailure
  split
  · split_ifs
    · exact abandonOnLength_follow p s
    · exact .rfl
    · exact port_follow p countCheck_step (by simp) s
  · exact .rfl

theorem beginReply_follow (p : PortId) (s : State) : CountersFollow s (beginReply p s) := by
  unfold beginReply
  split
  · exact setReceive_follow p (by simp) s
  · exact .rfl

theorem completeReply_follow (p : PortId) (s : State) : CountersFollow s (completeReply p s) := by
  unfold completeReply
  split
  · have hidle := setReceive_follow p (r := .idle) (by simp) s
    dsimp only
    split
    · exact hidle.trans { CountersFollow.rfl (s := setReceive p .idle s) with }
    · exact hidle
  · exact .rfl

end Sys2Proof.Proofs
end

section
/-! SUPPORT. What no raise undoes: promises that every raise and every withdrawal of torque keeps, through the operations that
raise (O8, O9, O54). -/

namespace Sys2Proof.Proofs

open Sys2Proof.Machine Sys2Proof.Safety Sys2Proof.Claims

/-- The promise reads trips, granted torques and line alone, and every raise and every withdrawal of torque keeps it. -/
structure KeptByRaises (P : State → Prop) : Prop where
  same : ∀ s t, t.trips = s.trips → t.engine.grant.torque = s.engine.grant.torque → t.tripOut = s.tripOut → P s → P t
  withdraw : Keeps P withdrawPositive
  raise : ∀ c d, Keeps P (raiseTrip c d)

section
variable {P : State → Prop}

/-! ### Conditions judged (R40, R134) -/

theorem KeptByRaises.mark (h : KeptByRaises P) (c : TripCode) (b : Bool) : Keeps P (markPresent c b) :=
  fun s => h.same s _ rfl rfl rfl

theorem KeptByRaises.judge (h : KeptByRaises P) (c : TripCode) (now : Bool) (d : Option Int) :
    Keeps P (judgeCondition c now d) := by
  intro s hs
  unfold judgeCondition
  split
  · exact h.raise c d _ (h.mark c now s hs)
  · exact h.mark c now s hs

theorem KeptByRaises.recompute (h : KeptByRaises P) : Keeps P recomputeHead := fun s => h.same s _ (by simp) (by simp) (by simp)

/-! ### The interval expiry -/

theorem KeptByRaises.grid (h : KeptByRaises P) (g : Grid) : Keeps P (formGrid g) := by
  intro s hs
  have hheated (t : Thermal) : P (s.withThermal t) := h.same s _ rfl rfl rfl hs
  refine h.judge _ _ _ _ ?_
  split
  · exact h.recompute _ (hheated _)
  · exact hheated _

theorem KeptByRaises.gridAtExpiry (h : KeptByRaises P) : Keeps P gridAtExpiry := by
  intro s hs
  unfold Machine.gridAtExpiry
  split
  · exact hs
  · exact h.grid _ s hs

theorem KeptByRaises.onMotor (h : KeptByRaises P) (w : Wheel) (f : Motor → Motor) : Keeps P (onMotor w f) :=
  fun s => h.same s _ rfl rfl rfl

theorem KeptByRaises.thermalAtExpiry (h : KeptByRaises P) : Keeps P thermalAtExpiry := fun s hs =>
  h.onMotor _ _ _ (h.onMotor _ _ _ (h.gridAtExpiry s hs))

theorem KeptByRaises.countL1 (h : KeptByRaises P) : Keeps P countL1 := by
  intro s hs
  have hintake (i : Intake) : P (s.withIntake i) := h.same s _ rfl rfl rfl hs
  unfold Machine.countL1 staleL1
  split_ifs
  · exact h.raise _ _ _ (h.mark _ _ _ (hintake _))
  · exact hintake _
  · exact hs

theorem KeptByRaises.stepGrace (h : KeptByRaises P) : Keeps P stepGrace := fun s hs =>
  h.judge _ _ _ _ (h.same s _ rfl rfl rfl hs)

theorem KeptByRaises.countL2 (h : KeptByRaises P) : Keeps P countL2 := by
  intro s hs
  unfold Machine.countL2
  split
  · exact hs
  · split
    · exact h.same s _ rfl rfl rfl hs
    · exact h.same s _ rfl rfl rfl hs
  · exact h.stepGrace _ (h.same s _ rfl rfl rfl hs)

theorem KeptByRaises.countStandstill (h : KeptByRaises P) : Keeps P countStandstill := fun s => h.same s _ rfl rfl rfl

theorem KeptByRaises.settlePayload (h : KeptByRaises P) : Keeps P settlePayload := by
  intro s hs
  have hset (i : Intake) : P (recomputeHead (s.withIntake i)) := h.recompute _ (h.same s _ rfl rfl rfl hs)
  unfold Machine.settlePayload latchPayload
  split
  · split
    · exact hs
    · dsimp only
      split
      · exact h.withdraw _ (hset _)
      · exact hset _
  · exact hs

theorem KeptByRaises.steeringAtExpiry (h : KeptByRaises P) : Keeps P steeringAtExpiry := by
  intro s hs
  have hmarked (b : Bool) (t : Traction) : P (markPresent .steerPressureLow b (s.withTraction t)) :=
    h.same s _ rfl rfl rfl hs
  unfold Machine.steeringAtExpiry
  dsimp only
  split
  · exact h.raise _ _ _ (hmarked _ _)
  · exact hmarked _ _

theorem KeptByRaises.stepShortfall (h : KeptByRaises P) : Keeps P stepShortfall := fun s hs =>
  h.judge _ _ _ _ (h.same s _ rfl rfl rfl hs)

theorem KeptByRaises.plannerAtExpiry (h : KeptByRaises P) : Keeps P plannerAtExpiry := fun s hs =>
  h.stepShortfall _ (h.same s _ (by simp) (by simp) (by simp) hs)

theorem KeptByRaises.storeAtExpiry (h : KeptByRaises P) : Keeps P storeAtExpiry := fun s => h.same s _ rfl rfl rfl

/-- What an expiry does once L1 and L2 have been counted. -/
theorem KeptByRaises.afterLinks (h : KeptByRaises P) : Keeps P fun s =>
    Machine.storeAtExpiry (Machine.plannerAtExpiry (Machine.steeringAtExpiry (Machine.thermalAtExpiry
      (Machine.settlePayload (Machine.countStandstill s))))) := fun s hs =>
  h.storeAtExpiry _ (h.plannerAtExpiry _ (h.steeringAtExpiry _ (h.thermalAtExpiry _ (h.settlePayload _
    (h.countStandstill s hs)))))

/-! ### An accepted MEASURE -/

theorem KeptByRaises.intakeAtMeasure (h : KeptByRaises P) (m : MeasurementRecord) : Keeps P (intakeAtMeasure m) :=
  fun s hs => h.judge _ _ _ _ (h.judge _ _ _ _ (h.same s _ rfl rfl rfl hs))

theorem KeptByRaises.gridAtMeasure (h : KeptByRaises P) (m : MeasurementRecord) : Keeps P (gridAtMeasure m) := by
  intro s hs
  unfold Machine.gridAtMeasure
  split <;> exact h.grid _ s hs

theorem KeptByRaises.wheelAtMeasure (h : KeptByRaises P) (w : Wheel) (m : MeasurementRecord) : Keeps P (wheelAtMeasure w m) := by
  intro s hs
  unfold Machine.wheelAtMeasure judgeMotor
  split
  · exact h.judge _ _ _ _ (h.onMotor _ _ s hs)
  · exact h.onMotor _ _ s hs

theorem KeptByRaises.superviseWheel (h : KeptByRaises P) (w : Wheel) (granted achieved : Int) :
    Keeps P (superviseWheel w granted achieved) := by
  intro s hs
  have hmarked : P (excessMarked w granted achieved s) := h.same s _ rfl rfl rfl hs
  rw [superviseWheel_eq]
  split
  · exact h.raise _ _ _ hmarked
  · exact hmarked

theorem KeptByRaises.supervise (h : KeptByRaises P) (granted : Both Int) (m : MeasurementRecord) :
    Keeps P (supervise granted m) := by
  intro s hs
  unfold Machine.supervise
  split
  · exact hs
  · exact h.superviseWheel _ _ _ _ (h.superviseWheel _ _ _ _ hs)

theorem KeptByRaises.takeMeasure (h : KeptByRaises P) (m : MeasurementRecord) : Keeps P (takeMeasure m) := fun s hs =>
  h.supervise _ m _ (h.judge _ _ _ _ (h.wheelAtMeasure .right m _ (h.wheelAtMeasure .left m _
    (h.gridAtMeasure m _ (h.intakeAtMeasure m s hs)))))

end

/-! ### Promises that no raise undoes -/

/-- The overflow count within its range. -/
def overflowFits (s : State) : Prop := s.trips.overflow ≤ 255

theorem overflowAfter_le (faults : List FaultRecord) {n : Nat} (h : n ≤ 255) : overflowAfter faults n ≤ 255 := by
  unfold overflowAfter saturate
  split_ifs <;> omega

/-- The overflow count holds at 255 (R143). -/
theorem overflowFits_kept : KeptByRaises overflowFits where
  same _ _ htrips _ _ h := (congrArg (fun t : Trips => t.overflow ≤ 255) htrips).mpr h
  withdraw _ h := h
  raise c d s h := by
    cases hc : s.trips.latched.get c with
    | true =>
      rw [raiseTrip_latched hc]
      exact h
    | false =>
      rw [raiseTrip_unlatched hc]
      exact overflowAfter_le _ h

/-- Code `c` is latched. -/
def isLatched (c : TripCode) (s : State) : Prop := s.trips.latched.get c = true

/-- No raise unlatches a code (R138, R139). -/
theorem isLatched_kept (c : TripCode) : KeptByRaises (isLatched c) where
  same _ _ htrips _ _ h := (congrArg (fun t : Trips => t.latched.get c = true) htrips).mpr h
  withdraw _ h := h
  raise e d s h := by
    rw [isLatched, raiseTrip_get, h]
    rfl

/-- A class-D code `c` has taken effect: it is latched at level D, both torques are 0 and TRIP_OUT_N is asserted. -/
def tripsDown (c : TripCode) (s : State) : Prop :=
  isLatched c s ∧ s.trips.level = .d ∧ s.engine.grant.torque = ⟨0, 0⟩ ∧ s.tripOut = true

/-- A raise of a class-D code that is not latched takes effect (R60, R135, R137). -/
theorem tripsDown_raise {c : TripCode} (hc : c.classD = true) (d : Option Int) {s : State}
    (h : s.trips.latched.get c = false) : tripsDown c (raiseTrip c d s) := by
  have hlevel : levelOf (s.trips.latched.set c true) = .d := (levelOf_eq_d _).mpr ⟨c, hc, by simp⟩
  rw [raiseTrip_unlatched h]
  refine ⟨by simp [isLatched, latchedTrips], hlevel, ?_, by simp [lineAsserted, hlevel]⟩
  simp [tellEngineOfLatch, hc, zeroTorque, setTorque]

theorem tripsDown_kept {c : TripCode} (hc : c.classD = true) : KeptByRaises (tripsDown c) where
  same s t htrips htorque hline := by
    rintro ⟨hlatched, hlevel, hzero, hout⟩
    exact ⟨(isLatched_kept c).same s t htrips htorque hline hlatched, htrips ▸ hlevel, htorque.trans hzero, hline.trans hout⟩
  withdraw := by
    rintro s ⟨hlatched, hlevel, hzero, hout⟩
    refine ⟨hlatched, hlevel, ?_, hout⟩
    rw [withdrawPositive_engine, hzero]
    rfl
  raise e d s := by
    rintro ⟨hlatched, hlevel, hzero, hout⟩
    cases he : s.trips.latched.get e with
    | true =>
      rw [raiseTrip_latched he]
      exact ⟨hlatched, hlevel, hzero, hout⟩
    | false =>
      have hkept := (isLatched_kept c).raise e d s hlatched
      rw [raiseTrip_unlatched he] at hkept ⊢
      have hlevel' : levelOf (s.trips.latched.set e true) = .d := (levelOf_eq_d _).mpr ⟨c, hc, hkept⟩
      refine ⟨hkept, hlevel', ?_, by simp [lineAsserted, hlevel']⟩
      by_cases hd : e.classD = true
      · simp [tellEngineOfLatch, hd, zeroTorque, setTorque]
      · simp [tellEngineOfLatch, hd, hlevel, hzero]

end Sys2Proof.Proofs
end

section
/-! SUPPORT. Every step keeps passes, held MEASURE and owed replies together, and the counters within their ranges (O54): the
operations, the commands one by one, and the step. -/

namespace Sys2Proof.Proofs

open Sys2Proof.Machine Sys2Proof.Safety Sys2Proof.Claims

/-! ### The steering reserve (R77, R78) -/

/-- The steering reserve is that of the tables, the L2 freshness and the pressure as they stand (R77). -/
def reserveFormed (s : State) : Prop :=
  s.traction.reserve = reserveOf s.store.image s.intake.l2 (demandInForce s.intake).pressure

theorem formReserve_formed (s : State) : reserveFormed (formReserve s) := rfl

/-- An operation that leaves the reserve as it was or forms it afresh keeps its bound. -/
theorem reserve_le_of {s t : State} (h : t.traction.reserve = s.traction.reserve ∨ reserveFormed t) (ht : tablesSound t)
    (hs : s.traction.reserve ≤ 500) : t.traction.reserve ≤ 500 := by
  rcases h with e | e
  · exact e ▸ hs
  · exact e ▸ reserveOf_le ht _ _

/-- The reserve formed over the LIMP SET. -/
theorem reserveOf_limpImage_le (l2 : Freshness) (pressure : Nat) : reserveOf limpImage l2 pressure ≤ 500 := by
  have hhi : steerResHi limpImage ≤ 500 := by decide
  have hlo : steerResLo limpImage ≤ 500 := by decide
  unfold reserveOf
  split_ifs <;> omega

/-- A swap forms the reserve afresh or leaves it as it was (R183). -/
theorem trySwap_reserve (s : State) : (trySwap s).traction.reserve = s.traction.reserve ∨ reserveFormed (trySwap s) := by
  unfold trySwap
  split
  · split
    · unfold swapRow
      dsimp only
      split
      · exact .inr (formReserve_formed _)
      · exact .inl rfl
    · exact .inl rfl
  · exact .inl rfl

theorem validateNext_reserve (s : State) :
    (validateNext s).traction.reserve = s.traction.reserve ∨ reserveFormed (validateNext s) := by
  unfold validateNext
  split
  · exact .inl rfl
  · split
    · dsimp only
      split
      · exact .inr (formReserve_formed _)
      · exact .inl rfl
    · exact .inl rfl

/-- A swap touches the steering reserve alone of what the promise reads. -/
theorem trySwap_follow {s : State} (h : tablesSound s) : CountersFollow s (trySwap s) := by
  have hreserve := reserve_le_of (trySwap_reserve s) (trySwap_keeps s h)
  constructor
  case reserve => exact hreserve
  all_goals simp [passSound, factorsSound]

/-! ### Resets and validation (R17 to R19, R150, R188) -/

theorem validateNext_follow {s : State} (h : tablesSound s) : CountersFollow s (validateNext s) := by
  have hreserve := reserve_le_of (validateNext_reserve s) (validateNext_keeps s h)
  constructor
  case reserve => exact hreserve
  all_goals simp [passSound, factorsSound]

theorem validateRows_follow (n : Nat) {s : State} (h : tablesSound s) : CountersFollow s (validateRows n s) := by
  induction n generalizing s with
  | zero => exact .rfl
  | succ n ih => exact (validateNext_follow h).trans (ih (validateNext_keeps s h))

theorem startValidation_follow (s : State) : CountersFollow s (startValidation s) := by
  constructor
  case reserve => exact fun _ => reserveOf_limpImage_le _ _
  all_goals simp [passSound, factorsSound]

theorem completeValidation_follow {s : State} {r : Nat} (h : tablesSound s) (hval : s.validation = some r) :
    CountersFollow s (completeValidation r s) := by
  obtain ⟨q, hq, -⟩ := validateRows_reaches (23 - r) hval
  obtain ⟨hmode, hidle⟩ := startup_of_validation (validateRows_keeps (23 - r) s h) hq
  rw [completeValidation, changeMode_parked_of_startup (by simpa using hmode) (by simpa using hidle)]
  exact (validateRows_follow (23 - r) h).trans { CountersFollow.rfl (s := validateRows (23 - r) s) with }

/-- What the blocks' reset values promise, whatever the rest of the part holds. -/
theorem passesAndCounters_afterReset {s : State} {nv : Vector NvRow 23} (h1 : s.portL1 = .afterReset)
    (h2 : s.portL2 = .afterReset) (h3 : s.portL3 = .afterReset) (hheld : s.heldMeasure = none)
    (hintake : s.intake = .afterReset) (hstore : s.store = .afterReset nv) (hengine : s.engine = .afterReset)
    (htraction : s.traction = .afterReset) (hplanner : s.planner = .afterReset) (hoverflow : s.trips.overflow ≤ 255) :
    passesAndCounters s := by
  have hport : portSound .afterReset := by simp [portSound, Port.afterReset, Counters.zero]
  have hexcess (w : Wheel) : Engine.afterReset.excess.get w ≤ 5 := by cases w <;> decide
  have hfactors (w : Wheel) : 250 ≤ Traction.afterReset.tf.get w ∧ Traction.afterReset.tf.get w ≤ 1000 := by
    cases w <;> decide
  have hreserve : Traction.afterReset.reserve ≤ 500 := by decide
  have hcopied : copiedFactorsSound .afterReset := by simp [copiedFactorsSound, Engine.afterReset]
  have hlockout : ∀ n, (Store.afterReset nv).lockout = some n → 1 ≤ n ∧ n ≤ 6000 := by simp [Store.afterReset]
  refine ⟨by simp [passSound, *, Engine.afterReset, Port.afterReset], ?_⟩
  rw [countersSound, countsSound, h1, h2, h3, hintake, hengine, htraction, hplanner, hstore]
  exact ⟨hport, hport, hport, hoverflow, Nat.zero_le _, hexcess, Nat.zero_le _, hfactors, hreserve, hcopied, Nat.zero_le _,
    Nat.zero_le _, Nat.zero_le _, Nat.zero_le _, Nat.zero_le _, Nat.zero_le _, hlockout, Nat.zero_le _⟩

end Sys2Proof.Proofs
end

section
/-! SUPPORT. Every step keeps passes, held MEASURE and owed replies together, and the counters within their ranges (O54): the
expiry, the pass, the requests, and the step. -/

namespace Sys2Proof.Proofs

open Sys2Proof.Machine Sys2Proof.Safety Sys2Proof.Claims

/-! ### The interval expiry (R142) -/

theorem countL1_follow (s : State) : CountersFollow s (countL1 s) := by
  constructor
  case overflow => exact overflowFits_kept.countL1 s
  case l1Count =>
    intro h
    rw [countL1_intake]
    split_ifs
    · exact Nat.zero_le _
    · exact (Nat.sub_le _ _).trans h
    · exact h
  all_goals simp [passSound, factorsSound, copiedFactorsSound]

theorem stepGrace_follow {s : State} (h : tablesSound s) : CountersFollow s (stepGrace s) := by
  have hgrace := l2Grace_le h
  constructor
  case overflow => exact overflowFits_kept.stepGrace s
  case grace =>
    intro _
    simp only [stepGrace, judgeCondition_frame, State.withIntake_intake]
    omega
  all_goals simp [passSound, factorsSound, copiedFactorsSound]

theorem staleL2_follow {s : State} (h : tablesSound s) : CountersFollow s (staleL2 s) := by
  have htables : tablesSound (staleL2 s) := SameTables.keeps (by constructor <;> simp [staleL2]) h
  constructor
  case reserve => exact reserve_le_of (.inr (formReserve_formed _)) htables
  all_goals simp [passSound, factorsSound, staleL2]

theorem lowerSetpoint_follow (s : State) : CountersFollow s (lowerSetpoint s) := { CountersFollow.rfl (s := s) with }

theorem countL2_follow {s : State} (h : tablesSound s) : CountersFollow s (countL2 s) := by
  unfold countL2
  split
  · exact .rfl
  · split
    · exact staleL2_follow h
    · exact { CountersFollow.rfl (s := s) with l2Count := fun hle => (Nat.sub_le _ _).trans hle }
  · have hlowered : tablesSound (lowerSetpoint s) := SameTables.keeps (by constructor <;> simp [lowerSetpoint]) h
    exact (lowerSetpoint_follow s).trans (stepGrace_follow hlowered)

theorem countStandstill_follow (s : State) : CountersFollow s (countStandstill s) := { CountersFollow.rfl (s := s) with }

theorem settlePayload_follow (s : State) : CountersFollow s (settlePayload s) := by
  constructor <;> simp [passSound, factorsSound, copiedFactorsSound]

theorem onMotor_follow (w : Wheel) (f : Motor → Motor) (s : State) : CountersFollow s (onMotor w f s) :=
  { CountersFollow.rfl (s := s) with }

theorem thermalAtExpiry_follow (s : State) : CountersFollow s (thermalAtExpiry s) := by
  constructor
  case overflow => exact overflowFits_kept.thermalAtExpiry s
  all_goals simp [passSound, factorsSound, copiedFactorsSound]

/-- The steering-pressure counter holds at 20 (R83). -/
theorem steeringAtExpiry_follow (s : State) : CountersFollow s (steeringAtExpiry s) := by
  have hcount : (steeringAtExpiry s).traction.pressureCount = pressureCountAfter s := by
    unfold steeringAtExpiry
    dsimp only
    split <;> simp
  constructor
  case overflow => exact overflowFits_kept.steeringAtExpiry s
  case pressure =>
    intro h
    rw [hcount]
    unfold pressureCountAfter saturate
    split <;> omega
  all_goals simp [passSound, factorsSound, copiedFactorsSound]

theorem travelPlan_follow (s : State) : CountersFollow s (travelPlan s) := by
  constructor <;> simp [passSound, factorsSound]

theorem stepShortfall_follow {s : State} (h : tablesSound s) : CountersFollow s (stepShortfall s) := by
  have hmost := shortfallIntervals_le h
  constructor
  case overflow => exact overflowFits_kept.stepShortfall s
  case shortfall =>
    intro _
    simp only [stepShortfall, judgeCondition_frame, State.withPlanner_planner, shortfallAfter]
    split <;> omega
  all_goals simp [passSound, factorsSound, copiedFactorsSound]

/-- A lockout that counts down stays in its range until it ends (R172). -/
theorem countLockout_follow (s : State) : CountersFollow s (s.withStore (countLockout s.store)) := by
  unfold countLockout
  split
  · exact { CountersFollow.rfl (s := s) with }
  next n hn =>
    refine { CountersFollow.rfl (s := s) with lockout := fun h k hk => ?_ }
    obtain ⟨-, hmost⟩ := h n hn
    simp only [State.withStore_store, Option.ite_none_left_eq_some, Option.some.injEq] at hk
    omega

/-- The service idle count stays below SERVICE_IDLE (R174). -/
theorem countIdle_follow {s : State} (h : tablesSound s) : CountersFollow s (s.withStore (countIdle s.store)) := by
  have hmost := serviceIdle_le h
  unfold countIdle
  split_ifs with hlevel hreach
  · exact { CountersFollow.rfl (s := s) with idle := fun _ => Nat.zero_le _ }
  · exact { CountersFollow.rfl (s := s) with level := fun _ => Nat.zero_le _, idle := fun _ => Nat.zero_le _ }
  · exact { CountersFollow.rfl (s := s) with idle := fun _ => by simp only [State.withStore_store]; omega }

theorem intakeAtExpiry_keepsCounters : Keeps countersPromise intakeAtExpiry := by
  have hl1 := keepsCounters_of_follow countL1_keeps fun s _ => countL1_follow s
  have hl2 := keepsCounters_of_follow countL2_keeps fun _ => countL2_follow
  have hstill := keepsCounters_of_follow countStandstill_keeps fun s _ => countStandstill_follow s
  have hpayload := keepsCounters_of_follow settlePayload_keeps fun s _ => settlePayload_follow s
  exact hpayload.comp (hstill.comp (hl2.comp hl1))

theorem plannerAtExpiry_keepsCounters : Keeps countersPromise plannerAtExpiry := by
  have htravel := keepsCounters_of_follow travelPlan_keeps fun s _ => travelPlan_follow s
  have hshort := keepsCounters_of_follow stepShortfall_keeps fun _ => stepShortfall_follow
  exact hshort.comp htravel

theorem storeAtExpiry_keepsCounters : Keeps countersPromise storeAtExpiry := by
  have hlockout := keepsCounters_of_follow countLockout_keeps fun s _ => countLockout_follow s
  have hidle := keepsCounters_of_follow countIdle_keeps fun _ => countIdle_follow
  exact hidle.comp hlockout

theorem expireInterval_keepsCounters : Keeps countersPromise expireInterval := by
  intro s h
  have hstamp : countersPromise (s.withStamp (s.stamp + 1)) := ⟨h.1, stamp_keeps s h.2⟩
  have hthermal := keepsCounters_of_follow thermalAtExpiry_keeps fun s _ => thermalAtExpiry_follow s
  have hsteer := keepsCounters_of_follow steeringAtExpiry_keeps fun s _ => steeringAtExpiry_follow s
  exact storeAtExpiry_keepsCounters _ (plannerAtExpiry_keepsCounters _ (hsteer _ (hthermal _
    (intakeAtExpiry_keepsCounters _ hstamp))))

/-! ### The pass (R44, R45, R53, R57, R58, R62) -/

/-- A traction factor that stage 6 forms from one in range is in range (R71). -/
theorem nextFactor_bounds (regime : Regime) (departs : Bool) (recover : Nat) {tf : Nat} (h : 250 ≤ tf ∧ tf ≤ 1000) :
    250 ≤ nextFactor regime departs recover tf ∧ nextFactor regime departs recover tf ≤ 1000 := by
  unfold nextFactor
  split_ifs <;> omega

/-- A pass that starts copies the factors in force (R45). -/
theorem startPass_factors {s : State} (h : factorsSound s) : factorsSound (startPass s) := by
  obtain ⟨hfactors, hcopied⟩ := h
  unfold startPass
  split
  · exact ⟨hfactors, hcopied⟩
  · refine ⟨hfactors, fun n hn => ?_⟩
    obtain rfl := Pass.snapshotTaken.inj (Option.some.inj hn)
    exact hfactors

/-- A pass that starts has a record (R44). -/
theorem startPass_pass {s : State} (h : passSound s) : passSound (startPass s) := by
  obtain ⟨hheld, hrecord, h1, h2, h3⟩ := h
  unfold startPass
  split
  · exact ⟨hheld, hrecord, h1, h2, h3⟩
  next m hm => exact ⟨fun _ => rfl, fun _ => by simp [hm], fun _ _ _ => rfl, h2, h3⟩

theorem startPass_follow (s : State) : CountersFollow s (startPass s) := by
  constructor
  case pass => exact startPass_pass
  case factors => exact startPass_factors
  all_goals simp

/-- A pass that runs its stages forms the factors from those it has copied. -/
theorem runStages_follow (s : State) : CountersFollow s (runStages s) := by
  unfold runStages
  split
  next n hn =>
    rw [computeStages_eq]
    refine { CountersFollow.rfl (s := s) with pass := ?_, factors := ?_ }
    · rintro ⟨-, hrecord, -, h2, h3⟩
      exact ⟨fun _ => rfl, fun _ => hrecord (by simp [hn]), fun _ _ _ => rfl, h2, h3⟩
    · rintro ⟨-, hcopied⟩
      refine ⟨fun w => ?_, by simp [copiedFactorsSound]⟩
      simpa [newFactors] using nextFactor_bounds _ _ _ (hcopied n hn w)
  · exact .rfl

/-- What completion hands on touches the L1 port's receive state, the held slot, the pass, and what a swap touches (R58). -/
theorem handOn_frame (b : Bool) (s : State) :
    (handOn b s).portL1.counters = s.portL1.counters ∧ (handOn b s).portL2 = s.portL2 ∧ (handOn b s).portL3 = s.portL3 ∧
    (handOn b s).intake = s.intake ∧ (handOn b s).store = (trySwap s).store ∧
    (handOn b s).traction = (trySwap s).traction ∧ (handOn b s).planner = s.planner ∧ (handOn b s).trips = s.trips ∧
    (handOn b s).engine.excess = s.engine.excess := by
  have hcounters : (replyOfPass b (trySwap s)).portL1.counters = s.portL1.counters := by
    unfold replyOfPass
    split
    · split <;> simp [setReceive, State.withPort]
    · simp
  unfold handOn
  dsimp only
  split
  · simp
  · rw [replyOfPass_eq]
    simp [hcounters]

/-- After a completion the held MEASURE's pass is in flight on the record, or the L1 port owes no reply unformed (R58). -/
theorem handOn_pass (b : Bool) {s : State} (hrecord : s.intake.measurement.isSome = true)
    (hpass : s.engine.pass = none)
    (h2 : ∀ a c, s.portL2.receive ≠ .replyPending a c none) (h3 : ∀ a c, s.portL3.receive ≠ .replyPending a c none) :
    passSound (handOn b s) := by
  obtain ⟨m, hm⟩ := Option.isSome_iff_exists.mp hrecord
  unfold handOn
  dsimp only
  split
  · rw [startPass_eq (m := m) (by simpa using hm)]
    exact ⟨nofun, fun _ => by simp [hm], fun _ _ _ => rfl, by simpa using h2, by simpa using h3⟩
  next hheld =>
    have hport (a : Byte) (c : Byte) : (replyOfPass b (trySwap s)).portL1.receive ≠ .replyPending a c none := by
      unfold replyOfPass
      split
      · split <;> simp [setReceive, State.withPort]
      next hnone => exact fun h => hnone a c h
    rw [replyOfPass_eq]
    exact ⟨by simp_all, by simp_all, fun a c h => absurd h (hport a c), by simpa using h2, by simpa using h3⟩

theorem handOn_factors (b : Bool) {s : State} (hfactors : ∀ w, 250 ≤ s.traction.tf.get w ∧ s.traction.tf.get w ≤ 1000)
    (hpass : s.engine.pass = none) : factorsSound (handOn b s) := by
  have hswapped : factorsSound (trySwap s) := ⟨by simpa using hfactors, by simp [copiedFactorsSound, hpass]⟩
  unfold handOn
  dsimp only
  split
  · exact startPass_factors hswapped
  · rw [replyOfPass_eq]
    exact hswapped

theorem completePass_follow (b : Bool) {s : State} (h : tablesSound s) : CountersFollow s (completePass b s) := by
  unfold completePass
  split
  next w hw =>
    have hreserve := reserve_le_of (trySwap_reserve (writeGrant w s)) (trySwap_keeps _ (writeGrant_keeps w s h))
    have hdone : (writeGrant w s).engine.pass = none := rfl
    constructor
    case pass =>
      rintro ⟨-, hrecord, -, h2, h3⟩
      exact handOn_pass b (hrecord (by simp [hw])) hdone h2 h3
    case factors => exact fun hf => handOn_factors b hf.1 hdone
    case reserve => simpa only [handOn_frame, writeGrant_frame] using hreserve
    all_goals simp [handOn_frame, portSound]
  next => exact .rfl

/-! ### Requests (R156, R157) -/

/-- A sound frame heard is counted, and on L3 sets the idle count to 0 (R156, R174). -/
theorem heard_follow (p : PortId) (s : State) : CountersFollow s (heard p s) := by
  refine (countOn_follow p countGood_step s).trans ?_
  cases p
  · exact .rfl
  · exact .rfl
  · exact { CountersFollow.rfl (s := countOn .l3 countGood s) with idle := fun _ => Nat.zero_le _ }

/-- A request keeps the promise where its owner follows it, and leaves the reply to a pass on L1 alone. -/
theorem request_keepsCounters {p : PortId} {code : Byte} {payload : List Byte} {handle : State → State × Option ReplyBody}
    (htables : HandlerKeeps p code handle) (hfollow : ∀ s, tablesSound s → CountersFollow s (handle s).1)
    (hbody : ∀ s, passSound s → (handle s).2 = none → p = .l1 ∧ (handle s).1.engine.pass.isSome = true) :
    RequestKeeps countersPromise p code payload handle := by
  refine keepsCounters_of (serveRequest_keeps p payload htables) fun s ht hs => ?_
  rcases serveRequest_cases p code payload handle s with e | e | ⟨a, ha, e⟩ <;> rw [e]
  · exact hs
  · exact (abandonOnLength_follow p s).keeps hs
  · have hheard := (heard_follow p s).keeps hs
    refine CountersFollow.keeps (.trans (hfollow _ (heard_keeps p s ht)) (withPort_follow id fun a' c' h => ?_)) hheard
    injection h with _ _ hnone
    exact .inr (hbody _ hheard.1 hnone)

/-- A request that is answered at once. -/
theorem answered_keepsCounters {p : PortId} {code : Byte} {payload : List Byte} {handle : State → State × Option ReplyBody}
    (htables : HandlerKeeps p code handle) (hanswers : Answers handle)
    (hfollow : ∀ s, tablesSound s → CountersFollow s (handle s).1) : RequestKeeps countersPromise p code payload handle :=
  request_keepsCounters htables hfollow fun s _ hnone => by simpa [hnone] using hanswers s

/-! ### MEASURE (R22, R44, R62) -/

/-- An excess count holds at 5 (R67). -/
theorem superviseWheel_excess (w : Wheel) (granted achieved : Int) {s : State} (h : ∀ v, s.engine.excess.get v ≤ 5) :
    ∀ v, (superviseWheel w granted achieved s).engine.excess.get v ≤ 5 := by
  have hcount : excessAfter w granted achieved s ≤ 5 := by
    unfold excessAfter saturate
    split <;> omega
  have hset : (superviseWheel w granted achieved s).engine.excess = s.engine.excess.set w (excessAfter w granted achieved s) := by
    rw [superviseWheel_eq]
    split <;> simp [excessMarked]
  intro v
  rw [hset]
  by_cases hv : v = w
  · subst hv
    simpa using hcount
  · simpa [hv] using h v

theorem supervise_excess (granted : Both Int) (m : MeasurementRecord) {s : State} (h : ∀ w, s.engine.excess.get w ≤ 5) :
    ∀ w, (supervise granted m s).engine.excess.get w ≤ 5 := by
  unfold supervise
  split
  · exact h
  · exact superviseWheel_excess _ _ _ (superviseWheel_excess _ _ _ h)

theorem takeMeasure_follow (m : MeasurementRecord) {s : State} (h : tablesSound s) : CountersFollow s (takeMeasure m s) := by
  have hl1 := l1Timeout_le h
  constructor
  case pass =>
    rintro ⟨hheld, -, h1, h2, h3⟩
    refine ⟨by simpa [takeMeasure] using hheld, fun _ => ?_, by simpa [takeMeasure] using h1, by simpa [takeMeasure] using h2,
      by simpa [takeMeasure] using h3⟩
    simp [takeMeasure, intakeAtMeasure, intakeWithMeasure]
  case overflow => exact overflowFits_kept.takeMeasure m s
  case excess => exact fun he => supervise_excess _ m (by simpa using he)
  case l1Count => simpa [takeMeasure, intakeAtMeasure, intakeWithMeasure] using fun _ => hl1
  all_goals simp [takeMeasure, factorsSound, copiedFactorsSound, intakeAtMeasure, intakeWithMeasure]

/-- A MEASURE taken by the engine waits in the held slot only beside a pass in flight (R62). -/
theorem engineAtMeasure_follow (payload : List Byte) (s : State) : CountersFollow s (engineAtMeasure payload s).1 := by
  unfold engineAtMeasure
  split_ifs with hmode hpass
  · exact .rfl
  · exact startPass_follow s
  · refine { CountersFollow.rfl (s := s) with pass := ?_ }
    rintro ⟨-, hrecord, h1, h2, h3⟩
    exact ⟨fun _ => Option.isSome_iff_ne_none.mpr hpass, hrecord, h1, h2, h3⟩

/-- A MEASURE whose reply is not formed at once has a pass in flight (R44, R157). -/
theorem engineAtMeasure_owes {payload : List Byte} {s : State} (hrecord : s.intake.measurement.isSome = true)
    (h : (engineAtMeasure payload s).2 = none) : (engineAtMeasure payload s).1.engine.pass.isSome = true := by
  obtain ⟨m, hm⟩ := Option.isSome_iff_exists.mp hrecord
  unfold engineAtMeasure at h ⊢
  split_ifs at h ⊢ with hmode hpass
  · rw [startPass_eq hm]
    rfl
  · exact Option.isSome_iff_ne_none.mpr hpass

theorem measure_keepsCounters (payload : List Byte) :
    RequestKeeps countersPromise .l1 0x10 payload (handleMeasure payload) := by
  refine request_keepsCounters (handleMeasure_keeps payload) (fun s h => ?_) fun s _ hnone => ⟨rfl, ?_⟩
  · rw [handleMeasure_state]
    split
    · exact (takeMeasure_follow _ h).trans (engineAtMeasure_follow payload _)
    · exact .rfl
  · by_cases hlength : payload.length = 23
    · have htaken : handleMeasure payload s = engineAtMeasure payload (takeMeasure (readMeasure payload) s) := if_pos hlength
      rw [htaken] at hnone ⊢
      exact engineAtMeasure_owes (by simp [takeMeasure, intakeAtMeasure, intakeWithMeasure]) hnone
    · simp [handleMeasure, hlength] at hnone

/-! ### DEMAND (R26, R77, R78) -/

/-- The reserve stands formed where all that it is formed from stands. -/
theorem reserveFormed_of {s t : State} (himage : t.store.image = s.store.image) (hreserve : t.traction = s.traction)
    (hl2 : t.intake.l2 = s.intake.l2) (hdemand : demandInForce t.intake = demandInForce s.intake) (h : reserveFormed s) :
    reserveFormed t := by
  unfold reserveFormed
  rw [himage, hreserve, hl2, hdemand]
  exact h

/-- A swap leaves the reserve formed: that of row 18 forms it, and no other row sets it (R77, R183). -/
theorem trySwap_formed : Keeps reserveFormed trySwap := by
  intro s h
  unfold trySwap
  split
  next st _ =>
    split
    · unfold swapRow
      dsimp only
      split
      · exact formReserve_formed _
      next hrow =>
        have h18 : imageRow (s.store.image.setIfInBounds st.row ⟨st.entries, .nv⟩) 18 = imageRow s.store.image 18 := by
          simp [imageRow, hrow]
        exact h.trans (reserveOf_congr h18.symm _ _)
    · exact h
  next => exact h

theorem changeMode_formed (m : Mode) : Keeps reserveFormed (changeMode m) := by
  intro s h
  have hdrawn : reserveFormed (if s.mode = .drive then withdrawPositive (refreshLine (s.withMode m)) else
      refreshLine (s.withMode m)) := by split <;> exact h
  unfold changeMode
  split
  · exact h
  · dsimp only
    split
    · exact trySwap_formed _ hdrawn
    · exact hdrawn

/-- After an accepted DEMAND the reserve is that of its pressure and of the tables as it leaves them (R77, R78). -/
theorem acceptDemand_formed (d : DemandRecord) (s : State) : reserveFormed (acceptDemand d s) := by
  have hfirst := formReserve_formed
    (markPresent .chassisLinkLost false (s.withIntake (intakeWithDemand s.store.image d s.intake)))
  refine changeMode_formed _ _ (reserveFormed_of ?_ ?_ ?_ ?_ hfirst)
  · simp [judgeDirection_store]
  · simp [judgeDirection_store]
  · simp
  · simp [demandInForce]

theorem acceptDemand_follow (d : DemandRecord) {s : State} (h : tablesSound s) : CountersFollow s (acceptDemand d s) := by
  have hl2 := l2Timeout_le h
  have hreserve := reserve_le_of (s := s) (.inr (acceptDemand_formed d s)) (acceptDemand_keeps d s h)
  constructor
  case reserve => exact hreserve
  case l2Count =>
    rw [acceptDemand_intake]
    exact fun _ => hl2
  case grace =>
    rw [acceptDemand_intake]
    exact fun _ => Nat.zero_le _
  all_goals simp [passSound, factorsSound, copiedFactorsSound, acceptDemand_intake]

theorem handleDemand_follow (payload : List Byte) {s : State} (h : tablesSound s) :
    CountersFollow s (handleDemand payload s).1 := by
  rw [handleDemand_state]
  split
  · exact acceptDemand_follow _ h
  · exact .rfl

/-! ### The other requests (R112 to R115, R144, R148, R170 to R181) -/

theorem withPlanner_follow {s : State} {p : Planner} (h : p.shortfall = s.planner.shortfall) :
    CountersFollow s (s.withPlanner p) :=
  { CountersFollow.rfl (s := s) with shortfall := fun hle => h ▸ hle }

theorem withTrips_follow {s : State} {t : Trips} (h : t.overflow = s.trips.overflow) : CountersFollow s (s.withTrips t) :=
  { CountersFollow.rfl (s := s) with overflow := fun hle => h ▸ hle }

theorem clearTrips_follow (s : State) : CountersFollow s (clearTrips s) := by
  constructor <;> simp [clearTrips, passSound, factorsSound]

/-- The third failure starts a lockout of LOCKOUT_LENGTH (R172). -/
theorem failAccess_follow {s : State} (h : tablesSound s) : CountersFollow s (s.withStore (failAccess s.store)) := by
  obtain ⟨hleast, hmost⟩ := lockoutLength_bounds h
  unfold failAccess
  split_ifs with hthird
  · refine { CountersFollow.rfl (s := s) with
      level := fun _ => Nat.zero_le _, failures := fun _ => Nat.zero_le _, lockout := fun _ n hn => ?_ }
    obtain rfl := Option.some.inj hn
    omega
  · refine { CountersFollow.rfl (s := s) with level := fun _ => Nat.zero_le _, failures := fun _ => ?_ }
    simp only [State.withStore_store]
    omega

theorem grantAccess_follow {level : Nat} (h : level ≤ 2) (s : State) :
    CountersFollow s (s.withStore (grantAccess level s.store)) :=
  { CountersFollow.rfl (s := s) with level := fun _ => h, failures := fun _ => Nat.zero_le _ }

theorem handleAccess_follow (payload : List Byte) {s : State} (h : tablesSound s) :
    CountersFollow s (handleAccess payload s).1 := by
  rcases handleAccess_state payload s with e | e | ⟨level, hlevel, e⟩ <;> rw [e]
  · exact .rfl
  · exact failAccess_follow h
  · exact grantAccess_follow (by omega) s

theorem verifyStore_follow (st : StagedRow) (cells : NvRow) (s : State) :
    CountersFollow s (s.withStore (verifyStore st cells s.store)) := by
  unfold verifyStore
  dsimp only
  split
  · exact { CountersFollow.rfl (s := s) with }
  · exact { CountersFollow.rfl (s := s) with writeFail := fun _ => Nat.min_le_right _ _ }

/-! ### The commands gathered, and the step -/

/-- A share of an expiry that is taken where it is due. -/
theorem share_keepsCounters {f : State → State} {due : State → Bool} (ht : keepsTables f)
    (hf : ∀ s, tablesSound s → CountersFollow s (f s)) : Keeps countersPromise (whenDue due f) :=
  Keeps.whenDue fun s _ => keepsCounters_of_follow ht hf s

theorem motorShare_keepsCounters (w : Wheel) (f : State → Motor → Motor) {due : State → Bool} :
    Keeps countersPromise (whenDue due fun s => onMotor w (f s) s) :=
  share_keepsCounters (onMotor_keeps w f) fun s _ => onMotor_follow w (f s) s

/-- A warm restart leaves every counter at its reset value but the overflow count, which stands (R150). -/
theorem warmRestart_keepsCounters : Keeps countersPromise fun s => startValidation (afterWarmRestart s) := by
  rintro s ⟨⟨-, -, -, -, hoverflow, -⟩, -⟩
  have hreset : passesAndCounters (afterWarmRestart s) :=
    passesAndCounters_afterReset rfl rfl rfl rfl rfl rfl rfl rfl rfl hoverflow
  refine ⟨(startValidation_follow _).keeps hreset, startValidation_keeps rfl ⟨rfl, rfl, rfl⟩ (fun st hst => ?_)
    ⟨fun _ => rfl, fun hd => ?_⟩⟩
  · cases hst
  · cases hd

theorem programVerify_keepsCounters (found : Option NvRow) {s : State} {st : StagedRow}
    (hprog : s.store.programmer = .programming) (h : countersPromise s) :
    countersPromise (trySwap (s.withStore (verifyStore st (programmedRow st found) s.store))) := by
  have htables := verify_keeps (programmedRow st found) (st := st) h.2 hprog
  exact ⟨((verifyStore_follow st _ s).trans (trySwap_follow htables)).keeps h.1, trySwap_keeps _ htables⟩

/-- Everything that a command does keeps the promise of passes and counters. -/
theorem commandsKeepCounters : CommandsKeep countersPromise where
  pending _ _ h := h
  idle := (keepsCounters_of_follow runStages_keeps fun s _ => runStages_follow s).comp
    (keepsCounters_of_follow validateNext_keeps fun _ => validateNext_follow)
  coldReset := keepsCounters_of coldReset_keeps fun _ _ _ =>
    passesAndCounters_afterReset rfl rfl rfl rfl rfl rfl rfl rfl rfl (Nat.zero_le _)
  resetNRelease := keepsCounters_of_follow resetNRelease_keeps fun s _ => by
    split
    · have hreleased : CountersFollow s (s.withResetLow false) := { CountersFollow.rfl (s := s) with }
      exact hreleased.trans (startValidation_follow _)
    · exact .rfl
  validationComplete _ _ hlow hval h :=
    ⟨(completeValidation_follow h.2 hval).keeps h.1, completeValidation_keeps hlow h.2 hval⟩
  warmRestart s _ h := warmRestart_keepsCounters s h
  expiry := expireInterval_keepsCounters
  l1Stale := share_keepsCounters (countStandstill_keeps.comp countL1_keeps) fun s _ =>
    (countL1_follow s).trans (countStandstill_follow _)
  l2Stale := share_keepsCounters countL2_keeps (fun _ => countL2_follow)
  grace := share_keepsCounters stepGrace_keeps (fun _ => stepGrace_follow)
  holdExpired w := motorShare_keepsCounters w _
  boostEnd w := motorShare_keepsCounters w _
  recoverEnd w := motorShare_keepsCounters w _
  pressure := share_keepsCounters steeringAtExpiry_keeps (fun s _ => steeringAtExpiry_follow s)
  advance := share_keepsCounters travelPlan_keeps (fun s _ => travelPlan_follow s)
  shortfall := share_keepsCounters stepShortfall_keeps (fun _ => stepShortfall_follow)
  lockoutEnd := share_keepsCounters countLockout_keeps (fun s _ => countLockout_follow s)
  idleTimeout := share_keepsCounters countIdle_keeps (fun _ => countIdle_follow)
  marker p a := keepsCounters_of_follow (onMarker_keeps p a) fun s _ => onMarker_follow p a s
  framingError p := keepsCounters_of_follow (onFramingError_keeps p) fun s _ => onFramingError_follow p s
  gap p := keepsCounters_of_follow (onGap_keeps p) fun s _ => onGap_follow p s
  length p n := keepsCounters_of_follow (onLength_keeps p n) fun s _ => onLength_follow p n s
  shortBreak p := keepsCounters_of_follow (onShortBreak_keeps p) fun s _ => onShortBreak_follow p s
  longBreak p := keepsCounters_of_follow (onLongBreak_keeps p) fun s _ => onLongBreak_follow p s
  checkFailure p code payload check := keepsCounters_of_follow (onCheckFailure_keeps p code payload check) fun s _ =>
    onCheckFailure_follow p code payload check s
  replyBegin p := keepsCounters_of_follow (beginReply_keeps p) fun s _ => beginReply_follow p s
  replyComplete p := keepsCounters_of_follow (completeReply_keeps p) fun s _ => completeReply_follow p s
  read p code payload handle hsame hanswers htables := answered_keepsCounters htables hanswers fun s _ => by
    rw [hsame s]
    exact .rfl
  measure := measure_keepsCounters
  passCompletion b := (keepsCounters_of_follow (completePass_keeps b) fun _ => completePass_follow b).comp
    (keepsCounters_of_follow runStages_keeps fun s _ => runStages_follow s)
  demand payload := answered_keepsCounters (handleDemand_keeps payload) (handleDemand_answers payload) fun _ =>
    handleDemand_follow payload
  planAppend payload := answered_keepsCounters (handleAppend_keeps payload) (handleAppend_answers payload) fun s _ => by
    rcases handleAppend_state payload s with e | ⟨segs, e⟩ <;> rw [e]
    · exact .rfl
    · exact withPlanner_follow rfl
  planStart payload := answered_keepsCounters (handleStart_keeps payload) (handleStart_answers payload) fun s _ => by
    rcases handleStart_state payload s with e | e <;> rw [e]
    · exact .rfl
    · constructor <;> simp [startPlan, passSound, factorsSound]
  planClear payload := answered_keepsCounters (handleClear_keeps payload) (handleClear_answers payload) fun s _ => by
    rcases handleClear_state payload s with e | e <;> rw [e]
    · exact .rfl
    · exact withPlanner_follow rfl
  tripClear payload := answered_keepsCounters (handleTripClear_keeps payload) (handleTripClear_answers payload) fun s _ => by
    rcases handleTripClear_state payload s with e | e <;> rw [e]
    · exact .rfl
    · exact clearTrips_follow s
  faultAck payload := answered_keepsCounters (handleFaultAck_keeps payload) (handleFaultAck_answers payload) fun s _ => by
    rcases handleFaultAck_state payload s with e | e <;> rw [e]
    · exact .rfl
    · exact withTrips_follow rfl
  access payload := answered_keepsCounters (handleAccess_keeps payload) (handleAccess_answers payload) fun _ =>
    handleAccess_follow payload
  logout payload := answered_keepsCounters (handleLogout_keeps payload) (handleLogout_answers payload) fun s _ => by
    rcases handleLogout_state payload s with e | e <;> rw [e]
    · exact .rfl
    · exact levelDropped_follow s
  rowStage payload := answered_keepsCounters (handleStage_keeps payload) (handleStage_answers payload) fun s _ => by
    rcases handleStage_state payload s with e | ⟨_, _, _, e⟩ <;> rw [e]
    · exact .rfl
    · exact { CountersFollow.rfl (s := s) with }
  rowCommit payload := answered_keepsCounters (handleCommit_keeps payload) (handleCommit_answers payload) fun s _ => by
    rcases handleCommit_state payload s with e | e <;> rw [e]
    · exact .rfl
    · exact { CountersFollow.rfl (s := s) with }
  programVerify found _ _ hprog _ h := programVerify_keepsCounters found hprog h

/-- Settles O54, from what everything that a command does keeps (`commandsKeepCounters`). -/
theorem stepKeepsPassesAndCounters : Obligations.StepKeepsPassesAndCounters := fun s t hpass hcounters htables e =>
  (commandsKeepCounters.step s t ⟨⟨hpass, hcounters⟩, htables⟩ e).1

end Sys2Proof.Proofs
end

section
/-! SUPPORT. COLD_RESET sets every block (O3): the reset values, and the row that an interrupted program leaves. -/

namespace Sys2Proof.Proofs

open Sys2Proof.Machine Sys2Proof.Safety Sys2Proof.Claims

/-! ### The NONVOLATILE ARRAY across a cold reset (R1, R184) -/

/-- Every entry of an interrupted row takes each bit from the old entry or from the new one (R184, log 9). -/
theorem interruptedRow_getLsbD (n : Nat) (old new : Row) {e : Nat} (he : e < 8) (b : Nat) :
    (rowEntry (interruptedRow n old new).entries e).getLsbD b = (rowEntry old e).getLsbD b ∨
    (rowEntry (interruptedRow n old new).entries e).getLsbD b = (rowEntry new e).getLsbD b := by
  have hentry : rowEntry (interruptedRow n old new).entries e = mixedEntry n e old new := by
    simp [rowEntry, interruptedRow, he]
  rw [hentry, mixedEntry, BitVec.getLsbD_or, BitVec.getLsbD_and, BitVec.getLsbD_and, BitVec.getLsbD_not]
  by_cases hb : b < 16
  · cases (Config.programmedBits n e).getLsbD b <;> simp [hb]
  · simp [BitVec.getLsbD_of_ge _ _ (Nat.not_lt.mp hb)]

/-- The row of the array that a reset cuts off, where one is being written. -/
theorem nvAfterColdReset_written {n : Nat} {t : Store} {st : StagedRow} (hprog : t.programmer = .programming)
    (hst : t.stage = some st) :
    nvAfterColdReset n t = t.nv.setIfInBounds st.row (interruptedRow n (nvRow t st.row).entries st.entries) := by
  simp [nvAfterColdReset, hprog, hst]

/-- A row that is not being written is kept (R1). -/
theorem nvAfterColdReset_kept (n : Nat) {t : Store} {r : Nat} (h : ¬beingWritten t r) :
    (nvAfterColdReset n t)[r]?.getD erasedRow = nvRow t r := by
  unfold nvAfterColdReset
  split
  next st hprog hst =>
    have hne : st.row ≠ r := fun hr => h ⟨hprog, st, hst, hr⟩
    simp [nvRow, hne]
  next => rfl

/-! ### The reset values (R43, R68, R86, R108, R128, R150, R168, R189) -/

/-- The reserve after a cold reset is STEER_RES_HI of the LIMP SET row 18 (R86). -/
theorem traction_afterReset :
    Traction.afterReset = { tf := ⟨1000, 1000⟩, reserve := steerResHi limpImage, pressureCount := 0 } := by
  have hreserve : (rowEntry (limpRow 18) 4).toNat = steerResHi limpImage := by decide
  rw [Traction.afterReset, hreserve]

/-- After either reset no row is marked SUSPECT (R189). -/
theorem isSuspect_afterReset (nv : Vector NvRow 23) (r : Nat) : isSuspect (.afterReset nv) r = false := by
  by_cases hr : r < 23 <;> simp [isSuspect, Store.afterReset, hr]

theorem coldReset_shared (nv : Vector NvRow 23) (n : Nat) (queue : List Instr) :
    resetShared (((State.coldReset nv).withFreeCount n).withPending queue) :=
  ⟨rfl, rfl, rfl, rfl, rfl, rfl, rfl, rfl, rfl, traction_afterReset, rfl, rfl, rfl, rfl, rfl, rfl, rfl, rfl,
    isSuspect_afterReset nv, rfl⟩

/-- Settles O3, block by block; the row being written by its bits (`interruptedRow_getLsbD`). -/
theorem coldResetSetsEveryBlock : Obligations.ColdResetSetsEveryBlock := by
  refine fun s => ⟨_, rfl, coldReset_shared _ _ _, rfl, rfl, rfl, rfl, rfl, fun r hr => nvAfterColdReset_kept _ hr,
    fun st hprog hst hrow e he b => ?_, rfl⟩
  have hwritten : (nvAfterColdReset s.freeCount s.store)[st.row]?.getD erasedRow =
      interruptedRow s.freeCount (nvRow s.store st.row).entries st.entries := by
    rw [nvAfterColdReset_written hprog hst]
    simp [hrow]
  have hbit := interruptedRow_getLsbD s.freeCount (nvRow s.store st.row).entries st.entries he b
  rw [← hwritten] at hbit
  exact hbit

end Sys2Proof.Proofs
end

section
/-! SUPPORT. An accepted DEMAND (O31): the INTAKE UNIT, the steering reserve, and the reply. -/

namespace Sys2Proof.Proofs

open Sys2Proof.Machine Sys2Proof.Safety Sys2Proof.Claims

/-- The reserve is R77's table over entries 2 to 5 of row 18. -/
theorem reserveOf_row18 (im : Image) (l2 : Freshness) (pressure : Nat) : reserveOf im l2 pressure =
    if l2 = .stale then (rowEntry (imageRow im 18) 4).toNat
    else if pressure < (rowEntry (imageRow im 18) 2).toNat then (rowEntry (imageRow im 18) 4).toNat
    else if pressure < (rowEntry (imageRow im 18) 3).toNat then (rowEntry (imageRow im 18) 5).toNat
    else 0 := rfl

/-- The steering unit after an accepted DEMAND: its reserve is formed from the new pressure with L2 FRESH (R77, R78). -/
theorem acceptDemand_traction (d : DemandRecord) (s : State) : (acceptDemand d s).traction = { s.traction with
    reserve := reserveOf (acceptDemand d s).store.image .fresh d.pressure } := by
  have hreserve := acceptDemand_formed d s
  rw [reserveFormed, acceptDemand_intake] at hreserve
  have hrest : (acceptDemand d s).traction.tf = s.traction.tf ∧
      (acceptDemand d s).traction.pressureCount = s.traction.pressureCount := by simp
  generalize (acceptDemand d s).traction = u at *
  cases u
  simp_all [demandInForce, inForceOfDemand]

theorem setReceive_l2 (r : Receive) (s : State) : (setReceive .l2 r s).portL2 = ⟨r, s.portL2.counters⟩ := rfl

/-- The CHASSIS STATUS RECORD does not read the ports (R149). -/
theorem statusBytes_setReceive (p : PortId) (r : Receive) (s : State) : statusBytes (setReceive p r s) = statusBytes s := by
  cases p <;> rfl

/-- A DEMAND of 14 bytes on a port that listens. -/
theorem exec_demand {s : State} {a : Byte} {payload : List Byte} (h : listens s .l2 a) (hlength : payload.length = 14) :
    exec (.demand payload) s = .next (setReceive .l2
      (.replyPending a 0x20 (some ⟨.ok, statusBytes (acceptDemand (demandOf payload) (heard .l2 s))⟩))
      (acceptDemand (demandOf payload) (heard .l2 s))) := by
  obtain ⟨hlow, haddressed⟩ := h
  refine congrArg Host.Outcome.next ?_
  rw [serveRequest_addressed hlow haddressed (by omega), takeSound_eq (t := acceptDemand (demandOf payload) (heard .l2 s))]
  simp [handleDemand, hlength, readDemand_eq]

/-- Settles O31: the INTAKE UNIT by `acceptDemand_intake`, the reserve by `acceptDemand_traction`, the rest by its frame. -/
theorem demandIsTaken : Obligations.DemandIsTaken := by
  refine ⟨reserveOf_row18, fun s a payload hlistens hlength => ?_⟩
  have hexec := exec_demand hlistens hlength
  have hintake := acceptDemand_intake (demandOf payload) (heard .l2 s)
  have hpresent := acceptDemand_present (demandOf payload) (heard .l2 s)
  have htraction := acceptDemand_traction (demandOf payload) (heard .l2 s)
  obtain ⟨hlow, hstamp, hl1, hl2, hl3, hheld, hthermal, htrips, hvalidation, hrestart, hfree, hpending, -⟩ :=
    acceptDemand_frame (demandOf payload) (heard .l2 s)
  generalize acceptDemand (demandOf payload) (heard .l2 s) = u at *
  simp only [heard_l2] at *
  refine ⟨_, hexec, hintake, hpresent, htraction, ?_, ?_⟩
  · rw [statusBytes_setReceive, setReceive_l2, hl2]
    rfl
  · cases u
    simp_all [setReceive, State.withPort, State.withPortL2]

end Sys2Proof.Proofs
end

section
/-! SUPPORT. What a raise does, in the words of the statements (R138, R139), and the three link events (O14). -/

namespace Sys2Proof.Proofs

open Sys2Proof.Machine Sys2Proof.Safety Sys2Proof.Claims

/-! ### A raise (R60, R61, R135, R137, R138, R139, R141, R143) -/

/-- Withdrawn torques, in the words of R61. -/
theorem withoutPositive_eq (t : Both Int) : withoutPositive t = noPositive t := by
  have hwheel (x : Int) : min x 0 = if 0 < x then 0 else x := by split <;> omega
  exact congrArg₂ Both.mk (hwheel t.left) (hwheel t.right)

/-- A merged record is counted where it is the ACTIVE record of the code (R139). -/
theorem mergeRecord_eq (c : TripCode) (stamp : BitVec 32) (r : FaultRecord) :
    mergeRecord c stamp r = if r.code = c ∧ r.cleared = false then counted stamp r else r := rfl

/-- The level and the marks after a latch (R135). -/
theorem levelSound_latchedTrips (c : TripCode) (r : FaultRecord) (t : Trips) : levelSound (latchedTrips c r t) :=
  ⟨levelOf_eq_d _, levelOf_eq_none _⟩

/-- The engine after a latch: class D zeroes both torques, a rise from NONE to P withdraws the positive ones (R60, R61). -/
theorem tellEngineOfLatch_engine (c : TripCode) (before : TripLevel) (s : State) :
    (tellEngineOfLatch c before s).engine = onlyTorque s.engine
      (if c.classD then ⟨0, 0⟩ else if before = .none then noPositive s.engine.grant.torque else s.engine.grant.torque) := by
  unfold tellEngineOfLatch
  split_ifs
  · rfl
  · rw [withdrawPositive_engine, withoutPositive_eq]
    rfl
  · rfl

theorem raiseTrip_latchedAnew {c : TripCode} (detail : Option Int) {s : State} (h : s.trips.latched.get c = false) :
    latchedAnew c detail s (raiseTrip c detail s) := by
  rw [raiseTrip_unlatched h]
  refine ⟨rfl, levelSound_latchedTrips _ _ _, lineAsserted_iff _ _, ⟨makeRoom s.trips.faults, rfl, fun hshort => ?_,
    fun hfull before r after hlist hbefore hr => ?_⟩, tellEngineOfLatch_engine _ _ _⟩
  · have hroom := makeRoom_short hshort
    exact ⟨hroom, by simp [latchedTrips, overflowAfter, hroom]⟩
  · have hroom := makeRoom_full hfull hlist hbefore hr
    have hless : (makeRoom s.trips.faults).length < s.trips.faults.length := by
      rw [hroom, hlist]
      simp
    exact ⟨hroom, if_pos hless⟩

theorem raiseTrip_mergedInto {c : TripCode} (detail : Option Int) {s : State} (h : s.trips.latched.get c = true) :
    mergedInto c s (raiseTrip c detail s) := by
  rw [raiseTrip_latched h]
  refine ⟨rfl, rfl, _, rfl, List.length_map _, fun i r hr => ⟨fun hactive => ?_, fun hother => ?_⟩⟩
  · rw [List.getElem?_map, hr, Option.map_some, mergeRecord_eq, if_pos hactive]
  · rw [List.getElem?_map, hr, Option.map_some, mergeRecord_eq, if_neg hother]

theorem raiseTrip_raised (c : TripCode) (detail : Option Int) (s : State) : raised c detail s (raiseTrip c detail s) :=
  ⟨raiseTrip_latchedAnew detail, raiseTrip_mergedInto detail⟩

/-- A raise changes the trips, the engine and the line alone. -/
theorem raiseTrip_eq (c : TripCode) (detail : Option Int) (s : State) : raiseTrip c detail s = { s with
    trips := (raiseTrip c detail s).trips, engine := (raiseTrip c detail s).engine
    tripOut := (raiseTrip c detail s).tripOut } := by
  cases h : s.trips.latched.get c
  · rw [raiseTrip_unlatched h]
  · rw [raiseTrip_latched h]
    rfl

/-! ### The link events (R34, R36, R39) -/

theorem l1LinkStale_effect {s : State} (hlow : s.resetLow = false) (hfresh : s.intake.l1 = .fresh)
    (hcount : s.intake.l1Count ≤ 1) :
    ∃ t, exec .l1LinkStale s = .next t ∧ raised .propLinkLost none s t ∧ t = { s with
      intake := { s.intake with l1 := .stale, l1Count := 0, standstill := 0 }
      present := { s.present with propLinkLost := true }
      trips := t.trips, engine := t.engine, tripOut := t.tripOut } := by
  have hexec : exec .l1LinkStale s = .next (countStandstill (staleL1 s)) := by
    refine congrArg Host.Outcome.next ?_
    rw [whileReleased_high hlow]
    simp [whenDue, l1Due, countL1, hfresh, hcount]
  refine ⟨_, hexec, raiseTrip_raised .propLinkLost none
    (markPresent .propLinkLost true (s.withIntake { s.intake with l1 := .stale, l1Count := 0 })), ?_⟩
  unfold staleL1
  rw [raiseTrip_eq]
  rfl

theorem l2LinkStale_effect {s : State} (hlow : s.resetLow = false) (hfresh : s.intake.l2 = .fresh)
    (hcount : s.intake.l2Count ≤ 1) : exec .l2LinkStale s = .next (staleL2 s) := by
  refine congrArg Host.Outcome.next ?_
  rw [whileReleased_high hlow]
  simp [whenDue, l2Due, countL2, hfresh, hcount]

/-- The grace count that reaches L2_GRACE with CHASSIS_LINK_LOST absent raises it (R39). -/
theorem stepGrace_rises {s : State} (hreach : l2Grace s.store.image ≤ s.intake.grace + 1)
    (habsent : s.present.chassisLinkLost = false) : stepGrace s =
      raiseTrip .chassisLinkLost none
        (markPresent .chassisLinkLost true (s.withIntake { s.intake with grace := l2Grace s.store.image })) := by
  have hgrace : min (s.intake.grace + 1) (l2Grace s.store.image) = l2Grace s.store.image := by omega
  unfold stepGrace
  rw [hgrace]
  simp only [le_refl, decide_true, Bool.true_or]
  exact judgeCondition_rises habsent

theorem chassisLinkLost_effect {s : State} (hlow : s.resetLow = false) (hstale : s.intake.l2 = .stale)
    (hreach : l2Grace s.store.image ≤ s.intake.grace + 1) (habsent : s.present.chassisLinkLost = false) :
    ∃ t, exec .chassisLinkLost s = .next t ∧ raised .chassisLinkLost none s t ∧ t = { s with
      intake := { s.intake with grace := l2Grace s.store.image }
      present := { s.present with chassisLinkLost := true }
      trips := t.trips, engine := t.engine, tripOut := t.tripOut } := by
  have hexec : exec .chassisLinkLost s = .next (stepGrace s) := by
    refine congrArg Host.Outcome.next ?_
    rw [whileReleased_high hlow]
    simp [whenDue, graceDue, hstale, hreach, habsent]
  rw [stepGrace_rises hreach habsent] at hexec
  refine ⟨_, hexec, raiseTrip_raised .chassisLinkLost none
    (markPresent .chassisLinkLost true (s.withIntake { s.intake with grace := l2Grace s.store.image })), ?_⟩
  rw [raiseTrip_eq]
  rfl

/-- Settles O14: the two raises by `raiseTrip_raised`, L2 going STALE by its equation. -/
theorem linkEventsTakeTheirEffect : Obligations.LinkEventsTakeTheirEffect :=
  ⟨fun _ hlow hfresh hcount => l1LinkStale_effect hlow hfresh hcount,
    fun _ hlow hfresh hcount => l2LinkStale_effect hlow hfresh hcount,
    fun _ hlow hstale hreach habsent => chassisLinkLost_effect hlow hstale hreach habsent⟩

end Sys2Proof.Proofs
end

section
/-! SUPPORT. The links at an interval expiry (O8, O9). -/

namespace Sys2Proof.Proofs

open Sys2Proof.Machine Sys2Proof.Safety Sys2Proof.Claims

/-! ### What an expiry leaves of the counted links -/

/-- The state in which an expiry has stepped the stamp and counted L1. -/
def afterL1 (s : State) : State := countL1 (s.withStamp (s.stamp + 1))

theorem exec_expiry {s : State} (h : s.resetLow = false) : exec .baseIntervalExpiry s = .next (expireInterval s) :=
  congrArg Host.Outcome.next (whileReleased_high h)

theorem expireInterval_eq (s : State) : expireInterval s = storeAtExpiry (plannerAtExpiry (steeringAtExpiry
    (thermalAtExpiry (settlePayload (countStandstill (countL2 (afterL1 s))))))) := rfl

/-- The INTAKE UNIT after an expiry: the links counted, then the standstill counter, then the payload (R29, R30, R32). -/
theorem expireInterval_intake (s : State) :
    (expireInterval s).intake = (settlePayload (countStandstill (countL2 (afterL1 s)))).intake := by
  simp [expireInterval_eq]

/-- The marks of the two link conditions after an expiry are those that counting the links leaves. -/
theorem expireInterval_get {e : TripCode} (hgrid : e ≠ .gridOvertemp) (hsteer : e ≠ .steerPressureLow)
    (hshort : e ≠ .retardShortfall) (s : State) :
    (expireInterval s).present.get e = (countL2 (afterL1 s)).present.get e := by
  simp [expireInterval_eq, storeAtExpiry, plannerAtExpiry_get hshort, steeringAtExpiry_get hsteer, thermalAtExpiry_get hgrid]

theorem afterL1_intake (s : State) : (afterL1 s).intake =
    if s.intake.l1 = .fresh then
      if s.intake.l1Count ≤ 1 then { s.intake with l1 := .stale, l1Count := 0 }
      else { s.intake with l1Count := s.intake.l1Count - 1 }
    else s.intake := countL1_intake _

theorem afterL1_get (s : State) (e : TripCode) : (afterL1 s).present.get e =
    if e = .propLinkLost ∧ s.intake.l1 = .fresh ∧ s.intake.l1Count ≤ 1 then true else s.present.get e := countL1_get _ _

/-- What no raise undoes stands after an expiry where it stands once L1 has been counted. -/
theorem KeptByRaises.expiry {P : State → Prop} (h : KeptByRaises P) {s : State} (hs : P (afterL1 s)) :
    P (expireInterval s) :=
  h.afterLinks _ (h.countL2 _ hs)

/-! ### L1 (R29, R30, R32, R34) -/

/-- L1's freshness and its count after an expiry (R32). -/
theorem expireInterval_l1 (s : State) : (expireInterval s).intake.l1 = (afterL1 s).intake.l1 ∧
    (expireInterval s).intake.l1Count = (afterL1 s).intake.l1Count := by
  simp [expireInterval_intake]

theorem expireInterval_standstill (s : State) : (expireInterval s).intake.standstill =
    if (expireInterval s).intake.l1 ≠ .fresh then 0
    else if atStandstill s.intake then min (s.intake.standstill + 1) 65535 else s.intake.standstill := by
  obtain ⟨hl1, -⟩ := expireInterval_l1 s
  have hcounted : (expireInterval s).intake.standstill = standstillAfter (countL2 (afterL1 s)).intake := by
    simp [expireInterval_intake, countStandstill]
  have hrecord : atStandstill (countL2 (afterL1 s)).intake = atStandstill s.intake := by
    simp [atStandstill, afterL1]
  have hcount : (countL2 (afterL1 s)).intake.standstill = s.intake.standstill := by simp [afterL1]
  have hfresh : (countL2 (afterL1 s)).intake.l1 = (expireInterval s).intake.l1 := by simp [hl1]
  rw [hcounted, standstillAfter, hrecord, hcount, hfresh]
  unfold saturate
  split_ifs <;> simp_all

theorem expireInterval_payload (s : State) : (expireInterval s).intake.payload =
    if payloadSettle s.store.image ≤ (expireInterval s).intake.standstill then s.intake.demand.payload
    else s.intake.payload := by
  rw [expireInterval_intake, settlePayload_payload]
  simp [afterL1]

/-- L1 going STALE takes effect at class D where PROP_LINK_LOST was not latched (R34, R60). -/
theorem expireInterval_linkLost {s : State} (hfresh : s.intake.l1 = .fresh) (hcount : s.intake.l1Count ≤ 1) :
    isLatched .propLinkLost (expireInterval s) ∧
    (s.trips.latched.propLinkLost = false → tripsDown .propLinkLost (expireInterval s)) := by
  have hstale : afterL1 s = staleL1 (s.withStamp (s.stamp + 1)) := by simp [afterL1, countL1, hfresh, hcount]
  refine ⟨(isLatched_kept _).expiry ?_, fun hnew => (tripsDown_kept (by decide)).expiry ?_⟩
  · rw [hstale]
    simp [isLatched, staleL1, raiseTrip_get]
  · rw [hstale]
    exact tripsDown_raise (by decide) _ hnew

/-- Settles O8: the counts by the frames, the latch by `expireInterval_linkLost`. -/
theorem expiryOnTheInverterLink : Obligations.ExpiryOnTheInverterLink := by
  intro s hlow
  obtain ⟨hl1, hcount⟩ := expireInterval_l1 s
  rw [afterL1_intake] at hl1 hcount
  refine ⟨_, exec_expiry hlow, fun hfresh => ?_, fun hfresh htwo => ?_, fun hfresh hone => ?_,
    expireInterval_standstill s, expireInterval_payload s⟩
  · rw [if_neg hfresh] at hl1 hcount
    exact ⟨hl1, hcount⟩
  · rw [if_pos hfresh, if_neg (by omega)] at hl1 hcount
    exact ⟨hl1.trans hfresh, hcount⟩
  · rw [if_pos hfresh, if_pos hone] at hl1 hcount
    obtain ⟨hlatched, hdown⟩ := expireInterval_linkLost hfresh hone
    have hmark : (expireInterval s).present.get .propLinkLost = true := by
      rw [expireInterval_get (by decide) (by decide) (by decide), countL2_get, if_neg (by simp), afterL1_get,
        if_pos ⟨rfl, hfresh, hone⟩]
    exact ⟨hl1, hcount, hmark, hlatched, fun hnew => (hdown hnew).2⟩

/-! ### L2 (R32, R36, R37, R39, R78) -/

/-- The steering reserve where L2 is counted: it is formed where L2 goes STALE, and stands elsewhere (R78). -/
theorem countL2_reserve (s : State) : (countL2 s).traction.reserve =
    if s.intake.l2 = .fresh ∧ s.intake.l2Count ≤ 1 then steerResHi s.store.image else s.traction.reserve := by
  unfold countL2
  split
  next h => simp [h]
  next h =>
    split
    next hone =>
      rw [if_pos ⟨h, hone⟩]
      rfl
    next hone => simp [hone]
  next h => simp [h, lowerSetpoint]

theorem expireInterval_reserve (s : State) : (expireInterval s).traction.reserve =
    if s.intake.l2 = .fresh ∧ s.intake.l2Count ≤ 1 then steerResHi s.store.image else s.traction.reserve := by
  have hlater : (expireInterval s).traction.reserve = (countL2 (afterL1 s)).traction.reserve := by
    simp [expireInterval_eq]
  rw [hlater, countL2_reserve]
  simp [afterL1]

/-- L2, its FALLBACK DEMAND and its grace count after an expiry are those that counting L2 leaves. -/
theorem expireInterval_l2 (s : State) :
    (expireInterval s).intake.l2 = (countL2 (afterL1 s)).intake.l2 ∧
    (expireInterval s).intake.l2Count = (countL2 (afterL1 s)).intake.l2Count ∧
    (expireInterval s).intake.fallback = (countL2 (afterL1 s)).intake.fallback ∧
    (expireInterval s).intake.grace = (countL2 (afterL1 s)).intake.grace := by
  simp [expireInterval_intake]

/-- Where L2 goes STALE the FALLBACK DEMAND is formed, whatever became of L1 (R36, R37). -/
theorem afterL1_formFallback (s : State) : formFallback (afterL1 s) =
    { lever := s.intake.demand.lever, direction := s.intake.direction, steer := s.intake.demand.steer
      pressure := s.intake.demand.pressure, park := s.intake.demand.park, service := s.intake.demand.service
      setpoint := max 500 (min (refSpeedOr0 s.intake) s.engine.speedLimit) } := by
  simp [formFallback, firstSetpoint, afterL1, refSpeedOr0]

/-- CHASSIS_LINK_LOST after an expiry (R39). -/
theorem expireInterval_chassisLost (s : State) : (expireInterval s).present.chassisLinkLost =
    if s.intake.l2 = .stale ∧ l2Grace s.store.image ≤ s.intake.grace + 1 then true else s.present.chassisLinkLost := by
  have hmark : (expireInterval s).present.get .chassisLinkLost =
      if s.intake.l2 = .stale ∧ l2Grace s.store.image ≤ s.intake.grace + 1 then true
      else s.present.get .chassisLinkLost := by
    rw [expireInterval_get (by decide) (by decide) (by decide), countL2_get, afterL1_get]
    simp [afterL1]
  exact hmark

/-- The expiry that makes CHASSIS_LINK_LOST present latches it (R39, R138). -/
theorem expireInterval_graceEnds {s : State} (hstale : s.intake.l2 = .stale)
    (hreach : l2Grace s.store.image ≤ s.intake.grace + 1) (habsent : s.present.chassisLinkLost = false) :
    isLatched .chassisLinkLost (expireInterval s) := by
  have habsent' : (lowerSetpoint (afterL1 s)).present.chassisLinkLost = false := by
    have hmark := afterL1_get s .chassisLinkLost
    simp only [TripMarks.get] at hmark
    simp [lowerSetpoint, hmark, habsent]
  have hcounted : countL2 (afterL1 s) = stepGrace (lowerSetpoint (afterL1 s)) := by
    unfold countL2
    simp [afterL1, hstale]
  have hlatched : isLatched .chassisLinkLost (countL2 (afterL1 s)) := by
    rw [hcounted, stepGrace_rises (by simpa [lowerSetpoint, afterL1] using hreach) habsent']
    simp [isLatched, raiseTrip_get]
  exact (isLatched_kept _).afterLinks _ hlatched

/-- Settles O9: the INTAKE UNIT by `countL2_intake`, the reserve and the mark by their lemmas. -/
theorem expiryOnTheChassisLink : Obligations.ExpiryOnTheChassisLink := by
  intro s hlow
  obtain ⟨hl2, hcount, hfallback, hgrace⟩ := expireInterval_l2 s
  have hreserve := expireInterval_reserve s
  have hmark := expireInterval_chassisLost s
  have hsame : (afterL1 s).intake.l2 = s.intake.l2 ∧ (afterL1 s).intake.l2Count = s.intake.l2Count ∧
      (afterL1 s).intake.fallback = s.intake.fallback ∧ (afterL1 s).intake.grace = s.intake.grace ∧
      (afterL1 s).store = s.store := by simp [afterL1]
  obtain ⟨hl2', hcount', hfallback', hgrace', hstore'⟩ := hsame
  rw [countL2_intake, hl2', hcount', hstore', afterL1_formFallback] at hl2 hcount hfallback hgrace
  refine ⟨_, exec_expiry hlow, fun hnever => ?_, fun hother => ?_, fun hfresh htwo => ?_, fun hfresh hone => ?_,
    fun hstale => ?_⟩
  · simp only [hnever, reduceCtorEq, if_false, false_and] at hl2 hcount hfallback hgrace hreserve
    exact ⟨hl2.trans (hl2'.trans hnever), hcount.trans hcount', hfallback.trans hfallback', hgrace.trans hgrace', hreserve⟩
  · rw [hmark, if_neg fun h => hother h.1]
  · have htwo' : ¬s.intake.l2Count ≤ 1 := by omega
    simp only [hfresh, htwo', if_true, if_false, and_false] at hl2 hcount hfallback hgrace hreserve
    exact ⟨hl2.trans (hl2'.trans hfresh), hcount, hfallback.trans hfallback', hgrace.trans hgrace', hreserve⟩
  · simp only [hfresh, hone, if_true, and_self] at hl2 hcount hfallback hgrace hreserve
    exact ⟨hl2, hcount, hgrace, hfallback, hreserve⟩
  · simp only [hstale, reduceCtorEq, if_true, if_false, false_and, hfallback', hgrace'] at hl2 hcount hfallback hgrace hreserve
    refine ⟨hl2.trans (hl2'.trans hstale), hcount.trans hcount', hreserve, fun hnone => ?_, fun f hf => ?_, hgrace,
      fun hless => ?_, fun hreach => ?_, fun hreach habsent => expireInterval_graceEnds hstale hreach habsent⟩
    · rw [hfallback, hnone]
      rfl
    · rw [hfallback, hf]
      rfl
    · rw [hmark, if_neg fun h => absurd h.2 (by omega)]
    · rw [hmark, if_pos ⟨hstale, hreach⟩]

end Sys2Proof.Proofs
end

section
/-! SUPPORT. Events that raise several codes (R138, R139, R141, R143): the FAULT LIST, torques, level and line since the event began
(O36). -/

namespace Sys2Proof.Proofs

open Sys2Proof.Machine Sys2Proof.Safety Sys2Proof.Claims

/-! ### A list without its oldest CLEARED records (R143) -/

/-- How many records of a list are CLEARED. -/
def clearedCount (l : List FaultRecord) : Nat := (l.filter fun r => r.cleared).length

theorem clearedCount_le (l : List FaultRecord) : clearedCount l ≤ l.length := List.length_filter_le _ _

theorem withoutOldest_nil (n : Nat) : withoutOldest n [] = [] := by cases n <;> rfl

/-- One more record gone is the oldest CLEARED one of those left. -/
theorem withoutOldest_succ (n : Nat) (l : List FaultRecord) :
    withoutOldest (n + 1) l = (withoutOldest n l).eraseP (·.cleared) := by
  induction l generalizing n with
  | nil => simp [withoutOldest_nil]
  | cons r rest ih =>
    cases n with
    | zero =>
      have hrest := ih 0
      cases hr : r.cleared <;> simp_all [withoutOldest]
    | succ n =>
      have hfewer := ih n
      have hmore := ih (n + 1)
      cases hr : r.cleared <;> simp_all [withoutOldest]

theorem withoutOldest_length (n : Nat) (l : List FaultRecord) :
    (withoutOldest n l).length = l.length - min n (clearedCount l) := by
  induction l generalizing n with
  | nil => simp [withoutOldest_nil]
  | cons r rest ih =>
    have hle := clearedCount_le rest
    cases n with
    | zero => simp [withoutOldest]
    | succ n =>
      have hfewer := ih n
      have hmore := ih (n + 1)
      cases hr : r.cleared
      · simp_all [withoutOldest, clearedCount]
        omega
      · simp_all [withoutOldest, clearedCount]

/-- With no CLEARED record left, none more goes. -/
theorem withoutOldest_done {n : Nat} {l : List FaultRecord} (h : clearedCount l ≤ n) :
    withoutOldest (n + 1) l = withoutOldest n l := by
  have hlength : (withoutOldest (n + 1) l).length = (withoutOldest n l).length := by
    rw [withoutOldest_length, withoutOldest_length]
    omega
  rw [withoutOldest_succ] at hlength ⊢
  exact List.eraseP_sublist.eq_of_length hlength

/-! ### The records of an event (R138, R139, R141, R143) -/

/-- A record found at the start of an event that has raised the codes `R`: the ACTIVE record of a latched code raised is counted
(R139). -/
def touched (s : State) (R : List TripCode) (r : FaultRecord) : FaultRecord :=
  if s.trips.latched.get r.code = true ∧ r.cleared = false ∧ r.code ∈ R then counted s.stamp r else r

theorem touched_code (s : State) (R : List TripCode) (r : FaultRecord) : (touched s R r).code = r.code := by
  unfold touched
  split <;> rfl

theorem touched_cleared (s : State) (R : List TripCode) (r : FaultRecord) : (touched s R r).cleared = r.cleared := by
  unfold touched
  split <;> rfl

theorem touched_nil (s : State) (r : FaultRecord) : touched s [] r = r := by simp [touched]

/-- The raise of a code that was not latched touches no record found. -/
theorem touched_unlatched {s : State} {c : TripCode} (h : s.trips.latched.get c = false) (R : List TripCode)
    (r : FaultRecord) : touched s (R ++ [c]) r = touched s R r := by
  unfold touched
  by_cases hr : r.code = c
  · simp [hr, h]
  · simp [hr]

/-- The raise of a latched code counts its ACTIVE record, which no raise before it has counted. -/
theorem touched_latched {s : State} {c : TripCode} {R : List TripCode} (h : s.trips.latched.get c = true) (hc : c ∉ R)
    (r : FaultRecord) : touched s (R ++ [c]) r = mergeRecord c s.stamp (touched s R r) := by
  rw [mergeRecord_eq, touched_code, touched_cleared]
  unfold touched
  by_cases hr : r.code = c
  · subst hr
    simp [h, hc]
  · simp [hr]

/-- A record latched in an event, with the figures of the latch (R141). -/
def freshRecord (s : State) (refSpeed : Nat) (detail : TripCode → Option Int) (r : FaultRecord) : Prop :=
  r.cleared = false ∧ r.first = s.stamp ∧ r.last = s.stamp ∧ r.occurrences = 1 ∧ r.refSpeed = refSpeed ∧
  r.detail = detail r.code

/-- The FAULT LIST and the overflow count in `u`, where an event that began in `s` has raised the codes `R` in this order: room
has been made, the records found are touched, and the new ones stand at the tail. -/
def recordedSince (s u : State) (R : List TripCode) (refSpeed : Nat) (detail : TripCode → Option Int) : Prop :=
  ∃ new : List FaultRecord,
    u.trips.faults =
      (withoutOldest (droppedFor new s.trips.faults) s.trips.faults).map (touched s R) ++ new ∧
    (new.map fun r => r.code) = R.filter (fun c => !s.trips.latched.get c) ∧
    (∀ r ∈ new, freshRecord s refSpeed detail r) ∧
    u.trips.overflow =
      if droppedFor new s.trips.faults = 0 then s.trips.overflow
      else min (s.trips.overflow + droppedFor new s.trips.faults) 255

theorem droppedFor_eq (new records : List FaultRecord) :
    droppedFor new records = min (clearedCount records) (new.length - (16 - records.length)) := rfl

/-- An erasure does not reach the ACTIVE records at the tail. -/
theorem eraseP_append_active {found new : List FaultRecord} (h : ∀ r ∈ new, r.cleared = false) :
    (found ++ new).eraseP (·.cleared) = found.eraseP (·.cleared) ++ new := by
  have hnew : new.eraseP (·.cleared) = new := List.eraseP_of_forall_not fun r hr => by simp [h r hr]
  rw [List.eraseP_append, hnew]
  split
  · rfl
  next hnone =>
    have hfound : found.eraseP (·.cleared) = found := List.eraseP_of_forall_not fun r hr => by
      simp only [List.any_eq_true, not_exists, not_and] at hnone
      exact hnone r hr
    rw [hfound]

/-- Room made in the list of an event takes the oldest CLEARED record found, where the list is full and one is left. -/
theorem makeRoom_recorded {s : State} {R : List TripCode} {new : List FaultRecord} (hnew : ∀ r ∈ new, r.cleared = false)
    (r : FaultRecord) :
    makeRoom ((withoutOldest (droppedFor new s.trips.faults) s.trips.faults).map (touched s R) ++ new) =
      (withoutOldest (droppedFor (new ++ [r]) s.trips.faults) s.trips.faults).map (touched s R) ++ new := by
  have hle := clearedCount_le s.trips.faults
  have hlength := withoutOldest_length (droppedFor new s.trips.faults) s.trips.faults
  have hnow := droppedFor_eq new s.trips.faults
  have hnext := droppedFor_eq (new ++ [r]) s.trips.faults
  rw [List.length_append, List.length_singleton] at hnext
  unfold makeRoom
  split
  next hshort =>
    rw [List.length_append, List.length_map] at hshort
    have hsame : droppedFor (new ++ [r]) s.trips.faults = droppedFor new s.trips.faults := by omega
    rw [hsame]
  next hfull =>
    rw [List.length_append, List.length_map] at hfull
    have herase : ((withoutOldest (droppedFor new s.trips.faults) s.trips.faults).map (touched s R) ++ new).eraseP
        (·.cleared) = (withoutOldest (droppedFor new s.trips.faults + 1) s.trips.faults).map (touched s R) ++ new := by
      rw [eraseP_append_active hnew, List.eraseP_map, withoutOldest_succ]
      have hcleared : (fun r : FaultRecord => r.cleared) ∘ touched s R = fun r => r.cleared :=
        funext fun r => touched_cleared s R r
      rw [hcleared]
    rw [herase]
    by_cases hleft : clearedCount s.trips.faults ≤ droppedFor new s.trips.faults
    · have hsame : droppedFor (new ++ [r]) s.trips.faults = droppedFor new s.trips.faults := by omega
      rw [hsame, withoutOldest_done hleft]
    · have hone : droppedFor (new ++ [r]) s.trips.faults = droppedFor new s.trips.faults + 1 := by omega
      rw [hone]

/-- The overflow count steps with a record that had to go (R143). -/
theorem overflowAfter_recorded {s : State} {R : List TripCode} {new : List FaultRecord} (hnew : ∀ r ∈ new, r.cleared = false)
    (r : FaultRecord) :
    overflowAfter ((withoutOldest (droppedFor new s.trips.faults) s.trips.faults).map (touched s R) ++ new)
        (if droppedFor new s.trips.faults = 0 then s.trips.overflow
          else min (s.trips.overflow + droppedFor new s.trips.faults) 255) =
      if droppedFor (new ++ [r]) s.trips.faults = 0 then s.trips.overflow
      else min (s.trips.overflow + droppedFor (new ++ [r]) s.trips.faults) 255 := by
  have hle := clearedCount_le s.trips.faults
  have hlength := withoutOldest_length (droppedFor new s.trips.faults) s.trips.faults
  have hlength' := withoutOldest_length (droppedFor (new ++ [r]) s.trips.faults) s.trips.faults
  have hnow := droppedFor_eq new s.trips.faults
  have hnext := droppedFor_eq (new ++ [r]) s.trips.faults
  rw [List.length_append, List.length_singleton] at hnext
  unfold overflowAfter saturate
  rw [makeRoom_recorded hnew r]
  simp only [List.length_append, List.length_map]
  split_ifs <;> omega

/-! ### One more raise -/

/-- A raise of a latched code counts its ACTIVE record among those found (R139). -/
theorem recordedSince_merge {s u : State} {R : List TripCode} {refSpeed : Nat} {detail : TripCode → Option Int} {c : TripCode}
    {d : Option Int} (h : recordedSince s u R refSpeed detail) (hstamp : u.stamp = s.stamp) (hc : c ∉ R)
    (hlatched : u.trips.latched.get c = true) (hbefore : s.trips.latched.get c = true) :
    recordedSince s (raiseTrip c d u) (R ++ [c]) refSpeed detail := by
  obtain ⟨new, hfaults, hcodes, hfresh, hoverflow⟩ := h
  have hother : new.map (mergeRecord c u.stamp) = new := by
    refine List.map_congr_left (fun r hr => ?_) |>.trans (List.map_id' new)
    have hne : r.code ≠ c := by
      rintro rfl
      have hmem : r.code ∈ new.map fun r => r.code := List.mem_map_of_mem hr
      rw [hcodes] at hmem
      exact hc (List.mem_of_mem_filter hmem)
    rw [mergeRecord_eq, if_neg fun hcode => hne hcode.1]
  rw [raiseTrip_latched hlatched]
  refine ⟨new, ?_, ?_, hfresh, hoverflow⟩
  · rw [State.withTrips_trips, hfaults, List.map_append, hother, List.map_map, hstamp]
    refine congrArg (· ++ new) (List.map_congr_left fun r _ => (touched_latched hbefore hc r).symm)
  · simp [hcodes, hbefore]

/-- A raise of a code not latched makes room, and appends its record (R138, R141, R143). -/
theorem recordedSince_latch {s u : State} {R : List TripCode} {refSpeed : Nat} {detail : TripCode → Option Int} {c : TripCode}
    {d : Option Int} (h : recordedSince s u R refSpeed detail) (hstamp : u.stamp = s.stamp)
    (hspeed : refSpeedOr0 u.intake = refSpeed) (hd : d = detail c) (hlatched : u.trips.latched.get c = false)
    (hbefore : s.trips.latched.get c = false) : recordedSince s (raiseTrip c d u) (R ++ [c]) refSpeed detail := by
  obtain ⟨new, hfaults, hcodes, hfresh, hoverflow⟩ := h
  have hactive : ∀ r ∈ new, r.cleared = false := fun r hr => (hfresh r hr).1
  have hrecord : freshRecord s refSpeed detail (newRecord c d u) := ⟨rfl, hstamp, hstamp, rfl, hspeed, hd⟩
  rw [raiseTrip_unlatched hlatched]
  refine ⟨new ++ [newRecord c d u], ?_, ?_, ?_, ?_⟩
  · have hsame : touched s (R ++ [c]) = touched s R := funext (touched_unlatched hbefore R)
    simp only [latchedTrips, hfaults, makeRoom_recorded hactive (newRecord c d u), hsame, List.append_assoc]
  · simp [hcodes, hbefore, newRecord]
  · intro r hr
    rcases List.mem_append.mp hr with hr | hr
    · exact hfresh r hr
    · rw [List.mem_singleton.mp hr]
      exact hrecord
  · simp only [latchedTrips, hfaults, hoverflow]
    exact overflowAfter_recorded hactive _

/-! ### Torques, level and line (R60, R61, R135, R137) -/

theorem noPositive_noPositive (t : Both Int) : noPositive (noPositive t) = noPositive t := by
  have hwheel (x : Int) : (if 0 < (if 0 < x then 0 else x) then (0 : Int) else if 0 < x then 0 else x) =
      if 0 < x then 0 else x := by split_ifs <;> omega
  exact congrArg₂ Both.mk (hwheel t.left) (hwheel t.right)

/-- A raise of a latched code changes neither torques nor level nor line. -/
theorem effectOfLatches_merge {overload : Prop} {s u : State} {c : TripCode} {d : Option Int}
    (h : effectOfLatches overload s u) (hlatched : u.trips.latched.get c = true) :
    effectOfLatches overload s (raiseTrip c d u) := by
  rw [raiseTrip_latched hlatched]
  exact h

/-- The engine's torques after the latch of code `c`. -/
theorem raiseTrip_torque {c : TripCode} (d : Option Int) {u : State} (h : u.trips.latched.get c = false) :
    (raiseTrip c d u).engine.grant.torque =
      if c.classD then ⟨0, 0⟩ else if u.trips.level = .none then noPositive u.engine.grant.torque
      else u.engine.grant.torque := by
  rw [raiseTrip_unlatched h, tellEngineOfLatch_engine]
  rfl

/-- The codes newly latched once a further code has been latched. -/
theorem newlyLatched_latch {s u : State} {c : TripCode} (d : Option Int) (hbefore : s.trips.latched.get c = false)
    (e : TripCode) : newlyLatched s (raiseTrip c d u) e ↔ newlyLatched s u e ∨ e = c := by
  unfold newlyLatched
  rw [raiseTrip_get]
  by_cases he : e = c
  · subst he
    simp [hbefore]
  · simp [he]

/-- A code latched anew takes its effect on torques, level and line beside those latched before it in the event. -/
theorem effectOfLatches_latch {s u : State} {c : TripCode} (d : Option Int) (h : effectOfLatches False s u)
    (hmode : u.mode = s.mode) (hlatched : u.trips.latched.get c = false) (hbefore : s.trips.latched.get c = false) :
    effectOfLatches False s (raiseTrip c d u) := by
  obtain ⟨hclassD, hclassP, hlevel, hquiet⟩ := h
  have htorque := raiseTrip_torque d hlatched
  have hnew := newlyLatched_latch (u := u) d hbefore
  refine ⟨?_, fun hP => ⟨?_, ?_⟩, fun _ => ?_, fun hnone => absurd ((hnew c).mpr (.inr rfl)) (hnone c)⟩
  · rintro ⟨e, he, hlatch⟩
    rw [htorque]
    rcases (hnew e).mp hlatch with hold | rfl
    · rw [hclassD ⟨e, he, hold⟩]
      split_ifs <;> rfl
    · rw [if_pos he]
  · rintro (hfalse | ⟨hnone, -⟩)
    · exact hfalse.elim
    have hc : c.classD = false := hP c ((hnew c).mpr (.inr rfl))
    obtain ⟨hdrawn, hkept⟩ := hclassP fun e he => hP e ((hnew e).mpr (.inl he))
    rw [htorque, hc]
    by_cases hany : ∃ e, newlyLatched s u e
    · rw [hdrawn (.inr ⟨hnone, hany⟩), noPositive_noPositive]
      simp
    · have hnot : ∀ e, ¬newlyLatched s u e := fun e he => hany ⟨e, he⟩
      rw [hkept not_false (.inr hnot), (hquiet hnot).1]
      simp [hnone]
  · rintro - (hsome | hnone)
    · have hc : c.classD = false := hP c ((hnew c).mpr (.inr rfl))
      have hup : u.trips.level ≠ .none := by
        by_cases hany : ∃ e, newlyLatched s u e
        · obtain ⟨⟨-, hunlatched⟩, -⟩ := hlevel hany
          obtain ⟨e, -, he⟩ := hany
          exact fun hlow => absurd (hunlatched.mp hlow e) (by simp [he])
        · rw [(hquiet fun e he => hany ⟨e, he⟩).1]
          exact hsome
      obtain ⟨-, hkept⟩ := hclassP fun e he => hP e ((hnew e).mpr (.inl he))
      rw [htorque, hc, if_neg (by simp), if_neg hup, hkept not_false (.inl hsome)]
    · exact absurd ((hnew c).mpr (.inr rfl)) (hnone c)
  · rw [raiseTrip_unlatched hlatched]
    exact ⟨levelSound_latchedTrips _ _ _, hmode ▸ lineAsserted_iff _ _⟩

/-- Before any raise nothing has taken effect. -/
theorem effectOfLatches_none {s u : State} (htrips : u.trips = s.trips)
    (htorque : u.engine.grant.torque = s.engine.grant.torque) (hline : u.tripOut = s.tripOut) :
    effectOfLatches False s u := by
  have hnone (c : TripCode) : ¬newlyLatched s u c := by
    rintro ⟨hbefore, hafter⟩
    rw [htrips, hbefore] at hafter
    cases hafter
  refine ⟨fun ⟨c, _, hc⟩ => absurd hc (hnone c), fun _ => ⟨?_, fun _ _ => htorque⟩, fun ⟨c, hc⟩ => absurd hc (hnone c),
    fun _ => ⟨congrArg Trips.level htrips, hline⟩⟩
  rintro (hfalse | ⟨-, c, hc⟩)
  · exact hfalse.elim
  · exact absurd hc (hnone c)

/-! ### An event that has raised some codes -/

/-- In `u` an event that began in `s` has raised the codes `R`, in this order, each at most once. -/
structure RaisedSince (s u : State) (R : List TripCode) (refSpeed : Nat) (detail : TripCode → Option Int) : Prop where
  mode : u.mode = s.mode
  stamp : u.stamp = s.stamp
  speed : refSpeedOr0 u.intake = refSpeed
  nodup : R.Nodup
  latched : ∀ c, u.trips.latched.get c = true ↔ s.trips.latched.get c = true ∨ c ∈ R
  effect : effectOfLatches False s u
  records : recordedSince s u R refSpeed detail
  quiet : R = [] → u.trips = s.trips

/-- Nothing has been raised. -/
theorem RaisedSince.start {s u : State} {refSpeed : Nat} (detail : TripCode → Option Int) (hmode : u.mode = s.mode)
    (hstamp : u.stamp = s.stamp) (hspeed : refSpeedOr0 u.intake = refSpeed) (htrips : u.trips = s.trips)
    (htorque : u.engine.grant.torque = s.engine.grant.torque) (hline : u.tripOut = s.tripOut) :
    RaisedSince s u [] refSpeed detail where
  mode := hmode
  stamp := hstamp
  speed := hspeed
  nodup := List.nodup_nil
  latched := by simp [htrips]
  effect := effectOfLatches_none htrips htorque hline
  records := by
    have hnone : droppedFor [] s.trips.faults = 0 := by simp [droppedFor_eq]
    refine ⟨[], ?_, rfl, by simp, ?_⟩
    · simp [hnone, withoutOldest, htrips, funext (touched_nil s)]
    · simp [hnone, htrips]
  quiet _ := htrips

/-- What the raises do not read may change. -/
theorem RaisedSince.carry {s u v : State} {R : List TripCode} {refSpeed : Nat} {detail : TripCode → Option Int}
    (h : RaisedSince s u R refSpeed detail) (hmode : v.mode = u.mode) (hstamp : v.stamp = u.stamp)
    (hspeed : v.intake.measurement = u.intake.measurement) (htrips : v.trips = u.trips)
    (htorque : v.engine.grant.torque = u.engine.grant.torque) (hline : v.tripOut = u.tripOut) :
    RaisedSince s v R refSpeed detail where
  mode := hmode.trans h.mode
  stamp := hstamp.trans h.stamp
  speed := by
    rw [← h.speed]
    simp [refSpeedOr0, hspeed]
  nodup := h.nodup
  latched := htrips ▸ h.latched
  effect := by
    have heffect := h.effect
    simp only [effectOfLatches, newlyLatched, htrips, htorque, hline] at heffect ⊢
    exact heffect
  records := by
    obtain ⟨new, hrecords⟩ := h.records
    exact ⟨new, htrips ▸ hrecords⟩
  quiet hR := htrips.trans (h.quiet hR)

/-- One more code is raised. -/
theorem RaisedSince.raise {s u : State} {R : List TripCode} {refSpeed : Nat} {detail : TripCode → Option Int} {c : TripCode}
    {d : Option Int} (h : RaisedSince s u R refSpeed detail) (hc : c ∉ R) (hd : d = detail c) :
    RaisedSince s (raiseTrip c d u) (R ++ [c]) refSpeed detail where
  mode := by simp [h.mode]
  stamp := by simp [h.stamp]
  speed := by simp [h.speed]
  nodup := List.nodup_append.mpr ⟨h.nodup, by simp, fun e he f hf hef => hc (by simp_all)⟩
  latched e := by
    have hbefore := h.latched e
    simp only [raiseTrip_get, Bool.or_eq_true, decide_eq_true_eq, List.mem_append, List.mem_singleton]
    tauto
  effect := by
    cases hlatched : u.trips.latched.get c with
    | true => exact effectOfLatches_merge h.effect hlatched
    | false =>
      have hbefore : s.trips.latched.get c = false := by
        have hlatch := h.latched c
        simp_all
      exact effectOfLatches_latch d h.effect h.mode hlatched hbefore
  records := by
    have hlatch := h.latched c
    cases hlatched : u.trips.latched.get c with
    | true => exact recordedSince_merge h.records h.stamp hc hlatched (by simp_all)
    | false => exact recordedSince_latch h.records h.stamp h.speed hd hlatched (by simp_all)
  quiet hR := by simp at hR

/-- What the statements say of the FAULT LIST over an event, from the records that its raises leave. -/
theorem RaisedSince.recordsFollow {s u : State} {R : List TripCode} {refSpeed : Nat} {detail : TripCode → Option Int}
    {raisedNow : TripCode → Prop} (h : RaisedSince s u R refSpeed detail) (hraised : ∀ c, c ∈ R ↔ raisedNow c) :
    recordsFollow raisedNow s.stamp refSpeed detail s u := by
  obtain ⟨new, hfaults, hcodes, hfresh, hoverflow⟩ := h.records
  refine ⟨_, new, hfaults, hcodes ▸ h.nodup.filter _, fun c => ?_, fun r hr => ?_, List.length_map _, fun i r hr => ?_,
    hoverflow⟩
  · have hmem : (∃ r ∈ new, r.code = c) ↔ c ∈ new.map fun r => r.code := by simp
    rw [hmem, hcodes, newlyLatched, h.latched c]
    simp only [List.mem_filter, Bool.not_eq_true']
    cases s.trips.latched.get c <;> simp
  · exact hfresh r hr
  · rw [List.getElem?_map, hr, Option.map_some, ← hraised]
    exact ⟨fun hactive => congrArg some (if_pos hactive), fun hother => congrArg some (if_neg hother)⟩

end Sys2Proof.Proofs
end

section
/-! SUPPORT. An accepted MEASURE (O36): the conditions it judges, block by block, what it leaves, and the statement. -/

namespace Sys2Proof.Proofs

open Sys2Proof.Machine Sys2Proof.Safety Sys2Proof.Claims

/-! ### The codes that a MEASURE raises (R40, R41, R42, R67, R99, R125) -/

theorem raisedAtMeasure_excess (s t : State) (w : Wheel) : raisedAtMeasure s t (torqueExcessOf w) ↔
    s.engine.excess.get w = 4 ∧ t.engine.excess.get w = 5 := by
  cases w <;> exact Iff.rfl

/-- A code that supervision does not own is raised where its mark goes from absent to present. -/
theorem raisedAtMeasure_mark (s t : State) {c : TripCode} (h : ∀ w, c ≠ torqueExcessOf w) :
    raisedAtMeasure s t c ↔ t.present.get c = true ∧ s.present.get c = false := by
  have hl := h .left
  have hr := h .right
  cases c <;> simp_all [torqueExcessOf, raisedAtMeasure]

/-- Whether a code has been raised is read in its own mark, or in the excess counts. -/
theorem raisedAtMeasure_congr (s : State) {t u : State} {c : TripCode}
    (hmark : (∀ w, c ≠ torqueExcessOf w) → u.present.get c = t.present.get c)
    (hcount : ∀ w, c = torqueExcessOf w → u.engine.excess.get w = t.engine.excess.get w) :
    raisedAtMeasure s u c ↔ raisedAtMeasure s t c := by
  by_cases hc : ∀ w, c ≠ torqueExcessOf w
  · rw [raisedAtMeasure_mark s u hc, raisedAtMeasure_mark s t hc, hmark hc]
  · push Not at hc
    obtain ⟨w, rfl⟩ := hc
    rw [raisedAtMeasure_excess, raisedAtMeasure_excess, hcount w rfl]

/-- In `u` a MEASURE taken in `s` has raised every code whose condition has come present so far. -/
def measuredSince (s u : State) (refSpeed : Nat) (detail : TripCode → Option Int) : Prop :=
  ∃ R, RaisedSince s u R refSpeed detail ∧ ∀ c, c ∈ R ↔ raisedAtMeasure s u c

section
variable {s u v : State} {refSpeed : Nat} {detail : TripCode → Option Int}

/-- What neither raises nor conditions read may change. -/
theorem measuredSince_carry (h : measuredSince s u refSpeed detail) (hmode : v.mode = u.mode) (hstamp : v.stamp = u.stamp)
    (hspeed : v.intake.measurement = u.intake.measurement) (htrips : v.trips = u.trips) (hengine : v.engine = u.engine)
    (hline : v.tripOut = u.tripOut) (hpresent : v.present = u.present) : measuredSince s v refSpeed detail := by
  obtain ⟨R, hsince, hraised⟩ := h
  refine ⟨R, hsince.carry hmode hstamp hspeed htrips (by rw [hengine]) hline, fun c => (hraised c).trans ?_⟩
  exact (raisedAtMeasure_congr s (fun _ => by rw [hpresent]) fun _ _ => by rw [hengine]).symm

/-- A condition is judged whose mark stands as it did at the start: it is raised where it comes present (R40). -/
theorem measuredSince_judge {c : TripCode} {now : Bool} {d : Option Int} (h : measuredSince s u refSpeed detail)
    (hc : ∀ w, c ≠ torqueExcessOf w) (hmark : u.present.get c = s.present.get c) (hd : now = true → d = detail c) :
    measuredSince s (judgeCondition c now d u) refSpeed detail := by
  obtain ⟨R, hsince, hraised⟩ := h
  have hfirst : c ∉ R := by
    rw [hraised, raisedAtMeasure_mark s u hc, hmark]
    simp
  have hother (e : TripCode) (he : e ≠ c) :
      e ∈ R ↔ raisedAtMeasure s (judgeCondition c now d u) e :=
    (hraised e).trans (raisedAtMeasure_congr s (fun _ => by rw [judgeCondition_get, if_neg he]) fun _ _ => by simp).symm
  have hself : raisedAtMeasure s (judgeCondition c now d u) c ↔ now = true ∧ s.present.get c = false := by
    rw [raisedAtMeasure_mark s _ hc, judgeCondition_get, if_pos rfl]
  have hmarked (b : Bool) : RaisedSince s (markPresent c b u) R refSpeed detail :=
    hsince.carry rfl rfl rfl rfl rfl rfl
  by_cases hrise : now = true ∧ s.present.get c = false
  · obtain ⟨rfl, habsent⟩ := hrise
    refine ⟨R ++ [c], ?_, fun e => ?_⟩
    · rw [judgeCondition_rises (hmark.trans habsent)]
      exact (hmarked true).raise hfirst (hd rfl)
    · by_cases he : e = c
      · subst he
        simp [hself, habsent]
      · rw [← hother e he]
        simp [he]
  · refine ⟨R, ?_, fun e => ?_⟩
    · rw [judgeCondition_quiet (by rw [hmark]; cases now <;> simp_all)]
      exact hmarked now
    · by_cases he : e = c
      · subst he
        exact iff_of_false hfirst fun hr => hrise (hself.mp hr)
      · exact hother e he

end

/-! ### The INTAKE UNIT and the THERMAL MONITOR (R22, R34, R41, R42, R93, R99, R107) -/

/-- The marks that the INTAKE UNIT sets at a MEASURE (R34, R41, R42). -/
theorem intakeAtMeasure_get (m : MeasurementRecord) (s : State) (e : TripCode) : (intakeAtMeasure m s).present.get e =
    if e = .inverterFault then m.inverterFault.left || m.inverterFault.right
    else if e = .dcLinkOvervolt then decide (dcOv s.store.image < m.voltage)
    else if e = .propLinkLost then false
    else s.present.get e := by
  simp [intakeAtMeasure, judgeCondition_get, markPresent_get]

/-- The detail of INVERTER_FAULT, where one of the flags is set (R42). -/
theorem inverterDetail_eq {f : Both Bool} (h : (f.left || f.right) = true) : inverterDetail f =
    if f.left = true ∧ f.right = true then 3 else if f.right = true then 2 else 1 := by
  obtain ⟨l, r⟩ := f
  revert h
  revert l r
  decide

/-- The start: the record is stored, L1 is FRESH with PROP_LINK_LOST absent, and nothing has been raised (R22, R34). -/
theorem measuredSince_start {s u : State} (m : MeasurementRecord) (detail : TripCode → Option Int) (hmode : u.mode = s.mode)
    (hstamp : u.stamp = s.stamp) (htrips : u.trips = s.trips) (hengine : u.engine = s.engine)
    (hline : u.tripOut = s.tripOut) (hpresent : u.present = s.present) :
    measuredSince s (markPresent .propLinkLost false (u.withIntake (intakeWithMeasure u.store.image m u.intake)))
      m.refSpeed detail := by
  refine ⟨[], .start detail hmode hstamp rfl htrips (congrArg (·.grant.torque) hengine) hline, fun c => ?_⟩
  by_cases hc : ∀ w, c ≠ torqueExcessOf w
  · rw [raisedAtMeasure_mark s _ hc, markPresent_get]
    split <;> simp [hpresent]
  · push Not at hc
    obtain ⟨w, rfl⟩ := hc
    rw [raisedAtMeasure_excess]
    simp [hengine]
    omega

theorem intakeAtMeasure_measured {s u : State} {m : MeasurementRecord} {detail : TripCode → Option Int}
    (hmode : u.mode = s.mode) (hstamp : u.stamp = s.stamp) (htrips : u.trips = s.trips) (hengine : u.engine = s.engine)
    (hline : u.tripOut = s.tripOut) (hpresent : u.present = s.present)
    (hvolt : detail .dcLinkOvervolt = some (m.voltage : Int))
    (hfault : detail .inverterFault = some (if m.inverterFault.left = true ∧ m.inverterFault.right = true then 3
      else if m.inverterFault.right = true then 2 else 1)) :
    measuredSince s (intakeAtMeasure m u) m.refSpeed detail := by
  have hstart := measuredSince_start m detail hmode hstamp htrips hengine hline hpresent
  refine measuredSince_judge (measuredSince_judge hstart (by rintro ⟨⟩ <;> decide) ?_ fun _ => hvolt.symm)
    (by rintro ⟨⟩ <;> decide) ?_ fun hnow => ?_
  · simp [markPresent_get, hpresent]
  · simp [judgeCondition_get, markPresent_get, hpresent]
  · rw [hfault, inverterDetail_eq hnow]

theorem formGrid_thermal (g : Grid) (s : State) : (formGrid g s).thermal.grid = some (formBand g) := by
  unfold formGrid
  dsimp only
  split <;> simp

theorem formGrid_measured {s u : State} {refSpeed : Nat} {detail : TripCode → Option Int} (g : Grid)
    (h : measuredSince s u refSpeed detail) (hmark : u.present.get .gridOvertemp = s.present.get .gridOvertemp)
    (hd : detail .gridOvertemp = some (formBand g).effective) : measuredSince s (formGrid g u) refSpeed detail := by
  unfold formGrid
  dsimp only
  refine measuredSince_judge ?_ (by rintro ⟨⟩ <;> decide) ?_ fun _ => hd.symm
  · split
    · exact measuredSince_carry h (by simp) (by simp) (by simp) (by simp) (by simp) (by simp) (by simp)
    · exact measuredSince_carry h rfl rfl rfl rfl rfl rfl rfl
  · split <;> simp [hmark]

theorem gridAtMeasure_measured {s u : State} {refSpeed : Nat} {detail : TripCode → Option Int} (m : MeasurementRecord)
    (h : measuredSince s u refSpeed detail) (hmark : u.present.get .gridOvertemp = s.present.get .gridOvertemp)
    (hd : detail .gridOvertemp = (gridAtMeasure m u).thermal.grid.map fun g => g.effective) :
    measuredSince s (gridAtMeasure m u) refSpeed detail := by
  unfold gridAtMeasure at hd ⊢
  split at hd <;>
    exact formGrid_measured _ h hmark (by rw [hd, formGrid_thermal]; rfl)

theorem wheelAtMeasure_measured {s u : State} {refSpeed : Nat} {detail : TripCode → Option Int} {w : Wheel}
    {m : MeasurementRecord} (h : measuredSince s u refSpeed detail)
    (hmark : u.present.get (motorOvertempOf w) = s.present.get (motorOvertempOf w))
    (hd : detail (motorOvertempOf w) = some (m.winding.get w)) : measuredSince s (wheelAtMeasure w m u) refSpeed detail := by
  have hheated (f : Motor → Motor) : measuredSince s (onMotor w f u) refSpeed detail :=
    measuredSince_carry h rfl rfl rfl rfl rfl rfl rfl
  unfold wheelAtMeasure judgeMotor
  split
  · exact measuredSince_judge (hheated _) (by cases w <;> rintro ⟨⟩ <;> decide) hmark fun _ => hd.symm
  · exact hheated _

theorem wheelAtMeasure_get {w : Wheel} {e : TripCode} (h : e ≠ motorOvertempOf w) (m : MeasurementRecord) (s : State) :
    (wheelAtMeasure w m s).present.get e = s.present.get e := by
  simp [wheelAtMeasure, judgeMotor_get h]

/-! ### Torque supervision (R66, R67) -/

theorem superviseWheel_measured {s u : State} {refSpeed : Nat} {detail : TripCode → Option Int} {w : Wheel}
    (granted : Int) {achieved : Int} (h : measuredSince s u refSpeed detail)
    (hcount : u.engine.excess.get w = s.engine.excess.get w) (hd : detail (torqueExcessOf w) = some achieved) :
    measuredSince s (superviseWheel w granted achieved u) refSpeed detail := by
  obtain ⟨R, hsince, hraised⟩ := h
  have hfirst : torqueExcessOf w ∉ R := by
    rw [hraised, raisedAtMeasure_excess, hcount]
    omega
  have hexcess : (superviseWheel w granted achieved u).engine.excess =
      u.engine.excess.set w (excessAfter w granted achieved u) := by
    rw [superviseWheel_eq]
    split <;> simp [excessMarked]
  have hself : raisedAtMeasure s (superviseWheel w granted achieved u) (torqueExcessOf w) ↔
      u.engine.excess.get w = 4 ∧ excessAfter w granted achieved u = 5 := by
    rw [raisedAtMeasure_excess, hexcess, hcount]
    simp
  have hother (e : TripCode) (he : e ≠ torqueExcessOf w) :
      e ∈ R ↔ raisedAtMeasure s (superviseWheel w granted achieved u) e := by
    refine (hraised e).trans (raisedAtMeasure_congr s (fun _ => superviseWheel_get he _ _ _) fun v hv => ?_).symm
    have hvw : v ≠ w := fun hvw => he (hvw ▸ hv)
    rw [hexcess]
    simp [hvw]
  have hmarked : RaisedSince s (excessMarked w granted achieved u) R refSpeed detail :=
    hsince.carry rfl rfl rfl rfl rfl rfl
  by_cases hrise : u.engine.excess.get w = 4 ∧ excessAfter w granted achieved u = 5
  · refine ⟨R ++ [torqueExcessOf w], ?_, fun e => ?_⟩
    · rw [superviseWheel_eq, if_pos hrise]
      exact hmarked.raise hfirst hd.symm
    · by_cases he : e = torqueExcessOf w
      · subst he
        simp [hself, hrise]
      · rw [← hother e he]
        simp [he]
  · refine ⟨R, ?_, fun e => ?_⟩
    · rw [superviseWheel_eq, if_neg hrise]
      exact hmarked
    · by_cases he : e = torqueExcessOf w
      · subst he
        exact iff_of_false hfirst fun hr => hrise (hself.mp hr)
      · exact hother e he

/-- Supervision of one wheel leaves the other wheel's count as it was. -/
theorem superviseWheel_other {v w : Wheel} (h : v ≠ w) (granted achieved : Int) (s : State) :
    (superviseWheel w granted achieved s).engine.excess.get v = s.engine.excess.get v := by
  rw [superviseWheel_eq]
  split <;> simp [excessMarked, h]

theorem supervise_measured {s u : State} {refSpeed : Nat} {detail : TripCode → Option Int} {m : MeasurementRecord}
    (granted : Both Int) (h : measuredSince s u refSpeed detail)
    (hcount : ∀ w, u.engine.excess.get w = s.engine.excess.get w)
    (hleft : detail .torqueExcessL = some m.achieved.left) (hright : detail .torqueExcessR = some m.achieved.right) :
    measuredSince s (supervise granted m u) refSpeed detail := by
  unfold supervise
  split
  · exact h
  · refine superviseWheel_measured _ (superviseWheel_measured _ h (hcount .left) hleft) ?_ hright
    rw [superviseWheel_other (by decide), hcount]

/-- A MEASURE raises each code where its condition comes present, and no other (R40). -/
theorem takeMeasure_measured {s u : State} {m : MeasurementRecord} (hmode : u.mode = s.mode) (hstamp : u.stamp = s.stamp)
    (htrips : u.trips = s.trips) (hengine : u.engine = s.engine) (hline : u.tripOut = s.tripOut)
    (hpresent : u.present = s.present) :
    measuredSince s (takeMeasure m u) m.refSpeed (detailAtMeasure m (takeMeasure m u)) := by
  have hgrid : (takeMeasure m u).thermal.grid = (gridAtMeasure m (intakeAtMeasure m u)).thermal.grid := by
    simp [takeMeasure, thermalAtMeasure, wheelAtMeasure]
  have hdetail : detailAtMeasure m (takeMeasure m u) .gridOvertemp =
      (gridAtMeasure m (intakeAtMeasure m u)).thermal.grid.map fun g => g.effective := by
    rw [← hgrid]
    rfl
  have hmark (c : TripCode) (hc : c ∈ [TripCode.gridOvertemp, .motorOvertempL, .motorOvertempR, .overspeed]) :
      (intakeAtMeasure m u).present.get c = s.present.get c := by
    rw [intakeAtMeasure_get, hpresent]
    simp only [List.mem_cons, List.not_mem_nil, or_false] at hc
    rcases hc with rfl | rfl | rfl | rfl <;> simp
  have hmotor (w : Wheel) : (gridAtMeasure m (intakeAtMeasure m u)).present.get (motorOvertempOf w) =
      s.present.get (motorOvertempOf w) := by
    rw [gridAtMeasure_get (by cases w <;> decide)]
    exact hmark _ (by cases w <;> simp [motorOvertempOf])
  have hintake : measuredSince s (intakeAtMeasure m u) m.refSpeed (detailAtMeasure m (takeMeasure m u)) :=
    intakeAtMeasure_measured hmode hstamp htrips hengine hline hpresent rfl rfl
  have hheated := gridAtMeasure_measured m hintake (hmark _ (by simp)) hdetail
  have hleft := wheelAtMeasure_measured (w := .left) hheated (hmotor .left) rfl
  have hright := wheelAtMeasure_measured (w := .right) hleft
    ((wheelAtMeasure_get (by decide) m _).trans (hmotor .right)) rfl
  have hspeed : measuredSince s (judgeOverspeed m (thermalAtMeasure m (intakeAtMeasure m u))) m.refSpeed
      (detailAtMeasure m (takeMeasure m u)) :=
    measuredSince_judge hright (by rintro ⟨⟩ <;> decide)
      ((thermalAtMeasure_get (by decide) (by rintro ⟨⟩ <;> decide) _ _).trans (hmark _ (by simp))) fun _ => rfl
  have hcount (w : Wheel) : (judgeOverspeed m (thermalAtMeasure m (intakeAtMeasure m u))).engine.excess.get w =
      s.engine.excess.get w := by simp [hengine]
  exact supervise_measured u.engine.grant.torque hspeed hcount rfl rfl

/-! ### What a MEASURE leaves (R22, R44) -/

/-- The INTAKE UNIT after an accepted MEASURE (R22, R29, R32). -/
theorem takeMeasure_intake (m : MeasurementRecord) (s : State) :
    (takeMeasure m s).intake = intakeWithMeasure s.store.image m s.intake := by
  simp [takeMeasure, intakeAtMeasure]

/-- The marks of the conditions that the INTAKE UNIT, supervision, the motors and the grid do not own stay as the INTAKE UNIT
leaves them. -/
theorem takeMeasure_get {e : TripCode} (hgrid : e ≠ .gridOvertemp) (hmotor : ∀ w, e ≠ motorOvertempOf w)
    (hexcess : ∀ w, e ≠ torqueExcessOf w) (m : MeasurementRecord) (s : State) : (takeMeasure m s).present.get e =
    if e = .overspeed then decide (overspeedAbs s.store.image < m.refSpeed) else (intakeAtMeasure m s).present.get e := by
  rw [takeMeasure, supervise_get hexcess, judgeOverspeed, judgeCondition_get]
  split
  · simp
  · rw [thermalAtMeasure_get hgrid hmotor]

/-- An accepted MEASURE leaves every field of the ALLOCATION ENGINE but granted torques and excess counts. -/
theorem takeMeasure_engine (m : MeasurementRecord) (s : State) : (takeMeasure m s).engine =
    { onlyTorque s.engine (takeMeasure m s).engine.grant.torque with excess := (takeMeasure m s).engine.excess } := by
  have hgrant : (takeMeasure m s).engine.grant =
      { s.engine.grant with torque := (takeMeasure m s).engine.grant.torque } := by
    have hframe : (takeMeasure m s).engine.grant.sequence = s.engine.grant.sequence ∧
        (takeMeasure m s).engine.grant.propelLimit = s.engine.grant.propelLimit ∧
        (takeMeasure m s).engine.grant.retardLimit = s.engine.grant.retardLimit ∧
        (takeMeasure m s).engine.grant.speedLimit = s.engine.grant.speedLimit ∧
        (takeMeasure m s).engine.grant.boost = s.engine.grant.boost ∧
        (takeMeasure m s).engine.grant.tractionReduced = s.engine.grant.tractionReduced ∧
        (takeMeasure m s).engine.grant.powerLimited = s.engine.grant.powerLimited ∧
        (takeMeasure m s).engine.grant.speedLimited = s.engine.grant.speedLimited ∧
        (takeMeasure m s).engine.grant.regime = s.engine.grant.regime := by simp [takeMeasure]
    generalize (takeMeasure m s).engine.grant = g at *
    cases g
    simp_all
  have hframe : (takeMeasure m s).engine.speedLimit = s.engine.speedLimit ∧
      (takeMeasure m s).engine.source = s.engine.source ∧
      (takeMeasure m s).engine.retardFraction = s.engine.retardFraction ∧
      (takeMeasure m s).engine.pass = s.engine.pass := by simp [takeMeasure]
  generalize (takeMeasure m s).engine = e at *
  obtain ⟨grant, limit, source, fraction, pass, excess⟩ := e
  obtain ⟨rfl, rfl, rfl, rfl⟩ := hframe
  simp only [onlyTorque, ← hgrant]

/-- An accepted MEASURE leaves every field of the plan but the head limit (R124). -/
theorem takeMeasure_planner (m : MeasurementRecord) (s : State) :
    (takeMeasure m s).planner = { s.planner with head := (takeMeasure m s).planner.head } := by
  have hframe : (takeMeasure m s).planner.queue = s.planner.queue ∧ (takeMeasure m s).planner.state = s.planner.state ∧
      (takeMeasure m s).planner.progress = s.planner.progress ∧
      (takeMeasure m s).planner.completed = s.planner.completed ∧
      (takeMeasure m s).planner.abandoned = s.planner.abandoned ∧
      (takeMeasure m s).planner.shortfall = s.planner.shortfall := by simp [takeMeasure]
  generalize (takeMeasure m s).planner = p at *
  cases p
  simp_all

/-- The engine at an accepted MEASURE changes the pass and the held slot at most (R44, R62). -/
theorem engineAtMeasure_eq (payload : List Byte) (s : State) : ∃ body pass held, engineAtMeasure payload s =
    ({ s with engine := { s.engine with pass := pass }, heldMeasure := held }, body) := by
  unfold engineAtMeasure startPass
  split_ifs
  · exact ⟨_, _, _, rfl⟩
  · split <;> exact ⟨_, _, _, rfl⟩
  · exact ⟨_, _, _, rfl⟩

/-- The state that a MEASURE of record `m` taken in `s` leaves, with the reply `body` owed at address `a`. -/
def afterMeasure (m : MeasurementRecord) (a : Byte) (body : Option ReplyBody) (pass : Option Pass) (held : Option (List Byte))
    (s : State) : State :=
  let u := takeMeasure m (heard .l1 s)
  { u with
    engine := { u.engine with pass := pass }
    heldMeasure := held
    portL1 := ⟨.replyPending a 0x10 body, u.portL1.counters⟩ }

/-- A MEASURE of 23 bytes on a port that listens. -/
theorem exec_measure {s : State} {a : Byte} {payload : List Byte} (h : listens s .l1 a) (hlength : payload.length = 23) :
    ∃ body pass held, exec (.measure payload) s = .next (afterMeasure (measureOf payload) a body pass held s) := by
  obtain ⟨hlow, haddressed⟩ := h
  obtain ⟨body, pass, held, heq⟩ := engineAtMeasure_eq payload (takeMeasure (measureOf payload) (heard .l1 s))
  have hhandled : handleMeasure payload (heard .l1 s) =
      engineAtMeasure payload (takeMeasure (measureOf payload) (heard .l1 s)) := by
    simp only [handleMeasure, hlength, readMeasure_eq, if_true]
  refine ⟨body, pass, held, congrArg Host.Outcome.next ?_⟩
  rw [serveRequest_addressed hlow haddressed (by omega), takeSound_eq (hhandled.trans heq)]
  rfl

/-- A MEASURE leaves mode, stamp, the other ports, tables, steering unit and validation alone. -/
theorem afterMeasure_eq (m : MeasurementRecord) (a : Byte) (body : Option ReplyBody) (pass : Option Pass)
    (held : Option (List Byte)) (s : State) :
    let t := afterMeasure m a body pass held s
    t = { s with
      portL1 := t.portL1, heldMeasure := t.heldMeasure, intake := t.intake, engine := t.engine, thermal := t.thermal
      planner := t.planner, present := t.present, trips := t.trips, tripOut := t.tripOut } := by
  have hframe : (takeMeasure m (heard .l1 s)).resetLow = s.resetLow ∧ (takeMeasure m (heard .l1 s)).mode = s.mode ∧
      (takeMeasure m (heard .l1 s)).stamp = s.stamp ∧ (takeMeasure m (heard .l1 s)).portL2 = s.portL2 ∧
      (takeMeasure m (heard .l1 s)).portL3 = s.portL3 ∧ (takeMeasure m (heard .l1 s)).store = s.store ∧
      (takeMeasure m (heard .l1 s)).traction = s.traction ∧ (takeMeasure m (heard .l1 s)).validation = s.validation ∧
      (takeMeasure m (heard .l1 s)).restartDue = s.restartDue ∧ (takeMeasure m (heard .l1 s)).freeCount = s.freeCount ∧
      (takeMeasure m (heard .l1 s)).pending = s.pending := by simp [takeMeasure]
  unfold afterMeasure
  generalize takeMeasure m (heard .l1 s) = u at *
  cases u
  simp_all

/-- The engine after a MEASURE: torques, pass and excess counts may have changed (R44, R60, R61, R67). -/
theorem afterMeasure_engine (m : MeasurementRecord) (a : Byte) (body : Option ReplyBody) (pass : Option Pass)
    (held : Option (List Byte)) (s : State) :
    let t := afterMeasure m a body pass held s
    t.engine = { onlyTorque s.engine t.engine.grant.torque with pass := t.engine.pass, excess := t.engine.excess } := by
  have hengine := takeMeasure_engine m (heard .l1 s)
  unfold afterMeasure
  generalize takeMeasure m (heard .l1 s) = u at *
  dsimp only
  rw [hengine]
  rfl

/-- The marks that no MEASURE judges stay. -/
theorem takeMeasure_unjudged (m : MeasurementRecord) (s : State) :
    (takeMeasure m s).present.get .chassisLinkLost = s.present.get .chassisLinkLost ∧
    (takeMeasure m s).present.get .steerPressureLow = s.present.get .steerPressureLow ∧
    (takeMeasure m s).present.get .retardShortfall = s.present.get .retardShortfall := by
  refine ⟨?_, ?_, ?_⟩ <;>
    rw [takeMeasure_get (by decide) (by rintro ⟨⟩ <;> decide) (by rintro ⟨⟩ <;> decide)] <;>
    simp [intakeAtMeasure_get]

/-- The marks that the INTAKE UNIT and the planner judge at a MEASURE (R34, R41, R42, R125). -/
theorem takeMeasure_judged (m : MeasurementRecord) (s : State) :
    (takeMeasure m s).present.get .propLinkLost = false ∧
    ((takeMeasure m s).present.get .dcLinkOvervolt = true ↔ dcOv s.store.image < m.voltage) ∧
    ((takeMeasure m s).present.get .inverterFault = true ↔ m.inverterFault.left = true ∨ m.inverterFault.right = true) ∧
    ((takeMeasure m s).present.get .overspeed = true ↔ overspeedAbs s.store.image < m.refSpeed) := by
  refine ⟨?_, ?_, ?_, ?_⟩ <;>
    rw [takeMeasure_get (by decide) (by rintro ⟨⟩ <;> decide) (by rintro ⟨⟩ <;> decide)] <;>
    simp [intakeAtMeasure_get]

/-- Settles O36: the raises by `takeMeasure_measured`, block by block; the rest by what a MEASURE leaves. -/
theorem measureIsTaken : Obligations.MeasureIsTaken := by
  intro s a payload hlistens hlength
  obtain ⟨body, pass, held, hexec⟩ := exec_measure hlistens hlength
  obtain ⟨R, hsince, hraised⟩ :=
    takeMeasure_measured (s := s) (u := heard .l1 s) (m := measureOf payload) rfl rfl rfl rfl rfl rfl
  obtain ⟨hprop, hvolt, hfault, hspeed⟩ := takeMeasure_judged (measureOf payload) (heard .l1 s)
  have hraised' (c : TripCode) : c ∈ R ↔ raisedAtMeasure s (afterMeasure (measureOf payload) a body pass held s) c :=
    (hraised c).trans (raisedAtMeasure_congr s (fun _ => rfl) fun _ _ => rfl)
  obtain ⟨hchassis, hpressure, hshort⟩ := takeMeasure_unjudged (measureOf payload) (heard .l1 s)
  refine ⟨_, hexec, ⟨takeMeasure_intake _ _, hprop, hvolt, hfault, hspeed⟩, hchassis, hpressure, hshort, fun c => ?_,
    hsince.effect, hsince.recordsFollow hraised', fun hnone => hsince.quiet ?_, afterMeasure_engine _ _ _ _ _ _,
    takeMeasure_planner _ _, afterMeasure_eq _ _ _ _ _ _⟩
  · exact (hsince.latched c).trans (or_congr_right (hraised' c))
  · exact List.eq_nil_iff_forall_not_mem.mpr fun c hc => hnone c ((hraised' c).mp hc)

end Sys2Proof.Proofs
end

section
/-! SUPPORT. The pass computed from its snapshot (O41, O42, O43): speed limit, limits, fraction, regime and torques. -/

namespace Sys2Proof.Proofs

open Sys2Proof.Machine Sys2Proof.Safety Sys2Proof.Claims

/-! ### Stage 1: the speed limit (R47) -/

/-- The sources listed are those that apply, with their values. -/
theorem mem_limitSources (n : Snapshot) (src : LimitSource) (v : Nat) : (src, v) ∈ limitSources n ↔ applies n src v := by
  unfold limitSources applies
  cases n.l2Stale with
  | false => cases src <;> simp
  | true =>
    cases n.demand.setpoint with
    | none => cases src <;> simp
    | some f =>
      cases src
      case fallback => simpa using eq_comm
      all_goals simp

/-- The sources stand in the order of R47. -/
theorem limitSources_ordered (n : Snapshot) : (limitSources n).Pairwise fun x y => x.1.code < y.1.code := by
  unfold limitSources
  cases n.planActive <;> cases n.envelopeLimp <;> cases n.l2Stale <;> cases n.demand.setpoint <;>
    simp [LimitSource.code]

/-- Of sources in order the first with the smallest value is taken. -/
theorem smallestSource_spec {l : List (LimitSource × Nat)} (hl : l ≠ []) (hordered : l.Pairwise fun x y => x.1.code < y.1.code) :
    smallestSource l ∈ l ∧ ∀ x ∈ l, (smallestSource l).2 ≤ x.2 ∧
      (x.2 = (smallestSource l).2 → (smallestSource l).1.code ≤ x.1.code) := by
  match l with
  | [x] => simp [smallestSource]
  | x :: y :: rest =>
    obtain ⟨hfirst, hrest⟩ := List.pairwise_cons.mp hordered
    obtain ⟨hmem, hleast⟩ := smallestSource_spec (List.cons_ne_nil y rest) hrest
    have hcode := hfirst _ hmem
    simp only [smallestSource]
    split_ifs with hle
    · refine ⟨List.mem_cons_self, fun z hz => ?_⟩
      rcases List.mem_cons.mp hz with rfl | hz
      · exact ⟨Nat.le_refl _, fun _ => Nat.le_refl _⟩
      · exact ⟨hle.trans (hleast z hz).1, fun _ => (hfirst z hz).le⟩
    · refine ⟨List.mem_cons_of_mem x hmem, fun z hz => ?_⟩
      rcases List.mem_cons.mp hz with rfl | hz
      · exact ⟨by omega, fun h => absurd h.le hle⟩
      · exact hleast z hz

theorem limitSources_ne_nil (n : Snapshot) : limitSources n ≠ [] := by simp [limitSources]

/-- Settles O41, from the order of the sources and the choice among them. -/
theorem speedLimitIsTheSmallestSource : Obligations.SpeedLimitIsTheSmallestSource := by
  intro n entered
  obtain ⟨hmem, hleast⟩ := smallestSource_spec (limitSources_ne_nil n) (limitSources_ordered n)
  exact ⟨(mem_limitSources n _ _).mp hmem, fun src v hv => hleast (src, v) ((mem_limitSources n src v).mpr hv)⟩

/-! ### Stages 2 and 3: limits, fraction and regime (R48 to R51) -/

theorem propelAllowed_iff (n : Snapshot) (sl : Nat) : propelAllowed n sl = true ↔
    n.mode = .drive ∧ n.tripLevel = .none ∧ 0 < n.demand.throttle ∧ n.demand.park = false ∧ n.demand.service = false ∧
    n.payloadBand < 7 ∧ n.refSpeed + 100 < sl := by
  simp [propelAllowed, and_assoc]

theorem regimeOf_retard (n : Snapshot) (sl fraction : Nat) : regimeOf n sl fraction = .retard ↔ 0 < fraction := by
  unfold regimeOf
  split_ifs with h <;> simp [h]

theorem regimeOf_propel (n : Snapshot) (sl fraction : Nat) :
    regimeOf n sl fraction = .propel ↔ fraction = 0 ∧ propelAllowed n sl = true := by
  unfold regimeOf
  split_ifs with hfraction hallowed
  · simp; omega
  · simp [hallowed]; omega
  · simp [hallowed]

/-- While G is UNSEEDED no retard is available (R49, R87). -/
theorem retardLimitOf_eq (n : Snapshot) (w : Wheel) : retardLimitOf n w =
    (let i := speedIndex (n.measurement.wheelSpeed.get w).natAbs
     if n.seeded then
       (max 0 (min 1600 ((retardCap n.image i : Int) + 2 * retardTrim n.image (i / 4)))).toNat * n.gd / 1000 *
         n.md.get w / 1000
     else 0) := by
  unfold retardLimitOf
  cases n.seeded
  · simp
  · rfl

/-- Settles O42, figure by figure. -/
theorem limitsFractionAndRegime : Obligations.LimitsFractionAndRegime := by
  intro n entered
  refine ⟨fun w => ⟨Both.get_of _ w, ?_, ?_⟩, ?_, regimeOf_retard _ _ _, ?_, decide_eq_true_iff⟩
  · simp [computePass, propelLimitOf, wheelIndex]
  · exact (Both.get_of _ w).trans (retardLimitOf_eq n w)
  · rfl
  · exact (regimeOf_propel _ _ _).trans (and_congr_right fun _ => propelAllowed_iff n _)

end Sys2Proof.Proofs
end

section
/-! SUPPORT. Stages 3 to 8 of a pass (O43): what each stage forms. -/

namespace Sys2Proof.Proofs

open Sys2Proof.Machine Sys2Proof.Safety Sys2Proof.Claims

/-! ### Stages 4 to 6: shares, clamp, traction (R52, R70 to R72, R74, R75) -/

/-- The shares by the wheel that the steer angle favours (R74). -/
theorem sharesOf_get (steer : Int) (split : Nat) (l2Stale : Bool) (w : Wheel) : (sharesOf steer split l2Stale).get w =
    (let bias := if l2Stale = true ∨ steer = 0 then 0 else split
     if (w = .left ↔ 0 < steer) then 500 + bias else 500 - bias) := by
  have hsign : steer < 0 ∨ steer = 0 ∨ 0 < steer := by omega
  unfold sharesOf
  cases l2Stale with
  | true => cases w <;> simp [Both.get]
  | false =>
    rcases hsign with hneg | rfl | hpos
    · have hne : steer ≠ 0 := by omega
      have hnot : ¬0 < steer := by omega
      cases w <;> simp [Both.get, hneg, hne, hnot]
    · cases w <;> simp [Both.get]
    · have hne : steer ≠ 0 := by omega
      cases w <;> simp [Both.get, hpos, hne]

/-- In COAST nothing is shared out; else each share is clamped to the limit of the regime (R52). -/
theorem clampToLimits_get (regime : Regime) (pl rl torque : Both Nat) (w : Wheel)
    (h : regime = .coast → torque.get w = 0) : (clampToLimits regime pl rl torque).get w =
    min (torque.get w) (if regime = .propel then pl.get w else rl.get w) := by
  cases regime with
  | propel => exact Both.get_of _ w
  | retard => exact Both.get_of _ w
  | coast =>
    rw [h rfl, Nat.zero_min]
    cases w <;> rfl

/-- A wheel departs where it slips in PROPEL or locks in RETARD (R70, R71). -/
theorem nextFactor_eq (regime : Regime) (threshold refSpeed wheelSpeed : Int) (recover tf : Nat) :
    nextFactor regime (decide (threshold < departure regime refSpeed wheelSpeed)) recover tf =
      if (regime = .propel ∧ threshold < (wheelSpeed.natAbs : Int) - refSpeed) ∨
          (regime = .retard ∧ threshold < refSpeed - wheelSpeed.natAbs)
      then max 250 (tf * 3 / 4) else min 1000 (tf + recover) := by
  cases regime <;> simp [nextFactor, departure]

theorem wet_iff (n : Snapshot) : n.wet = true ↔ n.planActive = true ∧ n.headSurface = .wet := by simp [Snapshot.wet]

/-! ### Stage 7: the power budget (R80, R81) -/

/-- The torques of a pass after stage 6. -/
def grippedTorque (n : Snapshot) (entered : Both Bool) : Both Nat :=
  let p := computePass n entered
  let total := totalTorque n p.regime p.retardFraction p.propelLimit p.retardLimit
  let shared := shareTorque total (sharesOf n.demand.steer (steerSplit n.image (steerBandOf n.demand.steer)) n.l2Stale)
  Both.of fun w =>
    scaleByFactor ((clampToLimits p.regime p.propelLimit p.retardLimit shared).get w) ((newFactors n p.regime).get w)

/-- The torques of a pass after stage 7, and whether it scaled them. -/
def budgetedTorque (n : Snapshot) (entered : Both Bool) : Both Nat × Bool :=
  let power := Both.of fun w =>
    wheelPower n.image ((grippedTorque n entered).get w) (n.measurement.wheelSpeed.get w)
  if (computePass n entered).regime = .propel then budgetTorque (powerAvailable n) power (grippedTorque n entered)
  else (grippedTorque n entered, false)

/-- The torque of a pass is its target after stage 7, limited in growth (R55). -/
theorem computePass_torque (n : Snapshot) (entered : Both Bool) (w : Wheel) : (computePass n entered).torque.get w =
    rateLimited (rateOf n) (n.previous.get w)
      (targetOf (computePass n entered).regime ((budgetedTorque n entered).1.get w)) := Both.get_of _ w

theorem computePass_powerLimited (n : Snapshot) (entered : Both Bool) :
    (computePass n entered).powerLimited = (budgetedTorque n entered).2 := rfl

theorem budgetTorque_get (available : Nat) (power torque : Both Nat) (w : Wheel) :
    (budgetTorque available power torque).1.get w =
      if available < power.left + power.right then torque.get w * available / (power.left + power.right)
      else torque.get w := by
  unfold budgetTorque
  dsimp only
  split_ifs
  · exact Both.get_map _ _ w
  · rfl

theorem budgetTorque_scales (available : Nat) (power torque : Both Nat) :
    (budgetTorque available power torque).2 = true ↔ available < power.left + power.right := by
  unfold budgetTorque
  dsimp only
  split_ifs with h <;> simp [h]

/-- Stage 7 scales in PROPEL, by the power available (R81). -/
theorem budgetedTorque_get (n : Snapshot) (entered : Both Bool) (w : Wheel) :
    (let torque := grippedTorque n entered
     let power := fun w => wheelPower n.image (torque.get w) (n.measurement.wheelSpeed.get w)
     let scaled := (computePass n entered).regime = .propel ∧ powerAvailable n < power .left + power .right
     (budgetedTorque n entered).1.get w =
       (if scaled then torque.get w * powerAvailable n / (power .left + power .right) else torque.get w) ∧
     ((budgetedTorque n entered).2 = true ↔ scaled)) := by
  unfold budgetedTorque
  dsimp only
  split_ifs with hpropel hscaled hscaled
  · exact ⟨(budgetTorque_get _ _ _ w).trans (if_pos hscaled.2),
      (budgetTorque_scales _ _ _).trans (iff_of_true hscaled.2 hscaled)⟩
  · have hpower := fun h => hscaled ⟨hpropel, h⟩
    exact ⟨(budgetTorque_get _ _ _ w).trans (if_neg hpower),
      (budgetTorque_scales _ _ _).trans (iff_of_false hpower hscaled)⟩
  · exact absurd hscaled.1 hpropel
  · exact ⟨rfl, by simp [hpropel]⟩

/-! ### Stage 8: sign and rate (R55) -/

/-- The rate limit in the words of R55's table. -/
theorem rateLimited_eq (rate : Nat) (previous target : Int) :
    rateLimited rate previous target = ratedTorque rate previous target := by
  unfold rateLimited ratedTorque
  dsimp only
  split_ifs <;> omega

/-- The magnitude never passes that of the target, whose sign the torque has. -/
theorem rateLimited_bounds (rate : Nat) (previous target : Int) :
    (0 ≤ target → 0 ≤ rateLimited rate previous target ∧ rateLimited rate previous target ≤ target) ∧
    (target ≤ 0 → target ≤ rateLimited rate previous target ∧ rateLimited rate previous target ≤ 0) := by
  unfold rateLimited
  dsimp only
  split_ifs <;> omega

/-- Settles O43, stage by stage. -/
theorem stagesThreeToEightFormTheTorques : Obligations.StagesThreeToEightFormTheTorques := by
  refine ⟨fun rate previous target => ?_, fun n entered => ?_⟩
  · obtain ⟨hpos, hneg⟩ := rateLimited_bounds rate previous target
    dsimp only
    rw [rateLimited_eq] at *
    unfold ratedTorque at *
    refine ⟨fun h => ?_, fun h h' => ?_, fun h h' => ?_, fun h h' => ?_, fun h h' => ?_, by omega⟩ <;> split_ifs <;> omega
  · intro p wet total split share limit threshold departs factor gripped power available scaled final rate w
    have hthreshold : (slipThreshold n.image n.wet : Int) = threshold := by
      simp only [slipThreshold, wet_iff, threshold, wet]
      split_ifs <;> rfl
    have hrate : rateOf n = rate := by simp only [rateOf, wet_iff, rate, wet]
    have hfactor (v : Wheel) : (newFactors n p.regime).get v = factor v := by
      rw [newFactors, Both.get_of, hthreshold]
      exact nextFactor_eq _ _ _ _ _ _
    have hgripped (v : Wheel) : (grippedTorque n entered).get v = gripped v := by
      have hcoast : p.regime = .coast → total = 0 := fun h => by simp only [total, h]
      have htotal : totalTorque n p.regime p.retardFraction p.propelLimit p.retardLimit = total := by
        simp only [total]
        cases p.regime <;> rfl
      rw [grippedTorque, Both.get_of, clampToLimits_get _ _ _ _ _ fun h => ?_, hfactor v, shareTorque, Both.get_map,
        sharesOf_get, htotal]
      · rfl
      · rw [shareTorque, Both.get_map, htotal, hcoast h]
        simp
    obtain ⟨hfinal, hscaled⟩ := budgetedTorque_get n entered w
    simp only [hgripped] at hfinal hscaled
    refine ⟨Both.ext_get fun v => (hfactor v).trans (Both.get_of _ v).symm, ?_, hscaled, ?_⟩
    · have hreduced : p.tractionReduced.get w = decide ((newFactors n p.regime).get w < 1000) := Both.get_map _ _ w
      rw [hreduced, hfactor, decide_eq_true_iff]
    · have hsigned : targetOf p.regime (final w) = (match p.regime with
          | .propel => (final w : Int)
          | .retard => -(final w : Int)
          | .coast => 0) := by cases p.regime <;> rfl
      rw [computePass_torque, rateLimited_eq, hrate, hfinal]
      exact congrArg _ hsigned

end Sys2Proof.Proofs
end

section
/-! SUPPORT. What a command brings about, said once for every command (O46, O48, O52, O53): the effects that touch drive, torques,
tables or latches, and all the others together. -/

namespace Sys2Proof.Proofs

open Sys2Proof.Machine Sys2Proof.Safety Sys2Proof.Claims

/-! ### What stands aside from drive, torques, tables and latches -/

/-- From `s` to `t` nothing changes but ports, held slot, plan, reserve, marks, records, queue and the service state, with the
ACCESS LEVEL not raised. -/
structure Aside (s t : State) : Prop where
  mode : t.mode = s.mode
  stamp : t.stamp = s.stamp
  intake : t.intake = s.intake
  engine : t.engine = s.engine
  factors : t.traction.tf = s.traction.tf
  thermal : t.thermal = s.thermal
  latched : t.trips.latched = s.trips.latched
  level : t.trips.level = s.trips.level
  nv : t.store.nv = s.store.nv
  image : t.store.image = s.store.image
  access : t.store.accessLevel ≤ s.store.accessLevel

theorem Aside.rfl {s : State} : Aside s s := by constructor <;> simp

theorem Aside.trans {s t u : State} (h : Aside s t) (h' : Aside t u) : Aside s u where
  mode := h'.mode.trans h.mode
  stamp := h'.stamp.trans h.stamp
  intake := h'.intake.trans h.intake
  engine := h'.engine.trans h.engine
  factors := h'.factors.trans h.factors
  thermal := h'.thermal.trans h.thermal
  latched := h'.latched.trans h.latched
  level := h'.level.trans h.level
  nv := h'.nv.trans h.nv
  image := h'.image.trans h.image
  access := h'.access.trans h.access

/-! ### Line events (R154, R155, R158 to R160) -/

theorem setReceive_aside (p : PortId) (r : Receive) (s : State) : Aside s (setReceive p r s) := by constructor <;> simp

theorem countOn_aside (p : PortId) (f : Counters → Counters) (s : State) : Aside s (countOn p f s) := by
  constructor <;> simp

/-- A port counted and put into a receive state. -/
theorem port_aside (p : PortId) (r : Receive) (f : Counters → Counters) (s : State) :
    Aside s (setReceive p r (countOn p f s)) :=
  (countOn_aside p f s).trans (setReceive_aside p r _)

theorem takeMarker_aside (p : PortId) (a : Byte) (s : State) : Aside s (takeMarker p a s) := by
  unfold takeMarker
  split_ifs
  · exact setReceive_aside p _ s
  · exact setReceive_aside p _ s
  · exact port_aside p _ _ s

theorem onMarker_aside (p : PortId) (a : Byte) (s : State) : Aside s (onMarker p a s) := by
  unfold onMarker
  split
  · exact .rfl
  · split
    · exact takeMarker_aside p a s
    · exact takeMarker_aside p a s
    · exact (countOn_aside p _ s).trans (takeMarker_aside p a _)
    · exact (countOn_aside p _ s).trans (takeMarker_aside p a _)
    · exact .rfl

theorem onFramingError_aside (p : PortId) (s : State) : Aside s (onFramingError p s) := by
  unfold onFramingError
  split
  · exact port_aside p _ _ s
  · exact .rfl
  · exact countOn_aside p _ s

theorem onGap_aside (p : PortId) (s : State) : Aside s (onGap p s) := by
  unfold onGap
  split
  · exact port_aside p _ _ s
  · exact setReceive_aside p _ s
  · exact .rfl

theorem onLength_aside (p : PortId) (n : Byte) (s : State) : Aside s (onLength p n s) := by
  unfold onLength
  split
  · split
    · exact port_aside p _ _ s
    · exact .rfl
  · exact .rfl

theorem onShortBreak_aside (p : PortId) (s : State) : Aside s (onShortBreak p s) := by
  unfold onShortBreak
  split
  · exact .rfl
  · exact countOn_aside p _ s
  · exact port_aside p _ _ s

/-- A long break on L3 drops the ACCESS LEVEL to 0 (R160, R173). -/
theorem onLongBreak_aside (p : PortId) (s : State) : Aside s (onLongBreak p s) := by
  unfold onLongBreak
  split
  · exact .rfl
  · cases p <;> constructor <;> simp [resync]

theorem onCheckFailure_aside (p : PortId) (code : Byte) (payload : List Byte) (check : Byte) (s : State) :
    Aside s (onCheckFailure p code payload check s) := by
  unfold onCheckFailure
  split
  · split_ifs
    · exact port_aside p _ _ s
    · exact .rfl
    · exact port_aside p _ _ s
  · exact .rfl

theorem beginReply_aside (p : PortId) (s : State) : Aside s (beginReply p s) := by
  unfold beginReply
  split
  · exact setReceive_aside p _ s
  · exact .rfl

theorem completeReply_aside (p : PortId) (s : State) : Aside s (completeReply p s) := by
  unfold completeReply
  split
  · dsimp only
    split
    · constructor <;> simp
    · exact setReceive_aside p _ s
  · exact .rfl

/-! ### Requests (R156, R157) -/

theorem heard_aside (p : PortId) (s : State) : Aside s (heard p s) := by constructor <;> simp [heard]

/-- A request frame stands aside, or its owner has heard it and the answer is owed. -/
theorem request_effect (p : PortId) (code : Byte) (payload : List Byte) (handle : State → State × Option ReplyBody)
    (s : State) : Aside s (whileReleased (serveRequest p code payload handle) s) ∨
    ∃ a body, whileReleased (serveRequest p code payload handle) s =
      setReceive p (.replyPending a code body) (handle (heard p s)).1 := by
  unfold whileReleased
  split
  · exact .inl .rfl
  · rcases serveRequest_cases p code payload handle s with e | e | ⟨a, -, e⟩ <;> rw [e]
    · exact .inl .rfl
    · exact .inl (port_aside p _ _ s)
    · exact .inr ⟨a, _, rfl⟩

/-- A request stands aside where its owner does. -/
theorem request_aside (p : PortId) (code : Byte) (payload : List Byte) {handle : State → State × Option ReplyBody}
    (h : ∀ s, Aside s (handle s).1) (s : State) : Aside s (whileReleased (serveRequest p code payload handle) s) := by
  rcases request_effect p code payload handle s with e | ⟨a, body, e⟩
  · exact e
  · exact e ▸ (heard_aside p s).trans ((h _).trans (setReceive_aside p _ _))

theorem handleAppend_aside (payload : List Byte) (s : State) : Aside s (handleAppend payload s).1 := by
  rcases handleAppend_state payload s with e | ⟨segs, e⟩ <;> rw [e] <;> constructor <;> simp

theorem handleStart_aside (payload : List Byte) (s : State) : Aside s (handleStart payload s).1 := by
  rcases handleStart_state payload s with e | e <;> rw [e] <;> constructor <;> simp [startPlan]

theorem handleClear_aside (payload : List Byte) (s : State) : Aside s (handleClear payload s).1 := by
  rcases handleClear_state payload s with e | e <;> rw [e] <;> constructor <;> simp

theorem handlePlanRead_aside (payload : List Byte) (s : State) : Aside s (handlePlanRead payload s).1 := by
  rw [handlePlanRead_state]
  exact .rfl

theorem handleFaultAck_aside (payload : List Byte) (s : State) : Aside s (handleFaultAck payload s).1 := by
  rcases handleFaultAck_state payload s with e | e <;> rw [e] <;> constructor <;> simp

theorem handleLogout_aside (payload : List Byte) (s : State) : Aside s (handleLogout payload s).1 := by
  rcases handleLogout_state payload s with e | e <;> rw [e] <;> constructor <;> simp

theorem handleStage_aside (payload : List Byte) (s : State) : Aside s (handleStage payload s).1 := by
  rcases handleStage_state payload s with e | ⟨_, _, _, e⟩ <;> rw [e] <;> constructor <;> simp [stageValues]

theorem handleCommit_aside (payload : List Byte) (s : State) : Aside s (handleCommit payload s).1 := by
  rcases handleCommit_state payload s with e | e <;> rw [e] <;> constructor <;> simp

theorem faultRead_aside (p : PortId) (payload : List Byte) (s : State) : Aside s
    ((if isListed p 0x26 then answerRead 1 payload (faultReadReply payload) else answerUnknown) s).1 := by
  split <;> exact .rfl

theorem countLockout_aside (s : State) : Aside s (s.withStore (countLockout s.store)) := by
  unfold countLockout
  split <;> constructor <;> simp

theorem countIdle_aside (s : State) : Aside s (s.withStore (countIdle s.store)) := by
  unfold countIdle
  split_ifs <;> constructor <;> simp

theorem travelPlan_aside (s : State) : Aside s (travelPlan s) := by constructor <;> simp

/-- An ACCESS stands aside but for the level that it grants (R170, R171). -/
theorem handleAccess_aside (payload : List Byte) (s : State) : ∃ level,
    Aside s ((handleAccess payload s).1.withStore { (handleAccess payload s).1.store with accessLevel := level }) := by
  refine ⟨0, ?_⟩
  rcases handleAccess_state payload s with e | e | ⟨_, -, e⟩ <;> rw [e]
  · constructor <;> simp
  · unfold failAccess
    split_ifs <;> constructor <;> simp
  · constructor <;> simp [grantAccess]

/-! ### The commands -/

/-- What a command taken in `s` may leave. -/
inductive Effect (s : State) : Instr → State → Prop
  | aside {c : Instr} {t : State} : Aside s t → Effect s c t
  | coldReset (n : Nat) : Effect s .coldReset
      (((State.coldReset (nvAfterColdReset s.freeCount s.store)).withFreeCount n).withPending s.pending)
  | released : Effect s .resetNRelease (startValidation (s.withResetLow false))
  | validated (r : Nat) : Effect s .validationComplete (completeValidation r s)
  | restarted : Effect s .warmRestart (startValidation (afterWarmRestart s))
  | expired : Effect s .baseIntervalExpiry (expireInterval s)
  | l1Stale : Effect s .l1LinkStale (countStandstill (countL1 s))
  | l2Stale : Effect s .l2LinkStale (countL2 s)
  | grace : Effect s .chassisLinkLost (stepGrace s)
  | holdExpired (w : Wheel) : Effect s (.sensorHoldExpired w)
      (onMotor w (fun m => handBand s.store.image (formMotorBand s.store.image (countHold m))) s)
  | boostCounted {c : Instr} (w : Wheel) : Effect s c (onMotor w (countMotorBoost s.store.image) s)
  | pressure : Effect s .steerPressureLow (steeringAtExpiry s)
  | shortfall : Effect s .retardShortfall (stepShortfall s)
  | measured (payload : List Byte) (r : Receive) (hlength : payload.length = 23) : Effect s (.measure payload)
      (setReceive .l1 r (engineAtMeasure payload (takeMeasure (measureOf payload) (heard .l1 s))).1)
  | completed (b : Bool) : Effect s (.passCompletion b) (completePass b (runStages s))
  | demanded (payload : List Byte) (r : Receive) : Effect s (.demand payload)
      (setReceive .l2 r (acceptDemand (demandOf payload) (heard .l2 s)))
  | cleared (payload : List Byte) (r : Receive) : Effect s (.tripClear payload)
      (setReceive .l2 r (clearTrips (heard .l2 s)))
  | access {t : State} (payload : List Byte) (level : Nat) :
      Aside s (t.withStore { t.store with accessLevel := level }) → Effect s (.access payload) t
  | verified (found : Option NvRow) (st : StagedRow) (hstage : s.store.stage = some st) : Effect s (.programVerify found)
      (trySwap (s.withStore (verifyStore st (programmedRow st found) s.store)))

/-- A command held by RESET_N stands aside. -/
theorem Effect.whileReleased {s : State} {c : Instr} {f : State → State} (h : Effect s c (f s)) :
    Effect s c (whileReleased f s) := by
  unfold Machine.whileReleased
  split
  · exact .aside .rfl
  · exact h

/-- A share that is not due stands aside. -/
theorem Effect.whenDue {s : State} {c : Instr} {f : State → State} (due : State → Bool) (h : Effect s c (f s)) :
    Effect s c (Machine.whileReleased (Machine.whenDue due f) s) := by
  refine .whileReleased ?_
  unfold Machine.whenDue
  split
  · exact h
  · exact .aside .rfl

theorem measure_effect (payload : List Byte) (s : State) : Effect s (.measure payload)
    (whileReleased (serveRequest .l1 0x10 payload (handleMeasure payload)) s) := by
  rcases request_effect .l1 0x10 payload (handleMeasure payload) s with e | ⟨a, body, e⟩
  · exact .aside e
  · rw [e, handleMeasure_state, readMeasure_eq]
    split
    next hlength => exact .measured payload _ hlength
    next => exact .aside ((heard_aside .l1 s).trans (setReceive_aside .l1 _ _))

theorem demand_effect (payload : List Byte) (s : State) : Effect s (.demand payload)
    (whileReleased (serveRequest .l2 0x20 payload (handleDemand payload)) s) := by
  rcases request_effect .l2 0x20 payload (handleDemand payload) s with e | ⟨a, body, e⟩
  · exact .aside e
  · rw [e, handleDemand_state, readDemand_eq]
    split
    · exact .demanded payload _
    · exact .aside ((heard_aside .l2 s).trans (setReceive_aside .l2 _ _))

theorem tripClear_effect (payload : List Byte) (s : State) : Effect s (.tripClear payload)
    (whileReleased (serveRequest .l2 0x25 payload (handleTripClear payload)) s) := by
  rcases request_effect .l2 0x25 payload (handleTripClear payload) s with e | ⟨a, body, e⟩
  · exact .aside e
  · rw [e]
    rcases handleTripClear_state payload (heard .l2 s) with e' | e' <;> rw [e']
    · exact .aside ((heard_aside .l2 s).trans (setReceive_aside .l2 _ _))
    · exact .cleared payload _

theorem access_effect (payload : List Byte) (s : State) : Effect s (.access payload)
    (whileReleased (serveRequest .l3 0x30 payload (handleAccess payload)) s) := by
  rcases request_effect .l3 0x30 payload (handleAccess payload) s with e | ⟨a, body, e⟩
  · exact .aside e
  · rw [e]
    obtain ⟨level, haside⟩ := handleAccess_aside payload (heard .l3 s)
    exact .access payload level ((heard_aside .l3 s).trans (haside.trans (by constructor <;> simp)))

theorem programVerify_effect (found : Option NvRow) (s : State) : Effect s (.programVerify found)
    (whileReleased (fun s =>
      match s.store.programmer, s.store.stage with
      | .programming, some st => trySwap (s.withStore (verifyStore st (programmedRow st found) s.store))
      | _, _ => s) s) := by
  refine .whileReleased ?_
  split
  next st _ hstage => exact .verified found st hstage
  next => exact .aside .rfl

/-- Every command has one of these effects. -/
theorem exec_effect {c : Instr} {s t : State} (e : exec c s = .next t) : Effect s c t := by
  cases c <;> obtain rfl := Host.Outcome.next.inj e
  case coldReset => exact .coldReset _
  case resetNRelease =>
    split
    · exact .released
    · exact .aside .rfl
  case validationComplete =>
    refine .whileReleased ?_
    split
    · exact .validated _
    · exact .aside .rfl
  case warmRestart =>
    refine .whileReleased ?_
    split
    · exact .restarted
    · exact .aside .rfl
  case baseIntervalExpiry => exact .whileReleased .expired
  case l1LinkStale => exact .whenDue l1Due .l1Stale
  case l2LinkStale => exact .whenDue l2Due .l2Stale
  case chassisLinkLost => exact .whenDue graceDue .grace
  case sensorHoldExpired w => exact .whenDue (holdDue w) (.holdExpired w)
  case boostWindowEnd w => exact .whenDue (boostDue w) (.boostCounted w)
  case recoverEnd w => exact .whenDue (recoverDue w) (.boostCounted w)
  case steerPressureLow => exact .whenDue pressureDue .pressure
  case planAdvance => exact .whenDue advanceDue (.aside (travelPlan_aside s))
  case retardShortfall => exact .whenDue shortfallDue .shortfall
  case lockoutEnd => exact .whenDue lockoutDue (.aside (countLockout_aside s))
  case serviceIdleTimeout => exact .whenDue idleDue (.aside (countIdle_aside s))
  case markerCharacter p a => exact .whileReleased (.aside (onMarker_aside p a s))
  case framingError p => exact .whileReleased (.aside (onFramingError_aside p s))
  case gapTimeout p => exact .whileReleased (.aside (onGap_aside p s))
  case lengthError p n => exact .whileReleased (.aside (onLength_aside p n s))
  case shortBreak p => exact .whileReleased (.aside (onShortBreak_aside p s))
  case longBreak p => exact .whileReleased (.aside (onLongBreak_aside p s))
  case checkFailure p code pl check => exact .whileReleased (.aside (onCheckFailure_aside p code pl check s))
  case unknownRequest p code pl =>
    refine .whileReleased ?_
    split
    · exact .aside .rfl
    · rcases serveRequest_cases p code pl answerUnknown s with e | e | ⟨a, -, e⟩ <;> rw [e]
      · exact .aside .rfl
      · exact .aside (port_aside p _ _ s)
      · exact .aside ((heard_aside p s).trans (setReceive_aside p _ _))
  case replyBegin p => exact .whileReleased (.aside (beginReply_aside p s))
  case replyComplete p => exact .whileReleased (.aside (completeReply_aside p s))
  case measure pl => exact measure_effect pl s
  case passCompletion b => exact .whileReleased (.completed b)
  case demand pl => exact demand_effect pl s
  case planAppend pl => exact .aside (request_aside .l2 0x21 pl (handleAppend_aside pl) s)
  case planStart pl => exact .aside (request_aside .l2 0x22 pl (handleStart_aside pl) s)
  case planClear pl => exact .aside (request_aside .l2 0x23 pl (handleClear_aside pl) s)
  case planRead pl => exact .aside (request_aside .l2 0x24 pl (handlePlanRead_aside pl) s)
  case tripClear pl => exact tripClear_effect pl s
  case faultRead p pl => exact .aside (request_aside p 0x26 pl (faultRead_aside p pl) s)
  case faultAck pl => exact .aside (request_aside .l3 0x36 pl (handleFaultAck_aside pl) s)
  case access pl => exact access_effect pl s
  case logout pl => exact .aside (request_aside .l3 0x31 pl (handleLogout_aside pl) s)
  case rowStage pl => exact .aside (request_aside .l3 0x33 pl (handleStage_aside pl) s)
  case rowCommit pl => exact .aside (request_aside .l3 0x34 pl (handleCommit_aside pl) s)
  case programVerify found => exact programVerify_effect found s
  all_goals exact .aside (request_aside _ _ _ (fun _ => .rfl) s)

/-- A step takes the command at the front of the queue, or the part does its own work. -/
theorem step_effect {s t : State} (e : step s = .next t) :
    t = s ∨ t = runStages (validateNext s) ∨ ∃ c rest, Effect (s.withPending rest) c t := by
  unfold step at e
  split at e
  · obtain rfl := Host.Outcome.next.inj e
    unfold idleWork whileReleased
    split
    · exact .inl rfl
    · exact .inr (.inl rfl)
  next c rest _ => exact .inr (.inr ⟨c, rest, exec_effect e⟩)

end Sys2Proof.Proofs
end

section
/-! SUPPORT. Every step keeps positive torque withheld where R61 withholds it (O48). -/

namespace Sys2Proof.Proofs

open Sys2Proof.Machine Sys2Proof.Safety Sys2Proof.Claims

/-! ### Positive torque (R56, R61) -/

/-- What R61 asks of mode, payload and brake flags for a positive torque to stand. -/
def drivesFree (s : State) : Prop :=
  s.mode = .drive ∧ payloadBand s.intake < 7 ∧
  (demandInForce s.intake).park = false ∧ (demandInForce s.intake).service = false

/-- A positive torque stands at level NONE alone, and only where `A` holds. -/
def positiveNeeds (A : Prop) (s : State) : Prop := ∀ w, 0 < s.engine.grant.torque.get w → s.trips.level = .none ∧ A

theorem propelSound_iff (s : State) : propelSound s ↔ positiveNeeds (drivesFree s) s := Iff.rfl

/-- No raise lets a positive torque stand: class D zeroes it, a rise from NONE withdraws it, and above NONE there is none. -/
theorem positiveNeeds_kept (A : Prop) : KeptByRaises (positiveNeeds A) where
  same s t htrips htorque _ h w := by
    rw [htorque, htrips]
    exact h w
  withdraw s h w hw := by
    have hle : (withdrawPositive s).engine.grant.torque.get w ≤ 0 := by simp [withdrawPositive_engine]
    omega
  raise c d s h := by
    cases hc : s.trips.latched.get c with
    | true =>
      rw [raiseTrip_latched hc]
      exact h
    | false =>
      intro w hw
      have hengine : (raiseTrip c d s).engine = (tellEngineOfLatch c s.trips.level s).engine := by
        rw [raiseTrip_unlatched hc]
      rw [hengine, tellEngineOfLatch_engine] at hw
      simp only [onlyTorque] at hw
      split_ifs at hw with hclass hnone
      · cases w <;> simp [Both.get] at hw
      · rw [← withoutPositive_eq, withoutPositive_get] at hw
        omega
      · exact absurd (h w hw).1 hnone

/-- An operation keeps R61 where it lets no positive torque stand and leaves what R61 asks for. -/
theorem propelSound_of {s t : State} (hs : propelSound s) (hkept : ∀ A, positiveNeeds A s → positiveNeeds A t)
    (hfree : drivesFree s → drivesFree t) : propelSound t := fun w hw =>
  have h := hkept _ ((propelSound_iff s).mp hs) w hw
  ⟨h.1, hfree h.2⟩

/-- R61 reads torques, level, mode, and of the INTAKE UNIT the payload and the demand. -/
theorem propelSound_congr {s t : State} (htorque : t.engine.grant.torque = s.engine.grant.torque)
    (hlevel : t.trips.level = s.trips.level) (hmode : t.mode = s.mode) (hpayload : t.intake.payload = s.intake.payload)
    (hdemand : demandInForce t.intake = demandInForce s.intake) (h : propelSound s) : propelSound t := by
  unfold propelSound payloadBand at *
  simpa only [htorque, hlevel, hmode, hpayload, hdemand] using h

/-- Where no torque is positive R61 asks for nothing. -/
theorem propelSound_withheld {s : State} (h : ∀ w, s.engine.grant.torque.get w ≤ 0) : propelSound s :=
  fun w hw => absurd hw (not_lt.mpr (h w))

theorem propelSound_withdrawn (s : State) : propelSound (withdrawPositive s) :=
  propelSound_withheld fun w => by simp [withdrawPositive_engine]

/-- The flags of the demand in force are those of what it stands on. -/
theorem demandInForce_congr {i j : Intake} (hdemand : j.demand = i.demand) (hfallback : j.fallback = i.fallback) :
    demandInForce j = demandInForce i := by rw [demandInForce, demandInForce, hdemand, hfallback]

theorem payloadBand_le (i : Intake) : payloadBand i ≤ 7 := List.length_filter_le _ _

/-! ### Mode, payload and brake flags change (R30, R31, R61, R133) -/

/-- A change of mode withdraws positive torque where it leaves DRIVE (R61, R133). -/
theorem changeMode_torque (m : Mode) (s : State) : (changeMode m s).engine.grant.torque =
    if s.mode = .drive ∧ m ≠ .drive then withoutPositive s.engine.grant.torque else s.engine.grant.torque := by
  unfold changeMode
  by_cases hm : s.mode = m
  · subst hm
    simp
  · rw [if_neg hm]
    dsimp only
    by_cases hdrive : s.mode = .drive
    · have hleaves : m ≠ .drive := fun h => hm (hdrive.trans h.symm)
      simp only [hdrive, hleaves, ne_eq, not_false_eq_true, and_self, if_true]
      split <;> simp [withdrawPositive_engine]
    · simp only [hdrive, false_and, if_false]
      split <;> simp

/-- In a mode that is not DRIVE no torque is positive, so that only leaving it matters. -/
theorem changeMode_propel (m : Mode) {s : State} (h : propelSound s) : propelSound (changeMode m s) := by
  intro w hw
  rw [changeMode_torque] at hw
  split_ifs at hw with hleaves
  · rw [withoutPositive_get] at hw
    omega
  · obtain ⟨hlevel, hdrive, hband, hpark, hservice⟩ := h w hw
    simp only [changeMode_frame, changeMode_mode]
    exact ⟨hlevel, not_not.mp fun hm => hleaves ⟨hdrive, hm⟩, hband, hpark, hservice⟩

/-- A payload latched in band 7 withdraws positive torque (R31, R61). -/
theorem settlePayload_propel {s : State} (h : propelSound s) : propelSound (settlePayload s) := by
  unfold settlePayload latchPayload
  split
  · split
    · exact h
    · dsimp only
      split
      · exact propelSound_withdrawn _
      next hband =>
        intro w hw
        obtain ⟨hlevel, hdrive, -, hpark, hservice⟩ := h w (by simpa using hw)
        simp only [overloadHold, decide_eq_true_eq] at hband
        exact ⟨by simpa using hlevel, by simpa using hdrive, (payloadBand_le _).lt_of_ne hband,
          by simpa [demandInForce] using hpark, by simpa [demandInForce] using hservice⟩
  · exact h

/-- A brake flag in force withdraws positive torque (R61). -/
theorem withdrawOnBrake_propel {s : State}
    (h : ∀ w, 0 < s.engine.grant.torque.get w → s.trips.level = .none ∧ s.mode = .drive ∧ payloadBand s.intake < 7) :
    propelSound (withdrawOnBrake s) := by
  unfold withdrawOnBrake
  split
  · exact propelSound_withdrawn s
  next hbrake =>
    intro w hw
    obtain ⟨hlevel, hdrive, hband⟩ := h w hw
    simp only [brakeSet, Bool.or_eq_true, not_or, Bool.not_eq_true] at hbrake
    exact ⟨hlevel, hdrive, hband, hbrake⟩

/-- An accepted DEMAND: its brake flags are judged before anything else moves (R26, R61). -/
theorem acceptDemand_propel (d : DemandRecord) {s : State} (h : propelSound s) : propelSound (acceptDemand d s) := by
  have hrecord := withdrawOnBrake_propel
    (s := formReserve (markPresent .chassisLinkLost false (s.withIntake (intakeWithDemand s.store.image d s.intake))))
    fun w hw => by
      obtain ⟨hlevel, hdrive, hband, -⟩ := h w (by simpa using hw)
      exact ⟨hlevel, hdrive, hband⟩
  have hjudged {u : State} (hu : propelSound u) : propelSound (judgeDirection d.direction u) := by
    have hset (held : Direction) (flag : Bool) :
        propelSound (u.withIntake { u.intake with direction := held, directionHeld := flag }) := hu
    unfold judgeDirection
    split_ifs
    · exact hset u.intake.direction false
    · exact changeMode_propel _ (propelSound_congr (by simp) (by simp) (by simp) (by simp) (by simp) (hset d.direction false))
    · exact hset u.intake.direction true
  exact changeMode_propel _ (settlePayload_propel (hjudged hrecord))

/-! ### The interval expiry (R36, R142) -/

/-- The FALLBACK DEMAND stands exactly while L2 is STALE (R35, R36, R38). -/
def fallbackWhileStale (i : Intake) : Prop := i.l2 = .stale ↔ i.fallback.isSome = true

/-- The demand in force keeps its flags where the FALLBACK DEMAND is formed from the DEMAND RECORD, and where it is lowered
(R36, R37). -/
theorem countL2_flags {s : State} (h : fallbackWhileStale s.intake) :
    (demandInForce (countL2 s).intake).park = (demandInForce s.intake).park ∧
    (demandInForce (countL2 s).intake).service = (demandInForce s.intake).service := by
  rw [countL2_intake]
  unfold fallbackWhileStale at h
  match hl2 : s.intake.l2 with
  | .never => simp
  | .fresh =>
    have hnone : s.intake.fallback = none := by simpa [hl2] using h
    simp only [if_true]
    split <;> simp [demandInForce, hnone, inForceOfFallback, inForceOfDemand, formFallback]
  | .stale =>
    obtain ⟨f, hf⟩ := Option.isSome_iff_exists.mp (h.mp hl2)
    simp [demandInForce, hf, inForceOfFallback, lowered]

theorem countL1_propel {s : State} (h : propelSound s) : propelSound (countL1 s) :=
  propelSound_of h (fun A => (positiveNeeds_kept A).countL1 s) fun hfree => by
    simpa [drivesFree, payloadBand, demandInForce] using hfree

theorem countL2_propel {s : State} (hlink : fallbackWhileStale s.intake) (h : propelSound s) : propelSound (countL2 s) :=
  propelSound_of h (fun A => (positiveNeeds_kept A).countL2 s) fun hfree => by
    obtain ⟨hpark, hservice⟩ := countL2_flags hlink
    simpa [drivesFree, payloadBand, hpark, hservice] using hfree

/-- Where an operation leaves mode, payload and demand alone, only its raises matter. -/
theorem raises_propel {f : State → State} (hkept : ∀ A, Keeps (positiveNeeds A) f) {s : State}
    (hmode : (f s).mode = s.mode) (hpayload : (f s).intake.payload = s.intake.payload)
    (hdemand : demandInForce (f s).intake = demandInForce s.intake) (h : propelSound s) : propelSound (f s) :=
  propelSound_of h (fun A => hkept A s) fun hfree => by
    unfold drivesFree payloadBand at *
    simpa only [hmode, hpayload, hdemand] using hfree

theorem expireInterval_propel {s : State} (hlink : fallbackWhileStale s.intake) (h : propelSound s) :
    propelSound (expireInterval s) := by
  have hstamp : propelSound (s.withStamp (s.stamp + 1)) := h
  have hlink' : fallbackWhileStale (countL1 (s.withStamp (s.stamp + 1))).intake := by
    simpa [fallbackWhileStale] using hlink
  have hcounted : propelSound (countStandstill (countL2 (countL1 (s.withStamp (s.stamp + 1))))) :=
    countL2_propel hlink' (countL1_propel hstamp)
  exact raises_propel (fun A s hs => (positiveNeeds_kept A).storeAtExpiry _ ((positiveNeeds_kept A).plannerAtExpiry _
    ((positiveNeeds_kept A).steeringAtExpiry _ ((positiveNeeds_kept A).thermalAtExpiry s hs)))) (by simp) (by simp)
    (by simp) (settlePayload_propel hcounted)

/-! ### The pass (R56) -/

/-- The gate at completion lets a positive torque through only where R61 allows it. -/
theorem gateTorque_positive {s : State} {torque : Both Int} {w : Wheel} (h : 0 < (gateTorque s torque).get w) :
    s.trips.level = .none ∧ drivesFree s := by
  have hband := payloadBand_le s.intake
  unfold gateTorque at h
  split_ifs at h with hzero hnegative
  · cases w <;> simp [Both.get] at h
  · rw [withoutPositive_get] at h
    omega
  · simp only [not_or, brakeSet, Bool.or_eq_true, Bool.not_eq_true] at hzero hnegative
    obtain ⟨hlevelD, hstartup, hparked⟩ := hzero
    obtain ⟨hlevelP, hready, hoverload, hpark, hservice⟩ := hnegative
    refine ⟨?_, ?_, by omega, hpark, hservice⟩
    · cases hlevel : s.trips.level <;> simp_all
    · cases hmode : s.mode <;> simp_all

/-- What a completion hands on leaves the GRANT RECORD, the mode, the trips and the INTAKE UNIT alone (R58). -/
theorem handOn_grant (b : Bool) (s : State) : (handOn b s).engine.grant = s.engine.grant ∧ (handOn b s).mode = s.mode ∧
    (handOn b s).trips = s.trips ∧ (handOn b s).intake = s.intake := by
  unfold handOn
  dsimp only
  split
  · simp
  · rw [replyOfPass_eq]
    simp

theorem completePass_propel (b : Bool) {s : State} (h : propelSound s) : propelSound (completePass b s) := by
  unfold completePass
  split
  next work _ =>
    obtain ⟨hgrant, hmode, htrips, hintake⟩ := handOn_grant b (writeGrant work s)
    refine propelSound_congr (s := writeGrant work s) (by rw [hgrant]) (by rw [htrips]) hmode (by rw [hintake])
      (by rw [hintake]) fun w hw => ?_
    exact gateTorque_positive (s := s) hw
  next => exact h

theorem runStages_propel {s : State} (h : propelSound s) : propelSound (runStages s) :=
  propelSound_congr (by simp) (by simp) (by simp) (by simp) (by simp) h

theorem engineAtMeasure_propel (payload : List Byte) {s : State} (h : propelSound s) :
    propelSound (engineAtMeasure payload s).1 := by
  unfold engineAtMeasure
  split_ifs
  · exact h
  · exact propelSound_congr (by simp) (by simp) (by simp) (by simp) (by simp) h
  · exact h

/-! ### Commands and steps -/

theorem Aside.propel {s t : State} (e : Aside s t) (h : propelSound s) : propelSound t :=
  propelSound_congr (by rw [e.engine]) e.level e.mode (by rw [e.intake]) (by rw [e.intake]) h

@[simp] theorem marksKept_get (s : State) (c : TripCode) :
    (marksKept s).get c = (s.trips.latched.get c && !conditionGone s c) := by
  cases c <;> rfl

/-- At level NONE no code is latched, so that a TRIP_CLEAR leaves the level NONE (R135, R145). -/
theorem clearTrips_propel {s : State} (hlevel : levelSound s.trips) (h : propelSound s) : propelSound (clearTrips s) := by
  intro w hw
  obtain ⟨hnone, hfree⟩ := h w hw
  have hunlatched := hlevel.2.mp hnone
  exact ⟨(levelOf_eq_none (marksKept s)).mpr fun c => by simp [hunlatched], hfree⟩

/-- Every command keeps R61. -/
theorem effect_propel {c : Instr} {s t : State} (hlink : fallbackWhileStale s.intake) (hlevel : levelSound s.trips)
    (h : propelSound s) (e : Effect s c t) : propelSound t := by
  cases e with
  | aside haside => exact haside.propel h
  | coldReset n => exact propelSound_withheld (by rintro ⟨⟩ <;> exact Int.le_refl 0)
  | released => exact propelSound_congr (by simp) (by simp) (by simp) (by simp) (by simp) h
  | validated r =>
    exact changeMode_propel _ (propelSound_congr (by simp) (by simp) (by simp) (by simp) (by simp) h)
  | restarted => exact propelSound_withheld (by rintro ⟨⟩ <;> exact Int.le_refl 0)
  | expired => exact expireInterval_propel hlink h
  | l1Stale => exact propelSound_congr rfl rfl rfl rfl rfl (countL1_propel h)
  | l2Stale => exact countL2_propel hlink h
  | grace =>
    exact raises_propel (fun A => (positiveNeeds_kept A).stepGrace) (by simp) (by simp)
      (demandInForce_congr (by simp) (by simp)) h
  | holdExpired w => exact propelSound_congr rfl rfl rfl rfl rfl h
  | boostCounted w => exact propelSound_congr rfl rfl rfl rfl rfl h
  | pressure => exact raises_propel (fun A => (positiveNeeds_kept A).steeringAtExpiry) (by simp) (by simp) (by simp) h
  | shortfall => exact raises_propel (fun A => (positiveNeeds_kept A).stepShortfall) (by simp) (by simp) (by simp) h
  | measured payload r _ =>
    have hheard := (heard_aside .l1 s).propel h
    have htaken : propelSound (takeMeasure (measureOf payload) (heard .l1 s)) :=
      raises_propel (fun A => (positiveNeeds_kept A).takeMeasure _) (by simp [takeMeasure])
        (by rw [takeMeasure_intake]; rfl) (by rw [takeMeasure_intake]; rfl) hheard
    exact (setReceive_aside .l1 r _).propel (engineAtMeasure_propel payload htaken)
  | completed b => exact completePass_propel b (runStages_propel h)
  | demanded payload r =>
    exact (setReceive_aside .l2 r _).propel (acceptDemand_propel _ ((heard_aside .l2 s).propel h))
  | cleared payload r =>
    exact (setReceive_aside .l2 r _).propel (clearTrips_propel hlevel ((heard_aside .l2 s).propel h))
  | access payload level haside => exact haside.propel h
  | verified found st _ => exact propelSound_congr (by simp) (by simp) (by simp) (by simp) (by simp) h

/-- Settles O48, effect by effect. -/
theorem stepKeepsPropelWithheld : Obligations.StepKeepsPropelWithheld := by
  intro s t h hline hintake e
  obtain ⟨hlevel, -⟩ := hline
  obtain ⟨-, -, -, -, -, -, hlink, -⟩ := hintake
  rcases step_effect e with rfl | rfl | ⟨c, rest, heffect⟩
  · exact h
  · exact runStages_propel (propelSound_congr (by simp) (by simp) (by simp) (by simp) (by simp) h)
  · exact effect_propel (s := s.withPending rest) hlink hlevel h heffect

end Sys2Proof.Proofs
end

section
/-! SUPPORT. What a command does to the GRANT RECORD, said once for every command; every step keeps each torque within its limit
(O52). -/

namespace Sys2Proof.Proofs

open Sys2Proof.Machine Sys2Proof.Safety Sys2Proof.Claims

/-! ### Torques lowered (R56, R57, R61) -/

/-- The granted torques lie within the limits given, of the regime given. -/
def grantWithin (regime : Regime) (pl rl : Both Nat) (s : State) : Prop :=
  ∀ w, withinLimit regime (pl.get w) (rl.get w) (s.engine.grant.torque.get w)

/-- No torque is within every limit. -/
theorem withinLimit_zero (regime : Regime) (pl rl : Nat) : withinLimit regime pl rl 0 := by
  cases regime <;> simp [withinLimit]

/-- A torque stays within its limit without its positive part. -/
theorem withinLimit_withoutPositive {regime : Regime} {pl rl : Nat} {x : Int} (h : withinLimit regime pl rl x) :
    withinLimit regime pl rl (min x 0) := by
  cases regime <;> simp only [withinLimit] at * <;> omega

theorem grantWithin_kept (regime : Regime) (pl rl : Both Nat) : KeptByRaises (grantWithin regime pl rl) where
  same s t _ htorque _ h w := by
    rw [htorque]
    exact h w
  withdraw s h w := by
    have hw := withinLimit_withoutPositive (h w)
    rwa [← withoutPositive_get] at hw
  raise c d s h := by
    cases hc : s.trips.latched.get c with
    | true =>
      rw [raiseTrip_latched hc]
      exact h
    | false =>
      intro w
      have hengine : (raiseTrip c d s).engine = (tellEngineOfLatch c s.trips.level s).engine := by
        rw [raiseTrip_unlatched hc]
      rw [hengine, tellEngineOfLatch_engine]
      simp only [onlyTorque]
      split_ifs
      · have hzero : (⟨0, 0⟩ : Both Int).get w = 0 := by cases w <;> rfl
        rw [hzero]
        exact withinLimit_zero _ _ _
      · have hw := withinLimit_withoutPositive (h w)
        rwa [← withoutPositive_get, withoutPositive_eq] at hw
      · exact h w

/-- A change of mode withdraws positive torque or leaves it (R133). -/
theorem changeMode_within (regime : Regime) (pl rl : Both Nat) (m : Mode) : Keeps (grantWithin regime pl rl) (changeMode m) := by
  intro s h w
  rw [changeMode_torque]
  split_ifs
  · rw [withoutPositive_get]
    exact withinLimit_withoutPositive (h w)
  · exact h w

theorem expireInterval_within (regime : Regime) (pl rl : Both Nat) : Keeps (grantWithin regime pl rl) expireInterval := by
  intro s h
  have hk := grantWithin_kept regime pl rl
  exact hk.storeAtExpiry _ (hk.plannerAtExpiry _ (hk.steeringAtExpiry _ (hk.thermalAtExpiry _ (hk.settlePayload _
    (hk.countStandstill _ (hk.countL2 _ (hk.countL1 _ (hk.same s _ rfl rfl rfl h))))))))

theorem acceptDemand_within (regime : Regime) (pl rl : Both Nat) (d : DemandRecord) :
    Keeps (grantWithin regime pl rl) (acceptDemand d) := by
  intro s h
  have hk := grantWithin_kept regime pl rl
  have hmode (m : Mode) := changeMode_within regime pl rl m
  have hbrake : Keeps (grantWithin regime pl rl) withdrawOnBrake := fun u hu => by
    unfold withdrawOnBrake
    split
    · exact hk.withdraw u hu
    · exact hu
  have hjudged : Keeps (grantWithin regime pl rl) (judgeDirection d.direction) := fun u hu => by
    unfold judgeDirection
    split_ifs
    · exact hu
    · exact hmode _ _ (hk.same u _ (by simp) (by simp) (by simp) hu)
    · exact hu
  exact hmode _ _ (hk.settlePayload _ (hjudged _ (hbrake _ (hk.same s _ (by simp) (by simp) (by simp) h))))

/-! ### What stands of the GRANT RECORD -/

/-- From `s` to `t` the GRANT RECORD keeps its limits, its torques at most lowered towards 0, and the pass stands. -/
structure GrantStands (s t : State) : Prop where
  torque : ∀ regime pl rl, grantWithin regime pl rl s → grantWithin regime pl rl t
  regime : t.engine.grant.regime = s.engine.grant.regime
  propelLimit : t.engine.grant.propelLimit = s.engine.grant.propelLimit
  retardLimit : t.engine.grant.retardLimit = s.engine.grant.retardLimit
  speedLimit : t.engine.grant.speedLimit = s.engine.grant.speedLimit
  inForce : t.engine.speedLimit = s.engine.speedLimit
  pass : t.engine.pass = s.engine.pass

theorem GrantStands.of_engine {s t : State} (h : t.engine = s.engine) : GrantStands s t := by
  refine ⟨fun regime pl rl hs => ?_, by rw [h], by rw [h], by rw [h], by rw [h], by rw [h], by rw [h]⟩
  unfold grantWithin at *
  rwa [h]

/-- What keeps the torques within any limits and leaves the rest of the record lets it stand. -/
theorem GrantStands.of_kept {f : State → State} {s : State} (hkept : ∀ regime pl rl, Keeps (grantWithin regime pl rl) f)
    (hframe : (f s).engine.grant.regime = s.engine.grant.regime ∧
      (f s).engine.grant.propelLimit = s.engine.grant.propelLimit ∧
      (f s).engine.grant.retardLimit = s.engine.grant.retardLimit ∧
      (f s).engine.grant.speedLimit = s.engine.grant.speedLimit ∧
      (f s).engine.speedLimit = s.engine.speedLimit ∧ (f s).engine.pass = s.engine.pass) : GrantStands s (f s) := by
  obtain ⟨hregime, hpropel, hretard, hspeed, hforce, hpass⟩ := hframe
  exact ⟨fun regime pl rl => hkept regime pl rl s, hregime, hpropel, hretard, hspeed, hforce, hpass⟩

theorem GrantStands.trans {s t u : State} (e : GrantStands s t) (f : GrantStands t u) : GrantStands s u where
  torque regime pl rl h := f.torque regime pl rl (e.torque regime pl rl h)
  regime := f.regime.trans e.regime
  propelLimit := f.propelLimit.trans e.propelLimit
  retardLimit := f.retardLimit.trans e.retardLimit
  speedLimit := f.speedLimit.trans e.speedLimit
  inForce := f.inForce.trans e.inForce
  pass := f.pass.trans e.pass

theorem changeMode_stands (m : Mode) (s : State) : GrantStands s (changeMode m s) :=
  .of_kept (fun regime pl rl => changeMode_within regime pl rl m) (by simp)

theorem expireInterval_stands (s : State) : GrantStands s (expireInterval s) :=
  .of_kept expireInterval_within (by simp [expireInterval])

theorem acceptDemand_stands (d : DemandRecord) (s : State) : GrantStands s (acceptDemand d s) :=
  .of_kept (fun regime pl rl => acceptDemand_within regime pl rl d) (by simp)

theorem takeMeasure_stands (m : MeasurementRecord) (s : State) : GrantStands s (takeMeasure m s) :=
  .of_kept (fun regime pl rl => (grantWithin_kept regime pl rl).takeMeasure m) (by
    rw [takeMeasure_engine]
    simp [onlyTorque])

/-- The GRANT RECORD stands, unless a reset forms it, a MEASURE may start a pass or a completion writes it. -/
theorem effect_grant {c : Instr} {s t : State} (e : Effect s c t) :
    GrantStands s t ∨ t.engine = .afterReset ∨
    (∃ payload r, payload.length = 23 ∧
      t = setReceive .l1 r (engineAtMeasure payload (takeMeasure (measureOf payload) (heard .l1 s))).1) ∨
    ∃ b, t = completePass b (runStages s) := by
  cases e with
  | aside haside => exact .inl (.of_engine haside.engine)
  | coldReset n => exact .inr (.inl rfl)
  | released => exact .inl (.of_engine (by simp))
  | validated r => exact .inl ((GrantStands.of_engine (by simp)).trans (changeMode_stands .parked _))
  | restarted => exact .inr (.inl rfl)
  | expired => exact .inl (expireInterval_stands s)
  | l1Stale =>
    exact .inl (.of_kept (f := fun s => countStandstill (countL1 s)) (fun regime pl rl s h =>
      (grantWithin_kept regime pl rl).countStandstill _ ((grantWithin_kept regime pl rl).countL1 s h)) (by simp))
  | l2Stale => exact .inl (.of_kept (fun regime pl rl => (grantWithin_kept regime pl rl).countL2) (by simp))
  | grace => exact .inl (.of_kept (fun regime pl rl => (grantWithin_kept regime pl rl).stepGrace) (by simp))
  | holdExpired w => exact .inl (.of_engine rfl)
  | boostCounted w => exact .inl (.of_engine rfl)
  | pressure => exact .inl (.of_kept (fun regime pl rl => (grantWithin_kept regime pl rl).steeringAtExpiry) (by simp))
  | shortfall => exact .inl (.of_kept (fun regime pl rl => (grantWithin_kept regime pl rl).stepShortfall) (by simp))
  | measured payload r hlength => exact .inr (.inr (.inl ⟨payload, r, hlength, rfl⟩))
  | completed b => exact .inr (.inr (.inr ⟨b, rfl⟩))
  | demanded payload r =>
    exact .inl ((GrantStands.of_engine (heard_aside .l2 s).engine).trans
      ((acceptDemand_stands (demandOf payload) _).trans (.of_engine (setReceive_aside .l2 r _).engine)))
  | cleared payload r => exact .inl (.of_engine (by simp [clearTrips, heard]))
  | access payload level haside => exact .inl (.of_engine haside.engine)
  | verified found st _ => exact .inl (.of_engine (by simp))

/-- A MEASURE starts a pass or leaves the ALLOCATION ENGINE (R44, R62, R63). -/
theorem engineAtMeasure_engine (payload : List Byte) (s : State) :
    (engineAtMeasure payload s).1.engine = s.engine ∨ (engineAtMeasure payload s).1 = startPass s := by
  unfold engineAtMeasure
  split_ifs
  · exact .inl rfl
  · exact .inr rfl
  · exact .inl rfl

/-! ### The torques of a pass within their limits (R52, R55, R72, R81) -/

/-- The largest magnitude that the regime allows a wheel (R52). -/
def largestMagnitude (regime : Regime) (pl rl : Nat) : Nat :=
  match regime with
  | .coast => 0
  | .propel => pl
  | .retard => rl

theorem clampToLimits_le (regime : Regime) (pl rl torque : Both Nat) (w : Wheel) :
    (clampToLimits regime pl rl torque).get w ≤ largestMagnitude regime (pl.get w) (rl.get w) := by
  cases regime with
  | coast => cases w <;> exact Nat.le_refl 0
  | propel => exact (Both.get_of _ w).trans_le (min_le_right _ _)
  | retard => exact (Both.get_of _ w).trans_le (min_le_right _ _)

/-- A magnitude that fits, signed and limited in growth, is within the limit of its sign (R55, R57). -/
theorem rateLimited_within {regime : Regime} {pl rl magnitude : Nat} (rate : Nat) (previous : Int)
    (h : magnitude ≤ largestMagnitude regime pl rl) :
    withinLimit regime pl rl (rateLimited rate previous (targetOf regime magnitude)) := by
  obtain ⟨hpos, hneg⟩ := rateLimited_bounds rate previous (targetOf regime magnitude)
  cases regime <;> simp only [withinLimit, targetOf, largestMagnitude] at * <;> omega

/-- A factor of at most 1000 does not raise a torque (R72). -/
theorem scaleByFactor_le (torque : Nat) {tf : Nat} (h : tf ≤ 1000) : scaleByFactor torque tf ≤ torque :=
  Nat.div_le_of_le_mul (by rw [mul_comm 1000]; exact Nat.mul_le_mul_left _ h)

/-- The budget does not raise a torque (R81). -/
theorem budgetedTorque_le (n : Snapshot) (entered : Both Bool) (w : Wheel) :
    (budgetedTorque n entered).1.get w ≤ (grippedTorque n entered).get w := by
  obtain ⟨hfinal, -⟩ := budgetedTorque_get n entered w
  rw [hfinal]
  split_ifs with hscaled
  · exact Nat.div_le_of_le_mul (by rw [mul_comm]; exact Nat.mul_le_mul_right _ hscaled.2.le)
  · exact le_refl _

/-- A torque of a pass lies within the limit of its sign of the same pass, where its factors are in range (R57). -/
theorem computePass_within {n : Snapshot} (entered : Both Bool) (h : ∀ w, 250 ≤ n.tf.get w ∧ n.tf.get w ≤ 1000)
    (w : Wheel) : withinLimit (computePass n entered).regime ((computePass n entered).propelLimit.get w)
      ((computePass n entered).retardLimit.get w) ((computePass n entered).torque.get w) := by
  have hfactor : (newFactors n (computePass n entered).regime).get w ≤ 1000 := by
    rw [newFactors, Both.get_of]
    exact (nextFactor_bounds _ _ _ (h w)).2
  have hgripped : (grippedTorque n entered).get w ≤ (clampToLimits _ _ _ _).get w :=
    (Both.get_of _ w).trans_le (scaleByFactor_le _ hfactor)
  rw [computePass_torque]
  exact rateLimited_within _ _ ((budgetedTorque_le n entered w).trans (hgripped.trans (clampToLimits_le _ _ _ _ w)))

/-! ### Every step -/

theorem GrantStands.sound {s t : State} (e : GrantStands s t) (h : grantSound s.engine) : grantSound t.engine := by
  obtain ⟨hgrant, hpass⟩ := h
  refine ⟨?_, e.pass ▸ hpass⟩
  rw [e.regime, e.propelLimit, e.retardLimit]
  exact e.torque _ _ _ hgrant

/-- A pass that starts has formed no torque (R45). -/
theorem startPass_within {s : State} (h : grantSound s.engine) : grantSound (startPass s).engine := by
  unfold startPass
  split
  · exact h
  · exact ⟨h.1, by simp⟩

/-- Stages 1 to 8 leave the GRANT RECORD, and form torques within the limits formed. -/
theorem runStages_within {s : State} (hcopied : copiedFactorsSound s.engine) (h : grantSound s.engine) :
    grantSound (runStages s).engine := by
  unfold runStages
  split
  next n hn =>
    rw [computeStages_eq]
    refine ⟨h.1, fun p hp w => ?_⟩
    obtain rfl := Pass.computed.inj (Option.some.inj hp)
    exact computePass_within _ (hcopied n hn) w
  next => exact h

/-- The gate lowers torques towards 0 alone (R56). -/
theorem gateTorque_within {regime : Regime} {pl rl : Nat} {torque : Both Int} (s : State) {w : Wheel}
    (h : withinLimit regime pl rl (torque.get w)) : withinLimit regime pl rl ((gateTorque s torque).get w) := by
  unfold gateTorque
  split_ifs
  · cases w <;> exact withinLimit_zero _ _ _
  · rw [withoutPositive_get]
    exact withinLimit_withoutPositive h
  · exact h

theorem writeGrant_within {s : State} {work : PassWork}
    (h : ∀ w, withinLimit work.regime (work.propelLimit.get w) (work.retardLimit.get w) (work.torque.get w)) :
    grantSound (writeGrant work s).engine :=
  ⟨fun w => gateTorque_within s (h w), by simp [writeGrant]⟩

/-- What a completion hands on leaves the ALLOCATION ENGINE or starts the held pass (R58). -/
theorem handOn_within (b : Bool) {s : State} (h : grantSound s.engine) : grantSound (handOn b s).engine := by
  unfold handOn
  dsimp only
  split
  · exact startPass_within (by simpa using h)
  · rw [replyOfPass_eq]
    simpa using h

theorem completePass_within (b : Bool) {s : State} (h : grantSound s.engine) : grantSound (completePass b s).engine := by
  unfold completePass
  split
  next work hwork => exact handOn_within b (writeGrant_within (h.2 work hwork))
  next => exact h

/-- Every command keeps the torques within their limits. -/
theorem effect_within {c : Instr} {s t : State} (hcopied : copiedFactorsSound s.engine) (h : grantSound s.engine)
    (e : Effect s c t) : grantSound t.engine := by
  rcases effect_grant e with hstands | hreset | ⟨payload, r, -, rfl⟩ | ⟨b, rfl⟩
  · exact hstands.sound h
  · rw [hreset]
    exact ⟨by rintro ⟨⟩ <;> rfl, by simp [Engine.afterReset]⟩
  · have htaken := (takeMeasure_stands (measureOf payload) (heard .l1 s)).sound
      ((GrantStands.of_engine (heard_aside .l1 s).engine).sound h)
    rw [(setReceive_aside .l1 r _).engine]
    rcases engineAtMeasure_engine payload (takeMeasure (measureOf payload) (heard .l1 s)) with e | e <;> rw [e]
    · exact htaken
    · exact startPass_within htaken
  · exact completePass_within b (runStages_within hcopied h)

/-- Settles O52, effect by effect. -/
theorem stepKeepsTorquesWithinLimits : Obligations.StepKeepsTorquesWithinLimits := by
  intro s t h hcounters e
  obtain ⟨-, -, -, -, -, -, -, -, -, hcopied, -⟩ := hcounters
  rcases step_effect e with rfl | rfl | ⟨c, rest, heffect⟩
  · exact h
  · have hsame := (GrantStands.of_engine (s := s) (t := validateNext s) (by simp)).sound h
    exact runStages_within (by simpa [copiedFactorsSound] using hcopied) hsame
  · exact effect_within (s := s.withPending rest) hcopied h heffect

end Sys2Proof.Proofs
end

section
/-! SUPPORT. Every step keeps derates, limits and speed limits in their ranges (O53). -/

namespace Sys2Proof.Proofs

open Sys2Proof.Machine Sys2Proof.Safety Sys2Proof.Claims

/-! ### Entries of rows in range (R7 to R10) -/

/-- Every row of the image passes its range test. -/
def rangesPass (im : Image) : Prop := ∀ r, r < 23 → rangePasses r (imageRow im r) = true

/-- There is no ninth entry. -/
theorem rowEntry_beyond (row : Row) {e : Nat} (he : 8 ≤ e) : rowEntry row e = 0 := by simp [rowEntry, he]

/-- A derate is 0..1000 (R9). -/
theorem derate_le {im : Image} (h : rangesPass im) {r : Nat} (hr : r = 13 ∨ r = 14) (e : Nat) : param im r e ≤ 1000 := by
  obtain ⟨-, -, hderate, -⟩ := (rangePasses_iff (by omega) _).mp (h r (by omega))
  rcases Nat.lt_or_ge e 8 with he | he
  · exact (hderate hr).1 e he
  · simp [param, rowEntry_beyond _ he]

/-- Md is 0..1000 (R98). -/
theorem mdOf_le {im : Image} (h : rangesPass im) (band : Option Nat) : mdOf im band ≤ 1000 := by
  cases band with
  | none => exact Nat.zero_le _
  | some b => exact derate_le h (.inr rfl) b

/-- An entry of the tables of 32 is 0..1600 (R7, R8). -/
theorem table32_le {im : Image} (h : rangesPass im) {first i : Nat} (hfirst : first ≤ 8) (hi : i ≤ 31) :
    table32 im first i ≤ 1600 := by
  have hr : first + i / 8 < 12 := by omega
  obtain ⟨hlimit, -⟩ := (rangePasses_iff (by omega) _).mp (h (first + i / 8) (by omega))
  exact hlimit hr (i % 8) (Nat.mod_lt _ (by omega))

/-- SPEED_CAP and CORNER_SPEED of a band are 300..7000 (R10). -/
theorem bandSpeed_bounds {im : Image} (h : rangesPass im) {r band : Nat} (hr : r = 15 ∨ r = 16) (hband : band ≤ 7) :
    300 ≤ param im r band ∧ param im r band ≤ 7000 := by
  obtain ⟨-, -, -, hspeed, -⟩ := (rangePasses_iff (by omega) _).mp (h r (by omega))
  exact hspeed hr band (by omega)

/-- LIMP_SPEED is 500..7000 (R11). -/
theorem limpSpeed_bounds {im : Image} (h : rangesPass im) : 500 ≤ limpSpeed im ∧ limpSpeed im ≤ 7000 := by
  obtain ⟨-, -, -, -, -, hprotect, -⟩ := (rangePasses_iff (r := 18) (by omega) _).mp (h 18 (by omega))
  exact hprotect (by omega) 7 500 7000 rfl

/-! ### What a pass forms from a sound snapshot (R47, R49) -/

/-- A figure derated by at most 1000 in 1000 is not raised. -/
theorem derated_le {x bound md : Nat} (hx : x ≤ bound) (hmd : md ≤ 1000) : x * md / 1000 ≤ bound :=
  (scaleByFactor_le x hmd).trans hx

/-- Every source of the speed limit gives 300..7000 (R47). -/
theorem applies_bounds {n : Snapshot} (h : snapshotSound n) {src : LimitSource} {v : Nat} (hv : applies n src v) :
    300 ≤ v ∧ v ≤ 7000 := by
  obtain ⟨-, -, hband, hheadLow, hheadHigh, hsetpoint, hranges⟩ := h
  cases src with
  | none => simp only [applies] at hv; omega
  | plan => simp only [applies] at hv; omega
  | payload =>
    have hcap := bandSpeed_bounds (r := 15) hranges (.inl rfl) hband
    simp only [applies, speedCap] at hv
    omega
  | corner =>
    have hcorner := bandSpeed_bounds (r := 16) hranges (.inr rfl)
      (band := steerBandOf n.demand.steer) (List.length_filter_le _ _)
    simp only [applies, cornerSpeed] at hv
    omega
  | limp =>
    have hlimp := limpSpeed_bounds hranges
    simp only [applies] at hv
    omega
  | fallback => exact hsetpoint v hv.2

/-- The speed limit of a pass is 300..7000, its limits are 0..1600 (R59). -/
theorem computePass_ranges {n : Snapshot} (entered : Both Bool) (h : snapshotSound n) :
    (∀ w, (computePass n entered).propelLimit.get w ≤ 1600 ∧ (computePass n entered).retardLimit.get w ≤ 1600) ∧
    300 ≤ (computePass n entered).speedLimit ∧ (computePass n entered).speedLimit ≤ 7000 := by
  obtain ⟨hmem, -⟩ := smallestSource_spec (limitSources_ne_nil n) (limitSources_ordered n)
  refine ⟨fun w => ?_, applies_bounds h ((mem_limitSources n _ _).mp hmem)⟩
  obtain ⟨hgd, hmd, -, -, -, -, hranges⟩ := h
  have hindex : wheelIndex n w ≤ 31 := speedIndex_le _
  have hpropel : (computePass n entered).propelLimit.get w = propelLimitOf n w _ := Both.get_of _ w
  have hretard : (computePass n entered).retardLimit.get w = retardLimitOf n w := Both.get_of _ w
  rw [hpropel, hretard]
  refine ⟨derated_le ?_ (hmd w), derated_le (derated_le ?_ ?_) (hmd w)⟩
  · split
    · exact table32_le hranges (by omega) hindex
    · exact table32_le hranges (by omega) hindex
  · unfold clampInt
    omega
  · split
    · exact hgd
    · exact Nat.zero_le _

/-! ### Derates and head speed (R92, R98, R123) -/

/-- The rows pass, the derates are in range, and so is the head effective speed. -/
structure RatesSound (s : State) : Prop where
  ranges : rangesPass s.store.image
  gd : s.thermal.gd ≤ 1000
  md : ∀ w, (s.thermal.motor.get w).md ≤ 1000
  head : ∀ h, s.planner.head = some h → 300 ≤ h.speed ∧ h.speed ≤ 7000

theorem RatesSound.congr {s t : State} (himage : t.store.image = s.store.image) (hthermal : t.thermal = s.thermal)
    (hhead : t.planner.head = s.planner.head) (h : RatesSound s) : RatesSound t :=
  ⟨himage ▸ h.ranges, hthermal ▸ h.gd, hthermal ▸ h.md, hhead ▸ h.head⟩

/-- The head effective speed formed is 300..7000, for any figures (R123). -/
theorem headLimitNow_bounds (s : State) (seg : Segment) :
    300 ≤ (headLimitNow s seg).speed ∧ (headLimitNow s seg).speed ≤ 7000 := by
  have hle : sustainableSpeed s.store.image s.thermal.gd s.intake.payload seg.grade ≤ 7000 := by
    unfold sustainableSpeed
    dsimp only
    split_ifs <;> omega
  simp only [headLimitNow, headLimitOf]
  omega

theorem recomputeHead_rates : Keeps RatesSound recomputeHead := by
  intro s h
  refine ⟨by simpa using h.ranges, by simpa using h.gd, by simpa using h.md, ?_⟩
  unfold recomputeHead
  split
  next seg _ _ _ =>
    intro limit hlimit
    obtain rfl := Option.some.inj hlimit
    exact headLimitNow_bounds s seg
  next => exact h.head

/-- The figures of the grid formed: Gd is an entry of GRID_DERATE (R92). -/
theorem formGrid_rates (g : Grid) : Keeps RatesSound (formGrid g) := by
  intro s h
  have hset : RatesSound (s.withThermal { s.thermal with
      grid := some (formBand g), gd := gridDerate s.store.image (formBand g).band }) :=
    ⟨h.ranges, derate_le h.ranges (.inl rfl) _, h.md, h.head⟩
  unfold formGrid
  dsimp only
  split
  · exact (recomputeHead_rates _ hset).congr (by simp) (by simp) (by simp)
  · exact hset.congr (by simp) (by simp) (by simp)

/-- A motor whose Md is formed in range leaves the rest. -/
theorem onMotor_rates {f : Motor → Motor} {s : State} (w : Wheel) (hf : (f (s.thermal.motor.get w)).md ≤ 1000)
    (h : RatesSound s) : RatesSound (onMotor w f s) := by
  refine ⟨h.ranges, h.gd, fun v => ?_, h.head⟩
  by_cases hv : v = w
  · subst hv
    simpa [onMotor] using hf
  · simpa [onMotor, hv] using h.md v

/-! Handing on a band and counting a BOOST TIMER leave Md (R98, R103). -/

@[simp] theorem handBand_md (im : Image) (m : Motor) : (handBand im m).md = m.md := by
  unfold handBand
  split <;> rfl

@[simp] theorem formMotorBand_md (im : Image) (m : Motor) : (formMotorBand im m).md = mdOf im (motorBandNow m) := rfl

@[simp] theorem countMotorBoost_md (im : Image) (m : Motor) : (countMotorBoost im m).md = m.md := rfl

theorem gridAtExpiry_rates : Keeps RatesSound gridAtExpiry := by
  intro s h
  unfold gridAtExpiry
  split
  · exact h
  · exact formGrid_rates _ s h

theorem thermalAtExpiry_rates : Keeps RatesSound thermalAtExpiry := by
  intro s h
  have hgrid := gridAtExpiry_rates s h
  have hmd (m : Motor) : (motorAtExpiry (gridAtExpiry s).store.image m).md ≤ 1000 := by
    simpa [motorAtExpiry] using mdOf_le hgrid.ranges _
  exact onMotor_rates .right (hmd _) (onMotor_rates .left (hmd _) hgrid)

theorem gridAtMeasure_rates (m : MeasurementRecord) : Keeps RatesSound (gridAtMeasure m) := by
  intro s h
  unfold gridAtMeasure
  split <;> exact formGrid_rates _ s h

theorem wheelAtMeasure_rates (w : Wheel) (m : MeasurementRecord) : Keeps RatesSound (wheelAtMeasure w m) := by
  intro s h
  refine (onMotor_rates (f := motorAtMeasure s.store.image (m.winding.get w) (m.windingValid.get w)) w ?_ h).congr
    (by simp [wheelAtMeasure]) (by simp [wheelAtMeasure]) (by simp [wheelAtMeasure])
  simpa [motorAtMeasure] using mdOf_le h.ranges _

theorem takeMeasure_rates (m : MeasurementRecord) : Keeps RatesSound (takeMeasure m) := by
  intro s h
  have hintake : RatesSound (intakeAtMeasure m s) := h.congr (by simp) (by simp) (by simp)
  exact (wheelAtMeasure_rates .right m _ (wheelAtMeasure_rates .left m _ (gridAtMeasure_rates m _ hintake))).congr
    (by simp [takeMeasure, thermalAtMeasure]) (by simp [takeMeasure, thermalAtMeasure])
    (by simp [takeMeasure, thermalAtMeasure])

theorem settlePayload_rates : Keeps RatesSound settlePayload := by
  intro s h
  have hset (i : Intake) : RatesSound (recomputeHead (s.withIntake i)) :=
    recomputeHead_rates _ (RatesSound.congr (s := s) (t := s.withIntake i) rfl rfl rfl h)
  unfold settlePayload latchPayload
  split
  · split
    · exact h
    · dsimp only
      split
      · exact (hset { s.intake with payload := s.intake.demand.payload }).congr (by simp) (by simp) (by simp)
      · exact hset _
  · exact h

/-- The derates after an expiry are those that the THERMAL MONITOR forms (R142). -/
theorem expireInterval_derates {s : State} (h : RatesSound s) : deratesSound (expireInterval s).thermal := by
  have hintake : RatesSound (intakeAtExpiry (s.withStamp (s.stamp + 1))) :=
    settlePayload_rates _ (h.congr (by simp) (by simp) (by simp))
  have hthermal := thermalAtExpiry_rates _ hintake
  have hsame : (expireInterval s).thermal = (thermalAtExpiry (intakeAtExpiry (s.withStamp (s.stamp + 1)))).thermal := by
    simp [expireInterval]
  rw [hsame]
  exact ⟨hthermal.gd, hthermal.md⟩

/-- An active plan's head effective speed is in range (R123); any other plan has none. -/
theorem planSound_head {p : Planner} (h : planSound p) {limit : HeadLimit} (hlimit : p.head = some limit) :
    300 ≤ limit.speed ∧ limit.speed ≤ 7000 := by
  obtain ⟨-, -, hstate, -⟩ := h
  unfold planStateSound at hstate
  split at hstate
  · simp [hlimit] at hstate
  · simp [hlimit] at hstate
  · obtain ⟨seg, rest, limit', -, -, hhead, hlow, hhigh, -⟩ := hstate
    obtain rfl := Option.some.inj (hlimit.symm.trans hhead)
    exact ⟨hlow, hhigh⟩

theorem ratesSound_of {s : State} (hderates : deratesSound s.thermal) (htables : tablesSound s) (hplan : planSound s.planner) :
    RatesSound s := by
  obtain ⟨-, ⟨hranges, -⟩, -⟩ := htables
  obtain ⟨hgd, hmd⟩ := hderates
  exact ⟨hranges, hgd, hmd, fun _ => planSound_head hplan⟩

/-! ### Passes and completions (R45, R57, R58) -/

/-- The setpoint of a FALLBACK DEMAND, where one stands, is in range (R37). -/
def setpointSound (i : Intake) : Prop := ∀ f, i.fallback = some f → 300 ≤ f.setpoint ∧ f.setpoint ≤ 7000

/-- A pass that starts copies figures in range (R45). -/
theorem takeSnapshot_sound (m : MeasurementRecord) {s : State} (h : RatesSound s) (hsetpoint : setpointSound s.intake) :
    snapshotSound (takeSnapshot m s) := by
  have hhead : 300 ≤ (takeSnapshot m s).headSpeed ∧ (takeSnapshot m s).headSpeed ≤ 7000 := by
    simp only [takeSnapshot]
    cases hlimit : s.planner.head with
    | none => simp
    | some limit => exact h.head limit hlimit
  refine ⟨h.gd, fun w => ?_, payloadBand_le s.intake, hhead.1, hhead.2, fun v hv => ?_, h.ranges⟩
  · simpa [takeSnapshot] using h.md w
  · simp only [takeSnapshot, demandInForce] at hv
    split at hv
    next f hf =>
      obtain rfl := Option.some.inj hv
      exact hsetpoint f hf
    next => simp [inForceOfDemand] at hv

theorem startPass_ranges {s : State} (hrates : RatesSound s) (hsetpoint : setpointSound s.intake)
    (h : grantRanges s.engine) : grantRanges (startPass s).engine := by
  unfold startPass
  split
  · exact h
  next m _ =>
    obtain ⟨hlimits, hlow, hhigh, hlow', hhigh', -, -⟩ := h
    refine ⟨hlimits, hlow, hhigh, hlow', hhigh', by simp, fun n hn => ?_⟩
    obtain rfl := Pass.snapshotTaken.inj (Option.some.inj hn)
    exact takeSnapshot_sound m hrates hsetpoint

theorem runStages_ranges {s : State} (h : grantRanges s.engine) : grantRanges (runStages s).engine := by
  unfold runStages
  split
  next n hn =>
    obtain ⟨hlimits, hlow, hhigh, hlow', hhigh', -, hsnapshot⟩ := h
    rw [computeStages_eq]
    refine ⟨hlimits, hlow, hhigh, hlow', hhigh', fun p hp => ?_, by simp⟩
    obtain rfl := Pass.computed.inj (Option.some.inj hp)
    exact computePass_ranges _ (hsnapshot n hn)
  next => exact h

/-- Entering BOOST leaves the derates (R101). -/
theorem runStages_rates : Keeps RatesSound runStages := by
  intro s h
  unfold runStages
  split
  next n _ =>
    rw [computeStages_eq]
    refine ⟨h.ranges, h.gd, fun w => ?_, h.head⟩
    rw [Both.get_of]
    split
    · exact h.md w
    · exact h.md w
  next => exact h

theorem completePass_ranges (b : Bool) {s : State} (htables : tablesSound s) (hrates : RatesSound s)
    (hsetpoint : setpointSound s.intake) (h : grantRanges s.engine) : grantRanges (completePass b s).engine := by
  unfold completePass
  split
  next work hwork =>
    obtain ⟨-, -, -, -, -, hcomputed, -⟩ := h
    obtain ⟨hlimits, hlow, hhigh⟩ := hcomputed work hwork
    have hwritten : grantRanges (writeGrant work s).engine :=
      ⟨hlimits, hlow, hhigh, hlow, hhigh, by simp [writeGrant], by simp [writeGrant]⟩
    obtain ⟨-, ⟨hranges, -⟩, -⟩ := trySwap_keeps _ (writeGrant_keeps work s htables)
    have hswapped : RatesSound ((trySwap (writeGrant work s)).withHeldMeasure none) :=
      ⟨hranges, by simpa using hrates.gd, by simpa using hrates.md, by simpa using hrates.head⟩
    unfold handOn
    dsimp only
    split
    · exact startPass_ranges hswapped (by simpa [setpointSound] using hsetpoint) (by simpa using hwritten)
    · rw [replyOfPass_eq]
      simpa using hwritten
  next => exact h

/-- A completion leaves the THERMAL MONITOR (R57, R58). -/
theorem completePass_thermal (b : Bool) (s : State) : (completePass b s).thermal = s.thermal := by
  unfold completePass handOn
  split
  · dsimp only
    split
    · simp
    · rw [replyOfPass_eq]
      simp
  · rfl

/-! ### Every step -/

theorem GrantStands.ranges {s t : State} (e : GrantStands s t) (h : grantRanges s.engine) : grantRanges t.engine := by
  unfold grantRanges at *
  rwa [e.propelLimit, e.retardLimit, e.speedLimit, e.inForce, e.pass]

/-- Every command keeps limits and speed limits in range. -/
theorem effect_ranges {c : Instr} {s t : State} (htables : tablesSound s) (hrates : RatesSound s)
    (hsetpoint : setpointSound s.intake) (h : grantRanges s.engine) (e : Effect s c t) : grantRanges t.engine := by
  rcases effect_grant e with hstands | hreset | ⟨payload, r, -, rfl⟩ | ⟨b, rfl⟩
  · exact hstands.ranges h
  · rw [hreset]
    exact ⟨by rintro ⟨⟩ <;> decide, by decide, by decide, by decide, by decide, by simp [Engine.afterReset],
      by simp [Engine.afterReset]⟩
  · have hheard := heard_aside .l1 s
    have htaken := (takeMeasure_stands (measureOf payload) (heard .l1 s)).ranges
      ((GrantStands.of_engine hheard.engine).ranges h)
    rw [(setReceive_aside .l1 r _).engine]
    rcases engineAtMeasure_engine payload (takeMeasure (measureOf payload) (heard .l1 s)) with e | e <;> rw [e]
    · exact htaken
    · have hrates' := hrates.congr (t := heard .l1 s) (by simp [heard]) hheard.thermal (by simp [heard])
      refine startPass_ranges (takeMeasure_rates _ _ hrates') ?_ htaken
      rw [takeMeasure_intake]
      simpa [setpointSound, hheard.intake, intakeWithMeasure] using hsetpoint
  · exact completePass_ranges b (runStages_keeps s htables) (runStages_rates s hrates) (by simpa using hsetpoint)
      (runStages_ranges h)

/-- Every command keeps the derates in range. -/
theorem effect_derates {c : Instr} {s t : State} (h : RatesSound s) (e : Effect s c t) : deratesSound t.thermal := by
  have hderates : deratesSound s.thermal := ⟨h.gd, h.md⟩
  cases e with
  | aside haside => exact haside.thermal ▸ hderates
  | coldReset n => exact ⟨Nat.zero_le _, by rintro ⟨⟩ <;> exact Nat.zero_le _⟩
  | released => exact hderates
  | validated r => simpa [completeValidation] using hderates
  | restarted => exact ⟨h.gd, by rintro ⟨⟩ <;> exact Nat.zero_le _⟩
  | expired => exact expireInterval_derates h
  | l1Stale => simpa using hderates
  | l2Stale => simpa using hderates
  | grace => simpa using hderates
  | holdExpired w =>
    have hmotor := onMotor_rates (s := s) w
      (f := fun m => handBand s.store.image (formMotorBand s.store.image (countHold m))) (by simpa using mdOf_le h.ranges _) h
    exact ⟨hmotor.gd, hmotor.md⟩
  | boostCounted w =>
    have hmotor := onMotor_rates (s := s) w (f := countMotorBoost s.store.image) (by simpa using h.md w) h
    exact ⟨hmotor.gd, hmotor.md⟩
  | pressure => simpa using hderates
  | shortfall => simpa using hderates
  | measured payload r _ =>
    have hheard := heard_aside .l1 s
    have htaken := takeMeasure_rates (measureOf payload) _
      (h.congr (t := heard .l1 s) (by simp [heard]) hheard.thermal (by simp [heard]))
    rw [(setReceive_aside .l1 r _).thermal]
    obtain ⟨body, pass, held, e⟩ := engineAtMeasure_eq payload (takeMeasure (measureOf payload) (heard .l1 s))
    rw [e]
    exact ⟨htaken.gd, htaken.md⟩
  | completed b =>
    have hrun := runStages_rates s h
    have hsame : (completePass b (runStages s)).thermal = (runStages s).thermal := completePass_thermal b _
    rw [hsame]
    exact ⟨hrun.gd, hrun.md⟩
  | demanded payload r => simpa [heard] using hderates
  | cleared payload r => simpa [clearTrips, heard] using hderates
  | access payload level haside => exact haside.thermal ▸ hderates
  | verified found st _ => simpa using hderates

/-- Settles O53, effect by effect. -/
theorem stepKeepsLimitsInRange : Obligations.StepKeepsLimitsInRange := by
  intro s t h hderates htables hplan hintake e
  obtain ⟨-, -, hfallback, -⟩ := hintake
  have hrates := ratesSound_of hderates htables hplan
  have hsetpoint : setpointSound s.intake := fun f hf => by
    obtain ⟨-, -, -, -, hlow, hhigh⟩ := hfallback f hf
    exact ⟨by omega, hhigh⟩
  rcases step_effect e with rfl | rfl | ⟨c, rest, heffect⟩
  · exact ⟨h, hderates⟩
  · have hvalidated : RatesSound (validateNext s) := by
      obtain ⟨-, ⟨hranges, -⟩, -⟩ := validateNext_keeps s htables
      exact ⟨hranges, by simpa using hrates.gd, by simpa using hrates.md, by simpa using hrates.head⟩
    have hrun := runStages_rates _ hvalidated
    exact ⟨runStages_ranges (by simpa using h), hrun.gd, hrun.md⟩
  · have hrates' : RatesSound (s.withPending rest) := RatesSound.congr (s := s) rfl rfl rfl hrates
    exact ⟨effect_ranges (s := s.withPending rest) htables hrates' hsetpoint h heffect, effect_derates hrates' heffect⟩

end Sys2Proof.Proofs
end

section
/-! SUPPORT. What only certain commands change (O46). -/

namespace Sys2Proof.Proofs

open Sys2Proof.Machine Sys2Proof.Safety Sys2Proof.Claims

/-! ### The images a command may leave (R182) -/

/-- From `s` to `t` the WORKING IMAGE stands or a staged row has been installed in PARKED. -/
def imageSwapped (s t : State) : Prop :=
  t.store.image = s.store.image ∨ t.mode = .parked ∧ s.engine.pass = none ∧
    ∃ st, s.store.stage = some st ∧ t.store.image = s.store.image.setIfInBounds st.row ⟨st.entries, .nv⟩

theorem imageSwapped.congr {s t u v : State} (h : imageSwapped u v) (himage : u.store.image = s.store.image)
    (hstage : u.store.stage = s.store.stage) (hpass : u.engine.pass = s.engine.pass)
    (himage' : t.store.image = v.store.image) (hmode : t.mode = v.mode) : imageSwapped s t := by
  unfold imageSwapped at *
  rwa [himage', hmode, ← himage, ← hstage, ← hpass]

/-- A swap installs the staged row, in PARKED with no pass in flight (R182). -/
theorem trySwap_image (s : State) : imageSwapped s (trySwap s) := by
  by_cases hready : s.mode = .parked ∧ s.engine.pass = none
  · obtain ⟨hparked, hpass⟩ := hready
    unfold trySwap
    split
    next st hst =>
      split
      · refine .inr ⟨by simpa using hparked, hpass, st, hst, ?_⟩
        unfold swapRow
        dsimp only
        split <;> simp
      · exact .inl rfl
    next => exact .inl rfl
  · rw [trySwap_waits hready]
    exact .inl rfl

/-- A change of mode swaps where it enters PARKED alone (R133, R182). -/
theorem changeMode_image (m : Mode) (s : State) : imageSwapped s (changeMode m s) := by
  have hswap {u : State} (hstore : u.store = s.store) (hpass : u.engine.pass = s.engine.pass) :
      imageSwapped s (trySwap u) :=
    (trySwap_image u).congr (by rw [hstore]) (by rw [hstore]) hpass rfl rfl
  unfold changeMode
  split
  · exact .inl rfl
  · dsimp only
    split <;> split
    · exact hswap (by simp) (by simp)
    · exact hswap (by simp) (by simp)
    · exact .inl (by simp)
    · exact .inl (by simp)

/-- An accepted DEMAND may enter PARKED and swap, once the direction has been judged (R182). -/
theorem acceptDemand_image (d : DemandRecord) (s : State) : imageSwapped s (acceptDemand d s) :=
  (changeMode_image _ _).congr (by simp [judgeDirection_store]) (by simp [judgeDirection_store]) (by simp) rfl rfl

/-- A completion swaps once its pass has ended (R58, R182). -/
theorem completePass_image (b : Bool) (s : State) : (completePass b s).store.image = s.store.image ∨
    (completePass b s).mode = .parked ∧
    ∃ st, s.store.stage = some st ∧
      (completePass b s).store.image = s.store.image.setIfInBounds st.row ⟨st.entries, .nv⟩ := by
  unfold completePass
  split
  next work _ =>
    obtain ⟨-, hmode, -⟩ := handOn_grant b (writeGrant work s)
    obtain ⟨-, -, -, -, hstore, -⟩ := handOn_frame b (writeGrant work s)
    rw [hmode, hstore]
    rcases trySwap_image (writeGrant work s) with himage | ⟨hparked, -, st, hst, himage⟩
    · exact .inl himage
    · exact .inr ⟨by simpa using hparked, st, hst, himage⟩
  next => exact .inl rfl

/-! ### The clauses -/

/-- What only certain commands do, for a command `c` that takes `s` to `t`. -/
structure OnlyTheirs (s : State) (c : Instr) (t : State) : Prop where
  sequence : t.engine.grant.sequence ≠ s.engine.grant.sequence →
    c = .warmRestart ∨ ∃ b, c = .passCompletion b ∧ t.engine.grant.sequence = s.engine.grant.sequence + 1
  stamp : t.stamp ≠ s.stamp → c = .baseIntervalExpiry ∧ t.stamp = s.stamp + 1
  startup : s.mode = .startup → t.mode ≠ .startup → c = .validationComplete
  access : s.store.accessLevel < t.store.accessLevel → ∃ payload, c = .access payload
  release : ∀ code, s.trips.latched.get code = true → t.trips.latched.get code = false → ∃ payload, c = .tripClear payload
  cells : t.store.nv ≠ s.store.nv → ∃ found, c = .programVerify found
  image : t.store.image ≠ s.store.image → c = .resetNRelease ∨ c = .validationComplete ∨ c = .warmRestart ∨
    (t.mode = .parked ∧ (s.engine.pass = none ∨ ∃ b, c = .passCompletion b) ∧
      ∃ st, s.store.stage = some st ∧ t.store.image = s.store.image.setIfInBounds st.row ⟨st.entries, .nv⟩)

theorem Aside.onlyTheirs {s t : State} (c : Instr) (e : Aside s t) : OnlyTheirs s c t where
  sequence h := absurd (by rw [e.engine]) h
  stamp h := absurd e.stamp h
  startup h h' := absurd (e.mode.trans h) h'
  access h := absurd e.access (not_le.mpr h)
  release code h h' := by simp [e.latched, h] at h'
  cells h := absurd e.nv h
  image h := absurd e.image h

/-- What raises at most, and leaves sequence, stamp, mode and tables, does nothing of the kind. -/
theorem OnlyTheirs.of_kept {f : State → State} {s : State} (c : Instr) (hkept : ∀ code, Keeps (isLatched code) f)
    (hframe : (f s).engine.grant.sequence = s.engine.grant.sequence ∧ (f s).stamp = s.stamp ∧ (f s).mode = s.mode ∧
      (f s).store.accessLevel = s.store.accessLevel ∧ (f s).store.nv = s.store.nv ∧
      (f s).store.image = s.store.image) : OnlyTheirs s c (f s) := by
  obtain ⟨hsequence, hstamp, hmode, haccess, hnv, himage⟩ := hframe
  exact {
    sequence := fun h => absurd hsequence h
    stamp := fun h => absurd hstamp h
    startup := fun h h' => absurd (hmode.trans h) h'
    access := fun h => absurd haccess h.ne'
    release := fun code h h' => absurd (hkept code s h) (by simp [isLatched, h'])
    cells := fun h => absurd hnv h
    image := fun h => absurd himage h }

/-- What stands aside adds nothing, before or after (the staged row stands as well before). -/
theorem OnlyTheirs.after {s t u : State} {c : Instr} (h : OnlyTheirs s c t) (e : Aside t u) : OnlyTheirs s c u where
  sequence := by
    rw [e.engine]
    exact h.sequence
  stamp := by
    rw [e.stamp]
    exact h.stamp
  startup := by
    rw [e.mode]
    exact h.startup
  access hlt := h.access (hlt.trans_le e.access)
  release := by
    rw [e.latched]
    exact h.release
  cells := by
    rw [e.nv]
    exact h.cells
  image := by
    rw [e.image, e.mode]
    exact h.image

theorem OnlyTheirs.before {s t u : State} {c : Instr} (e : Aside s t) (hstage : t.store.stage = s.store.stage)
    (h : OnlyTheirs t c u) : OnlyTheirs s c u where
  sequence := by
    rw [← e.engine]
    exact h.sequence
  stamp := by
    rw [← e.stamp]
    exact h.stamp
  startup := by
    rw [← e.mode]
    exact h.startup
  access hlt := h.access (e.access.trans_lt hlt)
  release := by
    rw [← e.latched]
    exact h.release
  cells := by
    rw [← e.nv]
    exact h.cells
  image := by
    rw [← e.image, ← e.engine, ← hstage]
    exact h.image

theorem OnlyTheirs.ofHandler {p : PortId} {f : State → State} {s : State} {c : Instr} (r : Receive)
    (h : OnlyTheirs (heard p s) c (f (heard p s))) : OnlyTheirs s c (setReceive p r (f (heard p s))) :=
  (h.before (heard_aside p s) (by simp [heard])).after (setReceive_aside p r _)

/-! ### The commands that do -/

theorem storeAtExpiry_aside (s : State) : Aside s (storeAtExpiry s) :=
  (countLockout_aside s).trans (countIdle_aside (s.withStore (countLockout s.store)))

/-- The shares of an expiry before the TABLE STORE's raise at most, and the stamp advances (R142). -/
theorem expireInterval_theirs (s : State) : OnlyTheirs s .baseIntervalExpiry (expireInterval s) := by
  have hshares : OnlyTheirs s .baseIntervalExpiry
      (plannerAtExpiry (steeringAtExpiry (thermalAtExpiry (intakeAtExpiry (s.withStamp (s.stamp + 1)))))) :=
    { sequence := fun h => absurd (by simp) h
      stamp := fun _ => ⟨rfl, by simp⟩
      startup := fun h h' => absurd (by simp [h]) h'
      access := fun h => absurd h (by simp)
      release := fun code h h' => by
        have hk := isLatched_kept code
        have hstamp : isLatched code (s.withStamp (s.stamp + 1)) := h
        have hlatched := hk.plannerAtExpiry _ (hk.steeringAtExpiry _ (hk.thermalAtExpiry _ (hk.settlePayload _
          (hk.countStandstill _ (hk.countL2 _ (hk.countL1 _ hstamp))))))
        exact absurd hlatched (by simp [isLatched, intakeAtExpiry] at h' ⊢; exact h')
      cells := fun h => absurd (by simp) h
      image := fun h => absurd (by simp) h }
  exact hshares.after (storeAtExpiry_aside _)

theorem takeMeasure_theirs (c : Instr) (m : MeasurementRecord) (s : State) : OnlyTheirs s c (takeMeasure m s) :=
  .of_kept c (fun code => (isLatched_kept code).takeMeasure m) (by simp [takeMeasure])

theorem engineAtMeasure_theirs (c : Instr) (payload : List Byte) {s t : State} (h : OnlyTheirs s c t) :
    OnlyTheirs s c (engineAtMeasure payload t).1 := by
  obtain ⟨body, pass, held, e⟩ := engineAtMeasure_eq payload t
  rw [e]
  exact ⟨h.sequence, h.stamp, h.startup, h.access, h.release, h.cells, h.image⟩

theorem judgeDirection_startup (d : Direction) (s : State) :
    (judgeDirection d s).mode = .startup ↔ s.mode = .startup := by
  unfold judgeDirection
  split_ifs
  · exact Iff.rfl
  · simp [handDirection, modeByDirection_startup]
  · exact Iff.rfl

theorem acceptDemand_theirs (payload : List Byte) (d : DemandRecord) (s : State) :
    OnlyTheirs s (.demand payload) (acceptDemand d s) where
  sequence h := absurd (by simp) h
  stamp h := absurd (by simp) h
  startup h h' := absurd ((changeMode_mode _ _).trans (by simp [modeByPark_startup, judgeDirection_startup, h])) h'
  access h := absurd h (by simp)
  release code h h' := by simp [h] at h'
  cells h := absurd (by simp) h
  image h := .inr (.inr (.inr ((acceptDemand_image d s).resolve_left h |>.imp_right (.imp_left .inl))))

theorem handOn_stamp (b : Bool) (s : State) : (handOn b s).stamp = s.stamp := by
  unfold handOn
  dsimp only
  split
  · simp
  · rw [replyOfPass_eq]
    simp

/-- A completion advances the sequence, and may swap (R57, R58). -/
theorem completePass_theirs (b : Bool) {s u : State} (hrun : u = runStages s) :
    OnlyTheirs s (.passCompletion b) (completePass b u) := by
  have himage := completePass_image b u
  have hstore : u.store = s.store := by simp [hrun]
  have hmode : u.mode = s.mode := by simp [hrun]
  unfold completePass at *
  rw [hstore] at himage
  split at himage
  next work _ =>
    obtain ⟨hgrant, hmode', htrips, -⟩ := handOn_grant b (writeGrant work u)
    obtain ⟨-, -, -, -, hstore', -⟩ := handOn_frame b (writeGrant work u)
    exact {
      sequence := fun _ => .inr ⟨b, rfl, by rw [hgrant]; simp [writeGrant, completedGrant, hrun]⟩
      stamp := fun h => absurd ((handOn_stamp b _).trans (by simp [hrun])) h
      startup := fun h h' => absurd (hmode'.trans (hmode.trans h)) h'
      access := fun h => absurd h (by simp [hstore', hstore])
      release := fun code h h' => by
        rw [htrips, hrun] at h'
        simp [h] at h'
      cells := fun h => absurd (by simp [hstore', hstore]) h
      image := fun h => .inr (.inr (.inr ((himage.resolve_left h).imp_right fun hst => ⟨.inr ⟨b, rfl⟩, hst⟩))) }
  next =>
    rw [hrun]
    exact .of_kept (f := runStages) _ (fun code u h => by simpa [isLatched] using h) (by simp)

theorem clearTrips_theirs (payload : List Byte) (s : State) : OnlyTheirs s (.tripClear payload) (clearTrips s) where
  sequence h := absurd rfl h
  stamp h := absurd rfl h
  startup h h' := absurd h h'
  access h := absurd h (lt_irrefl _)
  release _ _ _ := ⟨payload, rfl⟩
  cells h := absurd rfl h
  image h := absurd rfl h

/-- The end of a program leaves the ACCESS LEVEL (R181). -/
theorem verifyStore_access (st : StagedRow) (cells : NvRow) (t : Store) :
    (verifyStore st cells t).accessLevel = t.accessLevel := by
  unfold verifyStore
  dsimp only
  split <;> rfl

/-- The end of a program writes the cells, and may swap (R181, R182). -/
theorem verify_theirs (found : Option NvRow) (st : StagedRow) (s : State) :
    OnlyTheirs s (.programVerify found) (trySwap (s.withStore (verifyStore st (programmedRow st found) s.store))) where
  sequence h := absurd (by simp) h
  stamp h := absurd (by simp) h
  startup h h' := absurd (by simp [h]) h'
  access h := absurd h (by simp [verifyStore_access])
  release code h h' := by simp [h] at h'
  cells _ := ⟨found, rfl⟩
  image h := by
    have himage := (trySwap_image (s.withStore (verifyStore st (programmedRow st found) s.store))).congr (s := s)
      (by simp [verifyStore_frame]) (by simp [verifyStore_frame]) (by simp) rfl rfl
    exact .inr (.inr (.inr ((himage.resolve_left h).imp_right (.imp_left .inl))))

/-- Every command but a cold reset. -/
theorem effect_theirs {c : Instr} {s t : State} (hcold : c ≠ .coldReset) (e : Effect s c t) : OnlyTheirs s c t := by
  cases e with
  | aside haside => exact haside.onlyTheirs c
  | coldReset n => exact absurd rfl hcold
  | released =>
    exact ⟨fun h => absurd (by simp) h, fun h => absurd (by simp) h, fun h h' => absurd (by simp [h]) h',
      fun h => absurd h (by simp), fun code h h' => by simp [h] at h', fun h => absurd (by simp) h, fun _ => .inl rfl⟩
  | validated r =>
    exact ⟨fun h => absurd (by simp [completeValidation]) h, fun h => absurd (by simp [completeValidation]) h,
      fun _ _ => rfl, fun h => absurd h (by simp [completeValidation]),
      fun code h h' => by simp [completeValidation, h] at h', fun h => absurd (by simp [completeValidation]) h,
      fun _ => .inr (.inl rfl)⟩
  | restarted =>
    exact ⟨fun _ => .inl rfl, fun h => absurd rfl h, fun _ h' => absurd rfl h', fun h => absurd h (Nat.not_lt_zero _),
      fun code h h' => absurd (h.symm.trans h') (by decide), fun h => absurd rfl h, fun _ => .inr (.inr (.inl rfl))⟩
  | expired => exact expireInterval_theirs s
  | l1Stale =>
    exact .of_kept (f := fun s => countStandstill (countL1 s)) _ (fun code s h =>
      (isLatched_kept code).countStandstill _ ((isLatched_kept code).countL1 s h)) (by simp)
  | l2Stale => exact .of_kept _ (fun code => (isLatched_kept code).countL2) (by simp)
  | grace => exact .of_kept _ (fun code => (isLatched_kept code).stepGrace) (by simp)
  | holdExpired w => exact .of_kept (f := onMotor w _) _ (fun code => (isLatched_kept code).onMotor w _) (by simp)
  | boostCounted w => exact .of_kept (f := onMotor w _) _ (fun code => (isLatched_kept code).onMotor w _) (by simp)
  | pressure => exact .of_kept _ (fun code => (isLatched_kept code).steeringAtExpiry) (by simp)
  | shortfall => exact .of_kept _ (fun code => (isLatched_kept code).stepShortfall) (by simp)
  | measured payload r _ =>
    exact .ofHandler (f := fun u => (engineAtMeasure payload (takeMeasure (measureOf payload) u)).1) r
      (engineAtMeasure_theirs _ payload (takeMeasure_theirs _ _ _))
  | completed b => exact completePass_theirs b rfl
  | demanded payload r => exact .ofHandler r (acceptDemand_theirs payload _ _)
  | cleared payload r => exact .ofHandler r (clearTrips_theirs payload _)
  | access payload level haside =>
    have h := haside.onlyTheirs (.access payload)
    exact ⟨h.sequence, h.stamp, h.startup, fun _ => ⟨payload, rfl⟩, h.release, h.cells, h.image⟩
  | verified found st _ => exact verify_theirs found st s

/-- Settles O46, effect by effect. -/
theorem onlyTheirCommandsChange : Obligations.OnlyTheirCommandsChange := by
  intro s t c e hcold
  have h := effect_theirs hcold (exec_effect e)
  exact ⟨h.sequence, h.stamp, h.startup, h.access, h.release, h.cells, h.image⟩

end Sys2Proof.Proofs
end

section
/-! SUPPORT. Completion of a pass (O40): its stages, the gate, the swap, the reply. -/

namespace Sys2Proof.Proofs

open Sys2Proof.Machine Sys2Proof.Safety Sys2Proof.Claims

/-! ### Stages 1 to 8 run (R51, R53, R101) -/

theorem enteringBoost_eq (n : Snapshot) (s : State) (w : Wheel) : enteringBoost n w s = entersBoost n s w := by
  have hanswer : boostEntered w s = (decide ((s.thermal.motor.get w).boost.state = .idle) &&
      (s.thermal.motor.get w).band.any fun b => decide (b ≤ boostBandMax s.store.image)) := by
    unfold boostEntered
    dsimp only
    generalize (s.thermal.motor.get w).boost.state = state
    generalize (s.thermal.motor.get w).band = band
    cases state <;> cases band <;> simp
  have hregime : regimeOfPass n = passRegime n := rfl
  rw [Bool.eq_iff_iff]
  simp only [enteringBoost, entersBoost, wantsBoost, hanswer, hregime, Bool.and_eq_true, decide_eq_true_eq, and_assoc]
  rfl

theorem computeStages_run (n : Snapshot) (s : State) : stagesRun n s (computeStages n s) := by
  have hentered : (Both.of fun w => enteringBoost n w s) = Both.of (entersBoost n s) :=
    congrArg Both.of (funext (enteringBoost_eq n s))
  rw [computeStages_eq, hentered]
  refine ⟨rfl, rfl, fun w => ?_, rfl⟩
  rw [Both.get_of, enteringBoost_eq]
  rfl

theorem exec_completion {s : State} (b : Bool) (hlow : s.resetLow = false) :
    exec (.passCompletion b) s = .next (completePass b (runStages s)) :=
  congrArg Host.Outcome.next (whileReleased_high hlow)

/-- A completion of a pass that has its snapshot alone is that of the pass with its stages run (log 7). -/
theorem exec_completion_computeStages {s : State} {n : Snapshot} (b : Bool) (hlow : s.resetLow = false)
    (hpass : s.engine.pass = some (.snapshotTaken n)) :
    exec (.passCompletion b) s = exec (.passCompletion b) (computeStages n s) := by
  have hdone : runStages (computeStages n s) = computeStages n s :=
    runStages_done (by simp [computeStages_eq])
  rw [exec_completion b hlow, exec_completion b (by simpa using hlow), runStages_snapshot hpass, hdone]

/-! ### The gate (R56) -/

theorem payloadBand_overload (i : Intake) : payloadBand i = 7 ↔ 290 ≤ i.payload := by
  rw [payloadBand, payloadBandOf, bandOf_eq_bandBy (by decide)]
  unfold bandBy
  refine ⟨fun h => ?_, fun h => ?_⟩
  · split_ifs at h <;> omega
  · split_ifs <;> omega

theorem gateTorque_gated (s : State) (torque : Both Int) : gateTorque s torque = gated s torque := by
  unfold gateTorque gated
  rw [withoutPositive_eq]
  simp only [payloadBand_overload, brakeSet, Bool.or_eq_true]

/-! ### The swap (R182, R183) -/

theorem swapRow_store (st : StagedRow) (s : State) : (swapRow st s).store = { s.store with
    image := s.store.image.setIfInBounds st.row ⟨st.entries, .nv⟩, programmer := .idle, stage := none } := by
  unfold swapRow
  dsimp only
  split <;> simp

/-- The reserve is formed afresh where row 18 is swapped (R183). -/
theorem swapRow_reserve (st : StagedRow) (s : State) : (swapRow st s).traction.reserve =
    if st.row = 18 then reserveOf (swapRow st s).store.image s.intake.l2 (demandInForce s.intake).pressure
    else s.traction.reserve := by
  unfold swapRow
  dsimp only
  split
  · simp [formReserve]
  · rfl

theorem swapRow_swapped {st : StagedRow} {s t : State} (hr : st.row < 23)
    (ht : t.store = { s.store with
      image := s.store.image.setIfInBounds st.row ⟨st.entries, .nv⟩, programmer := .idle, stage := none }) :
    swapped st s t := by
  unfold swapped
  rw [ht]
  refine ⟨by simp [imageRow_set, hr], by simp [rowIsLimp_set, hr], fun r hne => ?_, rfl, rfl⟩
  simp [imageRow_set, rowIsLimp_set, hr, hne]

/-- A swap changes programmer, stage, image and reserve alone. -/
theorem trySwap_eq (s : State) : ∃ programmer stage image reserve, trySwap s = { s with
    store := { s.store with programmer := programmer, stage := stage, image := image }
    traction := { s.traction with reserve := reserve } } := by
  unfold trySwap
  split
  · split
    · unfold swapRow
      dsimp only
      split <;> exact ⟨_, _, _, _, rfl⟩
    · exact ⟨_, _, _, _, rfl⟩
  · exact ⟨_, _, _, _, rfl⟩

/-! ### What a completion hands on (R58, R63) -/

/-- What a completion hands on: a swap, and a pass that starts or the reply. -/
theorem handOn_eq (b : Bool) (s : State) : ∃ port held pass programmer stage image reserve, handOn b s = { s with
    portL1 := port, heldMeasure := held, engine := { s.engine with pass := pass }
    store := { s.store with programmer := programmer, stage := stage, image := image }
    traction := { s.traction with reserve := reserve } } := by
  obtain ⟨programmer, stage, image, reserve, hswap⟩ := trySwap_eq s
  unfold handOn
  rw [hswap]
  dsimp only
  split
  · unfold startPass
    split <;> exact ⟨_, _, _, _, _, _, _, rfl⟩
  · rw [replyOfPass_eq]
    exact ⟨_, _, _, _, _, _, _, rfl⟩

theorem handOn_held (b : Bool) {s : State} {p : List Byte} {m : MeasurementRecord} (hheld : s.heldMeasure = some p)
    (hm : s.intake.measurement = some m) : (handOn b s).heldMeasure = none ∧ (handOn b s).portL1 = s.portL1 ∧
    passStarted m (handOn b s) := by
  have hstart : handOn b s = startPass ((trySwap s).withHeldMeasure none) := by simp [handOn, hheld]
  rw [hstart, startPass_eq (m := m) (by simpa using hm)]
  exact ⟨rfl, by simp, rfl⟩

theorem handOn_free (b : Bool) {s : State} (hheld : s.heldMeasure = none) : handOn b s = replyOfPass b (trySwap s) := by
  simp [handOn, hheld]

/-- The reply of a pass is formed from the GRANT RECORD as it stands, where it is owed (R58, R59). -/
theorem replyOfPass_owed (b : Bool) {s : State} {a code : Byte} (h : s.portL1.receive = .replyPending a code none) :
    (replyOfPass b s).portL1 = ⟨if b then .replyPending a code (some (grantReply s)) else .replying ⟨a, code, grantReply s⟩,
      s.portL1.counters⟩ := by
  unfold replyOfPass
  rw [h]
  cases b <;> rfl

theorem replyOfPass_free (b : Bool) {s : State} (h : ∀ a code, s.portL1.receive ≠ .replyPending a code none) :
    replyOfPass b s = s := by
  unfold replyOfPass
  split
  next a code hr => exact absurd hr (h a code)
  next => rfl

/-- Settles O40, from the stages and what completion hands on. -/
theorem passCompletionWritesTheGrant : Obligations.PassCompletionWritesTheGrant := by
  refine ⟨fun s b n hlow hpass => ⟨computeStages n s, computeStages_run n s, exec_completion_computeStages b hlow hpass⟩,
    fun s b w hlow hpass => ⟨handOn b (writeGrant w s), ?_, ?_, ?_, ?_, ?_, ?_, ?_⟩⟩
  · rw [exec_completion b hlow, runStages_done (by simp [hpass]), completePass_computed b hpass]
  · obtain ⟨port, held, pass, programmer, stage, image, reserve, hon⟩ := handOn_eq b (writeGrant w s)
    rw [hon]
    simp [writeGrant, completedGrant, gateTorque_gated]
  · intro st hp hm hst hr
    obtain ⟨-, -, -, -, hstore, htraction, -⟩ := handOn_frame b (writeGrant w s)
    have hswap : trySwap (writeGrant w s) = swapRow st (writeGrant w s) := trySwap_made hp hm rfl hst
    rw [hswap] at hstore htraction
    have hreserve := swapRow_reserve st (writeGrant w s)
    refine ⟨swapRow_swapped hr (hstore.trans (swapRow_store st _)), fun h18 => ?_, fun h18 => ?_⟩
    · rw [htraction, hreserve, if_pos h18, hstore]
      rfl
    · rw [htraction, hreserve, if_neg h18]
      rfl
  · intro hwaits
    obtain ⟨-, -, -, -, hstore, htraction, -⟩ := handOn_frame b (writeGrant w s)
    have hswap : trySwap (writeGrant w s) = writeGrant w s := by
      by_cases hp : s.store.programmer = .swapPending
      · exact trySwap_waits fun h => hwaits ⟨hp, h.1⟩
      · exact trySwap_none hp
    rw [hstore, htraction, hswap]
    exact ⟨rfl, rfl⟩
  · intro hheld
    have hreply := handOn_free b (s := writeGrant w s) hheld
    obtain ⟨hgrant, -⟩ := handOn_grant b (writeGrant w s)
    refine ⟨?_, ?_, fun a c hr => ?_, fun hr => ?_⟩
    · rw [hreply, replyOfPass_eq]
      simpa using hheld
    · rw [hreply, replyOfPass_eq]
      simp [writeGrant]
    · rw [hgrant, hreply, replyOfPass_owed b (by simpa using hr)]
      simp [grantReply]
    · rw [hreply, replyOfPass_free b (by simpa using hr)]
      simp
  · intro p m hheld hm
    exact handOn_held b hheld hm
  · obtain ⟨port, held, pass, programmer, stage, image, reserve, hon⟩ := handOn_eq b (writeGrant w s)
    rw [hon]
    rfl

end Sys2Proof.Proofs
end

section
/-! SUPPORT. Torque supervision at a MEASURE (O38). -/

namespace Sys2Proof.Proofs

open Sys2Proof.Machine Sys2Proof.Safety Sys2Proof.Claims

/-! ### The FAULT LIST after an event (R139, R141, R143) -/

/-- Room is made of CLEARED records alone (R143). -/
theorem mem_withoutOldest {r : FaultRecord} (hactive : r.cleared = false) (n : Nat) (l : List FaultRecord) :
    r ∈ withoutOldest n l ↔ r ∈ l := by
  induction n with
  | zero => simp [withoutOldest]
  | succ n ih => rw [withoutOldest_succ, List.mem_eraseP_of_neg (by simp [hactive]), ih]

section
variable {raisedNow : TripCode → Prop} {stamp : BitVec 32} {refSpeed : Nat} {detail : TripCode → Option Int} {s t : State}

/-- A code newly latched has its ACTIVE record, with the figures of the latch (R141). -/
theorem recordsFollow_new (h : recordsFollow raisedNow stamp refSpeed detail s t) {c : TripCode} (hc : newlyLatched s t c) :
    ∃ r ∈ t.trips.faults, r.code = c ∧ r.cleared = false ∧ r.first = stamp ∧ r.detail = detail c := by
  obtain ⟨kept, new, hfaults, -, hnew, hfigures, -⟩ := h
  obtain ⟨r, hr, rfl⟩ := (hnew c).mp hc
  obtain ⟨hactive, hfirst, -, -, -, hdetail⟩ := hfigures r hr
  exact ⟨r, by simp [hfaults, hr], rfl, hactive, hfirst, hdetail⟩

/-- An ACTIVE record is counted where its latched code is raised, and stands where it is not (R139). -/
theorem recordsFollow_active (h : recordsFollow raisedNow stamp refSpeed detail s t) {r : FaultRecord}
    (hr : r ∈ s.trips.faults) (hactive : r.cleared = false) :
    (s.trips.latched.get r.code = true ∧ raisedNow r.code → counted stamp r ∈ t.trips.faults) ∧
    (¬(s.trips.latched.get r.code = true ∧ raisedNow r.code) → r ∈ t.trips.faults) := by
  obtain ⟨kept, new, hfaults, -, -, -, -, hplaces, -⟩ := h
  obtain ⟨i, hi⟩ := List.mem_iff_getElem?.mp ((mem_withoutOldest hactive _ _).mpr hr)
  obtain ⟨hcounted, hstands⟩ := hplaces i r hi
  rw [hfaults]
  refine ⟨fun hraised => ?_, fun hraised => ?_⟩
  · exact List.mem_append_left _ (List.mem_of_getElem? (hcounted ⟨hraised.1, hactive, hraised.2⟩))
  · exact List.mem_append_left _ (List.mem_of_getElem? (hstands fun ⟨hlatched, _, hnow⟩ => hraised ⟨hlatched, hnow⟩))

end

/-! ### The excess counts (R66, R67) -/

theorem superviseWheel_count (w : Wheel) (granted achieved : Int) (s : State) :
    (superviseWheel w granted achieved s).engine.excess.get w = excessAfter w granted achieved s := by
  rw [superviseWheel_eq]
  split <;> simp [excessMarked]

theorem superviseWheel_mark (w : Wheel) (granted achieved : Int) (s : State) :
    (superviseWheel w granted achieved s).present.get (torqueExcessOf w) = decide (excessAfter w granted achieved s = 5) := by
  have hmarked : (excessMarked w granted achieved s).present.get (torqueExcessOf w) =
      decide (excessAfter w granted achieved s = 5) := by simp [excessMarked, markPresent_get]
  rw [superviseWheel_eq]
  split
  · simpa using hmarked
  · exact hmarked

/-- The wheels are compared one by one, each with its own count and mark. -/
theorem supervise_counts {s : State} (hmode : s.mode ≠ .startup) (granted : Both Int) (m : MeasurementRecord) (w : Wheel) :
    (supervise granted m s).engine.excess.get w = excessAfter w (granted.get w) (m.achieved.get w) s ∧
    (supervise granted m s).present.get (torqueExcessOf w) =
      decide (excessAfter w (granted.get w) (m.achieved.get w) s = 5) := by
  unfold supervise
  rw [if_neg hmode]
  cases w with
  | left =>
    rw [superviseWheel_other (by decide), superviseWheel_get (by decide)]
    exact ⟨superviseWheel_count .left _ _ s, superviseWheel_mark .left _ _ s⟩
  | right =>
    have hsame : excessAfter .right granted.right m.achieved.right (superviseWheel .left granted.left m.achieved.left s) =
        excessAfter .right granted.right m.achieved.right s := by
      simp [excessAfter, superviseWheel_other]
    rw [superviseWheel_count, superviseWheel_mark, hsame]
    exact ⟨rfl, rfl⟩

/-- Supervision at a MEASURE takes the counts, marks and torques as they stood when it was received (R66). -/
theorem takeMeasure_counts (m : MeasurementRecord) (s : State) (w : Wheel) :
    (s.mode ≠ .startup →
      (takeMeasure m s).engine.excess.get w = excessAfter w (s.engine.grant.torque.get w) (m.achieved.get w) s ∧
      (takeMeasure m s).present.get (torqueExcessOf w) =
        decide (excessAfter w (s.engine.grant.torque.get w) (m.achieved.get w) s = 5)) ∧
    (s.mode = .startup → (takeMeasure m s).engine.excess.get w = s.engine.excess.get w ∧
      (takeMeasure m s).present.get (torqueExcessOf w) = s.present.get (torqueExcessOf w)) := by
  have hmark : (judgeOverspeed m (thermalAtMeasure m (intakeAtMeasure m s))).present.get (torqueExcessOf w) =
      s.present.get (torqueExcessOf w) := by
    rw [judgeOverspeed_get (by cases w <;> decide), thermalAtMeasure_get (by cases w <;> decide)
      (by cases w <;> rintro ⟨⟩ <;> decide), intakeAtMeasure_get]
    cases w <;> simp [torqueExcessOf]
  refine ⟨fun hmode => ?_, fun hmode => ?_⟩
  · have hcounts := supervise_counts (s := judgeOverspeed m (thermalAtMeasure m (intakeAtMeasure m s))) (by simpa using hmode)
      s.engine.grant.torque m w
    have hsame : excessAfter w (s.engine.grant.torque.get w) (m.achieved.get w)
        (judgeOverspeed m (thermalAtMeasure m (intakeAtMeasure m s))) =
        excessAfter w (s.engine.grant.torque.get w) (m.achieved.get w) s := by simp [excessAfter]
    rwa [hsame] at hcounts
  · have hsame : takeMeasure m s = judgeOverspeed m (thermalAtMeasure m (intakeAtMeasure m s)) :=
      if_pos (by simpa using hmode)
    rw [hsame, hmark]
    simp

/-- The comparison in the words of R66. -/
theorem inExcess_iff (granted achieved : Int) (tol : Nat) : inExcess granted achieved tol = true ↔
    (0 ≤ granted ∧ (granted + tol < achieved ∨ achieved < -tol)) ∨
      (granted < 0 ∧ (achieved < granted - tol ∨ tol < achieved)) := by
  unfold inExcess
  split_ifs with hsign <;> simp only [Bool.or_eq_true, decide_eq_true_eq] <;> omega

theorem detailAtMeasure_excess (m : MeasurementRecord) (t : State) (w : Wheel) :
    detailAtMeasure m t (torqueExcessOf w) = some (m.achieved.get w) := by
  cases w <;> rfl

theorem afterMeasure_counts (m : MeasurementRecord) (a : Byte) (body : Option ReplyBody) (pass : Option Pass)
    (held : Option (List Byte)) (s : State) (w : Wheel) :
    let t := afterMeasure m a body pass held s
    (s.mode ≠ .startup →
      t.engine.excess.get w = excessAfter w (s.engine.grant.torque.get w) (m.achieved.get w) s ∧
      t.present.get (torqueExcessOf w) = decide (t.engine.excess.get w = 5)) ∧
    (s.mode = .startup → t.engine.excess.get w = s.engine.excess.get w ∧
      t.present.get (torqueExcessOf w) = s.present.get (torqueExcessOf w)) := by
  obtain ⟨hcompared, hstartup⟩ := takeMeasure_counts m (heard .l1 s) w
  refine ⟨fun hmode => ?_, hstartup⟩
  obtain ⟨hcount, hmark⟩ := hcompared hmode
  exact ⟨hcount, hmark.trans (by rw [← hcount]; rfl)⟩

/-- Settles O38: the counts by `afterMeasure_counts`, latches and records as every raise of a MEASURE leaves them. -/
theorem measureSupervisesTorque : Obligations.MeasureSupervisesTorque := by
  intro s a payload hlistens hlength
  obtain ⟨body, pass, held, hexec⟩ := exec_measure hlistens hlength
  obtain ⟨t, hexec', -, -, -, -, hlatched, -, hrecords, -⟩ := measureIsTaken s a payload hlistens hlength
  obtain rfl := Host.Outcome.next.inj (hexec.symm.trans hexec')
  refine ⟨_, hexec, fun w => ?_⟩
  obtain ⟨hcompared, hstartup⟩ := afterMeasure_counts (measureOf payload) a body pass held s w
  have hraised := raisedAtMeasure_excess s (afterMeasure (measureOf payload) a body pass held s) w
  have hlatch := (hlatched (torqueExcessOf w)).trans (or_congr_right hraised)
  generalize afterMeasure (measureOf payload) a body pass held s = t at *
  refine ⟨fun hmode => ?_, fun r hr hcode hactive => ?_, fun hmode => ?_⟩
  · obtain ⟨hcount, hmark⟩ := hcompared hmode
    refine ⟨fun hexceeds => ?_, fun hexceeds => ?_, by rw [hmark, decide_eq_true_iff], hlatch, fun hold hnew => ?_⟩
    · exact hcount.trans (if_pos ((inExcess_iff _ _ _).mpr hexceeds))
    · exact hcount.trans (if_neg fun h => hexceeds ((inExcess_iff _ _ _).mp h))
    · obtain ⟨r, hr, hcode, hactive, hfirst, hdetail⟩ := recordsFollow_new hrecords ⟨hold, hnew⟩
      exact ⟨r, hr, hcode, hactive, hfirst, hdetail.trans (detailAtMeasure_excess _ t w)⟩
  · have hfollow := recordsFollow_active hrecords hr hactive
    rwa [hcode, hraised] at hfollow
  · obtain ⟨hcount, hmark⟩ := hstartup hmode
    refine ⟨hcount, hmark, Bool.eq_iff_iff.mpr (hlatch.trans ⟨fun h => h.resolve_right ?_, Or.inl⟩)⟩
    rw [hcount]
    omega

end Sys2Proof.Proofs
end

section
/-! SUPPORT. A MEASURE starts a pass, is held or is answered, and an idle step runs the stages of a pass (O39). -/

namespace Sys2Proof.Proofs

open Sys2Proof.Machine Sys2Proof.Safety Sys2Proof.Claims

/-! ### The band handed to a BOOST TIMER (R103, R105) -/

theorem receiveBand_eq (im : Image) (band : Nat) (b : BoostTimer) : receiveBand im band b = timerAfterBand im (some band) b := by
  obtain ⟨state, count, reference⟩ := b
  cases state with
  | idle => simp [receiveBand, timerAfterBand]
  | boost => simp [receiveBand, timerAfterBand]
  | recover => cases reference <;> simp [receiveBand, timerAfterBand]

theorem handBand_boost (im : Image) (m : Motor) : (handBand im m).boost = timerAfterBand im (handBand im m).band m.boost := by
  unfold handBand
  cases hband : m.band with
  | none => simp [hband, timerAfterBand]
  | some b => simp [receiveBand_eq]

theorem moveHold_boost (reading : Int) (valid : Bool) (m : Motor) : (moveHold reading valid m).boost = m.boost := by
  unfold moveHold
  split <;> rfl

/-- A reading forms the band anew and hands it to the BOOST TIMER as it stood (R96, R98, R103). -/
theorem motorAtMeasure_boost (im : Image) (reading : Int) (valid : Bool) (m : Motor) :
    (motorAtMeasure im reading valid m).boost = timerAfterBand im (motorAtMeasure im reading valid m).band m.boost := by
  rw [motorAtMeasure, handBand_boost]
  exact congrArg _ (moveHold_boost reading valid m)

/-- Each motor takes its own reading. -/
theorem takeMeasure_motor (m : MeasurementRecord) (s : State) (w : Wheel) : (takeMeasure m s).thermal.motor.get w =
    motorAtMeasure s.store.image (m.winding.get w) (m.windingValid.get w) (s.thermal.motor.get w) := by
  cases w <;> simp [takeMeasure, thermalAtMeasure, wheelAtMeasure, onMotor]

/-! ### What a MEASURE leaves of the engine (R44, R62, R63) -/

/-- A MEASURE of 23 bytes on a port that listens: the record is taken, then the ALLOCATION ENGINE is asked. -/
theorem exec_measure_engine {s : State} {a : Byte} {payload : List Byte} (h : listens s .l1 a) (hlength : payload.length = 23) :
    (let e := engineAtMeasure payload (takeMeasure (measureOf payload) (heard .l1 s))
     exec (.measure payload) s = .next (setReceive .l1 (.replyPending a 0x10 e.2) e.1)) := by
  obtain ⟨hlow, haddressed⟩ := h
  have hhandled : handleMeasure payload (heard .l1 s) =
      engineAtMeasure payload (takeMeasure (measureOf payload) (heard .l1 s)) := by
    simp only [handleMeasure, hlength, readMeasure_eq, if_true]
  refine congrArg Host.Outcome.next ?_
  rw [serveRequest_addressed hlow haddressed (by omega)]
  exact takeSound_eq hhandled

theorem engineAtMeasure_startup {payload : List Byte} {s : State} (hmode : s.mode = .startup) :
    engineAtMeasure payload s = (s, some (grantReply s)) := if_pos hmode

theorem engineAtMeasure_starts {payload : List Byte} {s : State} (hmode : s.mode ≠ .startup) (hpass : s.engine.pass = none) :
    engineAtMeasure payload s = (startPass s, none) := by
  simp [engineAtMeasure, hmode, hpass]

theorem engineAtMeasure_holds {payload : List Byte} {s : State} (hmode : s.mode ≠ .startup) (hpass : s.engine.pass ≠ none) :
    engineAtMeasure payload s = (s.withHeldMeasure (some payload), none) := by
  simp [engineAtMeasure, hmode, hpass]

/-- A port that owes what a MEASURE leaves has counted the frame (R156). -/
theorem setReceive_owing {s u : State} (a code : Byte) (body : Option ReplyBody)
    (hport : u.portL1 = (heard .l1 s).portL1) :
    (setReceive .l1 (.replyPending a code body) u).portL1 = owing s.portL1 a code body := by
  have hset : (setReceive .l1 (.replyPending a code body) u).portL1 = { u.portL1 with receive := .replyPending a code body } :=
    rfl
  rw [hset, hport]
  rfl

/-- An idle step while no validation runs runs the stages of a pass that has its snapshot (log 7). -/
theorem step_runs {s : State} {n : Snapshot} (hlow : s.resetLow = false) (hidle : s.pending = [])
    (hvalidation : s.validation = none) (hpass : s.engine.pass = some (.snapshotTaken n)) :
    step s = .next (computeStages n s) := by
  have hvalidated : validateNext s = s := by simp [validateNext, hvalidation]
  unfold step
  simp only [hidle, idleWork, whileReleased_high hlow, hvalidated, runStages_snapshot hpass]

/-- Settles O39, situation by situation. -/
theorem measureStartsOrHoldsThePass : Obligations.MeasureStartsOrHoldsThePass := by
  refine ⟨fun s a payload hlistens hlength => ⟨_, exec_measure_engine hlistens hlength, ?_⟩,
    fun s n hlow hidle hvalidation hpass => ⟨_, step_runs hlow hidle hvalidation hpass, computeStages_run n s⟩⟩
  have hmode : (takeMeasure (measureOf payload) (heard .l1 s)).mode = s.mode := by simp [takeMeasure]
  have hpass : (takeMeasure (measureOf payload) (heard .l1 s)).engine.pass = s.engine.pass := by simp [takeMeasure]
  have hheld : (takeMeasure (measureOf payload) (heard .l1 s)).heldMeasure = s.heldMeasure := by simp [takeMeasure]
  have hport : (takeMeasure (measureOf payload) (heard .l1 s)).portL1 = (heard .l1 s).portL1 := by simp [takeMeasure]
  have hrecord : (takeMeasure (measureOf payload) (heard .l1 s)).intake.measurement = some (measureOf payload) := by
    rw [takeMeasure_intake]
    rfl
  refine ⟨fun w => ?_, fun hstartup => ?_, fun hrunning hfree => ?_, fun hrunning hbusy => ?_⟩
  · obtain ⟨body, pass, held, e⟩ := engineAtMeasure_eq payload (takeMeasure (measureOf payload) (heard .l1 s))
    have hthermal (r : Receive) (u : State) : (setReceive .l1 r u).thermal = u.thermal := rfl
    simp only [e, hthermal, takeMeasure_motor]
    exact motorAtMeasure_boost _ _ _ _
  · rw [engineAtMeasure_startup (hmode.trans hstartup)]
    refine ⟨?_, hheld, hpass⟩
    rw [setReceive_owing a _ _ hport, grantReply, hmode, hstartup]
    rfl
  · rw [engineAtMeasure_starts (by rwa [hmode]) (hpass.trans hfree), startPass_eq hrecord]
    exact ⟨setReceive_owing a _ _ hport, hheld, rfl⟩
  · rw [engineAtMeasure_holds (by rwa [hmode]) (by rwa [hpass])]
    exact ⟨setReceive_owing a _ _ hport, rfl, hpass⟩

end Sys2Proof.Proofs
end

section
/-! SUPPORT. The power budget of stage 7 (O44). -/

namespace Sys2Proof.Proofs

open Sys2Proof.Machine Sys2Proof.Safety Sys2Proof.Claims

/-- A scaled torque is no larger than the torque it is scaled from (R81). -/
theorem scaledTorque_le {available sum : Nat} (h : available < sum) (torque : Nat) : torque * available / sum ≤ torque :=
  Nat.div_le_of_le_mul (by rw [Nat.mul_comm sum]; exact Nat.mul_le_mul_left torque h.le)

/-- The power of a scaled torque, by that of the torque before: R80 loses less than 1 kW to its truncation, and the scaling
only loses more (R80, R81). -/
theorem wheelPower_scaled_mul_le (im : Image) (torque available sum : Nat) (speed : Int) :
    wheelPower im (torque * available / sum) speed * sum ≤ (wheelPower im torque speed + 1) * available := by
  unfold wheelPower
  simp only [Nat.mul_assoc torque, Nat.mul_assoc (torque * available / sum)]
  generalize speed.natAbs * kpw im = unit
  have hafter : torque * available / sum * unit / 100000 * 100000 ≤ torque * available / sum * unit :=
    Nat.div_mul_le_self _ _
  have hscaled : torque * available / sum * sum ≤ torque * available := Nat.div_mul_le_self _ _
  have hbefore : torque * unit ≤ (torque * unit / 100000 + 1) * 100000 := by omega
  refine Nat.le_of_mul_le_mul_right ?_ (show 0 < 100000 by decide)
  calc torque * available / sum * unit / 100000 * sum * 100000
      = torque * available / sum * unit / 100000 * 100000 * sum := Nat.mul_right_comm _ _ _
    _ ≤ torque * available / sum * unit * sum := Nat.mul_le_mul_right _ hafter
    _ = torque * available / sum * sum * unit := Nat.mul_right_comm _ _ _
    _ ≤ torque * available * unit := Nat.mul_le_mul_right _ hscaled
    _ = torque * unit * available := Nat.mul_right_comm _ _ _
    _ ≤ (torque * unit / 100000 + 1) * 100000 * available := Nat.mul_le_mul_right _ hbefore
    _ = (torque * unit / 100000 + 1) * available * 100000 := Nat.mul_right_comm _ _ _

/-- Two powers scaled from a sum above what is available: the two truncations together leave at most 1 kW above it (R81). -/
theorem scaledPowers_le {available left right left' right' : Nat} (habove : available < left + right)
    (hleft : left' * (left + right) ≤ (left + 1) * available)
    (hright : right' * (left + right) ≤ (right + 1) * available) : left' + right' ≤ available + 1 := by
  have hless : (left' + right') * (left + right) < (available + 2) * (left + right) := calc
    (left' + right') * (left + right) = left' * (left + right) + right' * (left + right) := Nat.add_mul _ _ _
    _ ≤ (left + 1) * available + (right + 1) * available := Nat.add_le_add hleft hright
    _ = available * (left + right) + 2 * available := by ring
    _ < available * (left + right) + 2 * (left + right) := by omega
    _ = (available + 2) * (left + right) := by ring
  have := Nat.lt_of_mul_lt_mul_right hless
  omega

/-- Settles O44: each torque by `budgetTorque_get`, the power left by `scaledPowers_le`. -/
theorem powerBudgetHolds : Obligations.PowerBudgetHolds := by
  intro im available torque speed power answer
  refine ⟨fun hwithin => if_neg (Nat.not_lt.mpr hwithin), fun habove => ?_⟩
  have hget (w : Wheel) : answer.1.get w = torque.get w * available / (power.left + power.right) :=
    (budgetTorque_get available power torque w).trans (if_pos habove)
  refine ⟨(budgetTorque_scales available power torque).mpr habove,
    fun w => ⟨hget w, (hget w).trans_le (scaledTorque_le habove _)⟩, ?_⟩
  have hleft : answer.1.left = torque.left * available / (power.left + power.right) := hget .left
  have hright : answer.1.right = torque.right * available / (power.left + power.right) := hget .right
  rw [hleft, hright]
  exact scaledPowers_le habove (wheelPower_scaled_mul_le im _ _ _ _) (wheelPower_scaled_mul_le im _ _ _ _)

end Sys2Proof.Proofs
end

section
/-! SUPPORT. The steering-pressure counter and the shortfall count: their events and their share of an expiry (O12, O15). -/

namespace Sys2Proof.Proofs

open Sys2Proof.Machine Sys2Proof.Safety Sys2Proof.Claims

/-! ### Their marks -/

theorem get_steerPressureLow (m : TripMarks) : m.get .steerPressureLow = m.steerPressureLow := rfl

theorem get_retardShortfall (m : TripMarks) : m.get .retardShortfall = m.retardShortfall := rfl

/-! ### The steering-pressure counter (R83, R84) -/

theorem steeringAtExpiry_pressureCount (s : State) :
    (steeringAtExpiry s).traction.pressureCount = pressureCountAfter s := by
  unfold steeringAtExpiry
  dsimp only
  split <;> simp

/-- STEER_PRESSURE_LOW is present while the counter stands at 20. -/
theorem steeringAtExpiry_mark (s : State) :
    (steeringAtExpiry s).present.get .steerPressureLow = decide (pressureCountAfter s = 20) := by
  unfold steeringAtExpiry
  dsimp only
  split <;> simp [markPresent]

/-- Going from 19 to 20 the counter raises STEER_PRESSURE_LOW with the pressure read. -/
theorem steeringAtExpiry_rises {s : State} (hcount : s.traction.pressureCount = 19) (hend : pressureCountAfter s = 20) :
    steeringAtExpiry s = raiseTrip .steerPressureLow (some ((demandInForce s.intake).pressure : Int))
      (markPresent .steerPressureLow true (s.withTraction { s.traction with pressureCount := 20 })) := by
  simp [steeringAtExpiry, hcount, hend]

theorem steerPressureLow_effect {s : State} (hlow : s.resetLow = false) (hcount : s.traction.pressureCount = 19)
    (hpressure : (demandInForce s.intake).pressure < steerMin s.store.image) (hmoving : isMoving s.intake = true) :
    ∃ t, exec .steerPressureLow s = .next t ∧
      raised .steerPressureLow (some ((demandInForce s.intake).pressure : Int)) s t ∧ t = { s with
        traction := { s.traction with pressureCount := 20 }
        present := { s.present with steerPressureLow := true }
        trips := t.trips, engine := t.engine, tripOut := t.tripOut } := by
  have hend : pressureCountAfter s = 20 := by simp [pressureCountAfter, hpressure, hmoving, hcount, saturate]
  have hexec : exec .steerPressureLow s = .next (steeringAtExpiry s) := by
    refine congrArg Host.Outcome.next ?_
    rw [whileReleased_high hlow]
    simp [whenDue, pressureDue, hcount, hend]
  rw [steeringAtExpiry_rises hcount hend] at hexec
  refine ⟨_, hexec, raiseTrip_raised .steerPressureLow _
    (markPresent .steerPressureLow true (s.withTraction { s.traction with pressureCount := 20 })), ?_⟩
  rw [raiseTrip_eq]
  rfl

/-! ### The shortfall count (R126, R127) -/

theorem shortfallRuns_iff (s : State) : shortfallRuns s = true ↔
    s.intake.l1 = .fresh ∧ s.engine.grant.regime = .retard ∧ s.engine.retardFraction = 1000 ∧
      s.engine.speedLimit + shortfallMargin s.store.image < refSpeedOr0 s.intake := by
  simp [shortfallRuns, and_assoc]

theorem stepShortfall_shortfall (s : State) : (stepShortfall s).planner.shortfall = shortfallAfter s := by
  simp [stepShortfall]

/-- RETARD_SHORTFALL is absent at 0, present where the count reaches its end, and as it was elsewhere. -/
theorem stepShortfall_mark (s : State) : (stepShortfall s).present.get .retardShortfall =
    if shortfallAfter s = 0 then false else shortfallReaches s || s.present.retardShortfall := by
  unfold stepShortfall
  dsimp only
  rw [judgeCondition_get, if_pos rfl]

/-- RETARD_SHORTFALL is latched where it comes present. -/
theorem stepShortfall_latches {s : State} (hnow : (stepShortfall s).present.get .retardShortfall = true)
    (habsent : s.present.retardShortfall = false) : isLatched .retardShortfall (stepShortfall s) := by
  rw [stepShortfall_mark] at hnow
  have hbefore (p : Planner) : (s.withPlanner p).present.get .retardShortfall = false := habsent
  unfold stepShortfall isLatched
  dsimp only
  rw [judgeCondition_latched, hnow, hbefore]
  simp

/-- A count one below SHORTFALL_INTERVALS reaches it where it runs. -/
theorem shortfallReaches_of_runs {s : State} (hruns : shortfallRuns s = true)
    (hcount : s.planner.shortfall + 1 = shortfallIntervals s.store.image) :
    shortfallAfter s = shortfallIntervals s.store.image ∧ shortfallReaches s = true := by
  have hend : shortfallAfter s = shortfallIntervals s.store.image := by
    rw [shortfallAfter, if_pos hruns, hcount, min_self]
  exact ⟨hend, (shortfallReaches_iff s).mpr ⟨hend, by omega⟩⟩

/-- The count that comes to SHORTFALL_INTERVALS from one below, RETARD_SHORTFALL absent, raises it with the reference speed. -/
theorem stepShortfall_rises {s : State} (hruns : shortfallRuns s = true)
    (hcount : s.planner.shortfall + 1 = shortfallIntervals s.store.image) (habsent : s.present.retardShortfall = false) :
    stepShortfall s = raiseTrip .retardShortfall (some (refSpeedOr0 s.intake : Int)) (markPresent .retardShortfall true
      (s.withPlanner { s.planner with shortfall := shortfallIntervals s.store.image })) := by
  obtain ⟨hend, hreaches⟩ := shortfallReaches_of_runs hruns hcount
  have hsome : shortfallIntervals s.store.image ≠ 0 := by omega
  unfold stepShortfall
  dsimp only
  rw [hend, hreaches, if_neg hsome, Bool.true_or]
  exact judgeCondition_rises habsent

theorem retardShortfall_effect {s : State} (hlow : s.resetLow = false) (hruns : shortfallRuns s = true)
    (hcount : s.planner.shortfall + 1 = shortfallIntervals s.store.image) (habsent : s.present.retardShortfall = false) :
    ∃ t, exec .retardShortfall s = .next t ∧
      raised .retardShortfall (some (refSpeedOr0 s.intake : Int)) s t ∧ t = { s with
        planner := { s.planner with shortfall := shortfallIntervals s.store.image }
        present := { s.present with retardShortfall := true }
        trips := t.trips, engine := t.engine, tripOut := t.tripOut } := by
  obtain ⟨-, hreaches⟩ := shortfallReaches_of_runs hruns hcount
  have hexec : exec .retardShortfall s = .next (stepShortfall s) := by
    refine congrArg Host.Outcome.next ?_
    rw [whileReleased_high hlow]
    simp [whenDue, shortfallDue, hruns, hreaches, habsent]
  rw [stepShortfall_rises hruns hcount habsent] at hexec
  refine ⟨_, hexec, raiseTrip_raised .retardShortfall _ (markPresent .retardShortfall true
    (s.withPlanner { s.planner with shortfall := shortfallIntervals s.store.image })), ?_⟩
  rw [raiseTrip_eq]
  rfl

/-- Settles O15: each event is the raise of its code. -/
theorem pressureAndShortfallEventsLatch : Obligations.PressureAndShortfallEventsLatch :=
  ⟨fun _ hlow hcount hpressure hmoving => steerPressureLow_effect hlow hcount hpressure hmoving,
    fun s hlow hfresh hretard hfraction hspeed hcount habsent =>
      retardShortfall_effect hlow ((shortfallRuns_iff s).mpr ⟨hfresh, hretard, hfraction, hspeed⟩) hcount habsent⟩

/-! ### Their share of an expiry (R142) -/

/-- The state in which an expiry steps the steering-pressure counter. -/
def beforeSteering (s : State) : State := thermalAtExpiry (settlePayload (countStandstill (countL2 (afterL1 s))))

/-- The state in which an expiry steps the shortfall count. -/
def beforeShortfall (s : State) : State := travelPlan (steeringAtExpiry (beforeSteering s))

theorem expireInterval_eq_stepShortfall (s : State) :
    expireInterval s = storeAtExpiry (stepShortfall (beforeShortfall s)) := rfl

theorem expireInterval_measurement (s : State) : (expireInterval s).intake.measurement = s.intake.measurement := by
  simp [expireInterval_eq, afterL1]

/-- The counter reads the INTAKE UNIT as the expiry leaves it. -/
theorem beforeSteering_frame (s : State) :
    (beforeSteering s).intake = (expireInterval s).intake ∧ (beforeSteering s).store = s.store ∧
    (beforeSteering s).traction.pressureCount = s.traction.pressureCount := by
  refine ⟨?_, ?_, ?_⟩ <;> simp [expireInterval_eq, beforeSteering, afterL1]

/-- The count reads the INTAKE UNIT as the expiry leaves it, and the engine as the expiry found it. -/
theorem beforeShortfall_frame (s : State) :
    (beforeShortfall s).intake = (expireInterval s).intake ∧ (beforeShortfall s).store = s.store ∧
    (beforeShortfall s).engine.grant.regime = s.engine.grant.regime ∧
    (beforeShortfall s).engine.retardFraction = s.engine.retardFraction ∧
    (beforeShortfall s).engine.speedLimit = s.engine.speedLimit ∧
    (beforeShortfall s).planner.shortfall = s.planner.shortfall := by
  refine ⟨?_, ?_, ?_, ?_, ?_, ?_⟩ <;> simp [expireInterval_eq, beforeShortfall, beforeSteering, afterL1]

/-- No owner before the planner touches RETARD_SHORTFALL. -/
theorem beforeShortfall_mark (s : State) : (beforeShortfall s).present.retardShortfall = s.present.retardShortfall := by
  rw [← get_retardShortfall, ← get_retardShortfall]
  simp [beforeShortfall, beforeSteering, steeringAtExpiry_get, thermalAtExpiry_get, countL2_get, afterL1_get]

/-- The counter runs on a truck that moves with a pressure below STEER_MIN (R83). -/
theorem pressureCountAfter_beforeSteering (s : State) : pressureCountAfter (beforeSteering s) =
    if (demandInForce (expireInterval s).intake).pressure < steerMin s.store.image ∧ isMoving s.intake = true
    then min (s.traction.pressureCount + 1) 20 else 0 := by
  obtain ⟨hintake, hstore, hcount⟩ := beforeSteering_frame s
  have hmoving : isMoving (expireInterval s).intake = isMoving s.intake := by
    rw [isMoving, expireInterval_measurement, isMoving]
  rw [pressureCountAfter, hintake, hmoving, hstore, hcount, saturate]

/-- What the expiry leaves of the counter and of STEER_PRESSURE_LOW is what the TRACTION AND STEERING UNIT made of them. -/
theorem expireInterval_steering (s : State) :
    (expireInterval s).traction.pressureCount = pressureCountAfter (beforeSteering s) ∧
    (expireInterval s).present.steerPressureLow = decide (pressureCountAfter (beforeSteering s) = 20) := by
  constructor
  · rw [← steeringAtExpiry_pressureCount]
    simp [expireInterval_eq, beforeSteering]
  · rw [← get_steerPressureLow, ← steeringAtExpiry_mark]
    simp [expireInterval_eq, plannerAtExpiry_get, beforeSteering]

theorem expireInterval_pressureLatches {s : State} (hcount : s.traction.pressureCount = 19)
    (hend : pressureCountAfter (beforeSteering s) = 20) : isLatched .steerPressureLow (expireInterval s) := by
  obtain ⟨-, -, hsame⟩ := beforeSteering_frame s
  have hlatched : isLatched .steerPressureLow (steeringAtExpiry (beforeSteering s)) := by
    rw [steeringAtExpiry_rises (hsame.trans hcount) hend, isLatched, raiseTrip_get]
    simp
  have hkept := isLatched_kept .steerPressureLow
  rw [expireInterval_eq]
  exact hkept.storeAtExpiry _ (hkept.plannerAtExpiry _ hlatched)

/-- The shortfall count runs by its table (R126). -/
theorem shortfallAfter_beforeShortfall (s : State) : shortfallAfter (beforeShortfall s) =
    if (expireInterval s).intake.l1 = .fresh ∧ s.engine.grant.regime = .retard ∧ s.engine.retardFraction = 1000 ∧
        s.engine.speedLimit + shortfallMargin s.store.image < refSpeedOr0 s.intake
    then min (s.planner.shortfall + 1) (shortfallIntervals s.store.image) else 0 := by
  obtain ⟨hintake, hstore, hregime, hfraction, hlimit, hcount⟩ := beforeShortfall_frame s
  have hspeed : refSpeedOr0 (expireInterval s).intake = refSpeedOr0 s.intake := by
    rw [refSpeedOr0, expireInterval_measurement, refSpeedOr0]
  simp only [shortfallAfter, shortfallRuns_iff, hintake, hspeed, hstore, hregime, hfraction, hlimit, hcount]

/-- RETARD_SHORTFALL after an expiry: absent at 0, present where the count reaches its end, as it was elsewhere (R127). -/
theorem stepShortfall_beforeShortfall_mark (s : State) : (stepShortfall (beforeShortfall s)).present.retardShortfall =
    if shortfallAfter (beforeShortfall s) = 0 then false
    else decide (shortfallAfter (beforeShortfall s) = shortfallIntervals s.store.image ∧
      s.planner.shortfall ≠ shortfallIntervals s.store.image) || s.present.retardShortfall := by
  obtain ⟨-, hstore, -, -, -, hcount⟩ := beforeShortfall_frame s
  have hreaches : shortfallReaches (beforeShortfall s) = decide (shortfallAfter (beforeShortfall s) =
      shortfallIntervals s.store.image ∧ s.planner.shortfall ≠ shortfallIntervals s.store.image) := by
    rw [Bool.eq_iff_iff, shortfallReaches_iff, decide_eq_true_iff, hstore, hcount]
  rw [← get_retardShortfall, stepShortfall_mark, hreaches, beforeShortfall_mark]

/-- The TABLE STORE comes last and leaves what the planner made of its condition. -/
theorem expireInterval_planner (s : State) :
    (expireInterval s).planner.shortfall = shortfallAfter (beforeShortfall s) ∧
    (expireInterval s).present = (stepShortfall (beforeShortfall s)).present ∧
    (expireInterval s).trips = (stepShortfall (beforeShortfall s)).trips := by
  rw [← stepShortfall_shortfall]
  simp only [expireInterval_eq_stepShortfall, storeAtExpiry_frame, and_self]

/-- Settles O12: each count and each mark by its lemma, the latches where they come present. -/
theorem expiryRunsPressureAndShortfall : Obligations.ExpiryRunsPressureAndShortfall := by
  intro s hlow
  refine ⟨_, exec_expiry hlow, ?_⟩
  obtain ⟨hpressure, hlowMark⟩ := expireInterval_steering s
  obtain ⟨hshortfall, hpresent, htrips⟩ := expireInterval_planner s
  have hmark := stepShortfall_beforeShortfall_mark s
  have hpressureLatches := expireInterval_pressureLatches (s := s)
  have hlatches := stepShortfall_latches (s := beforeShortfall s)
  rw [beforeShortfall_mark, get_retardShortfall] at hlatches
  simp only [isLatched, get_steerPressureLow, get_retardShortfall, htrips] at hpressureLatches hlatches
  rw [hpressure, hlowMark, hshortfall, hpresent, htrips, decide_eq_true_iff]
  refine ⟨pressureCountAfter_beforeSteering s, Iff.rfl, hpressureLatches, shortfallAfter_beforeShortfall s,
    fun hzero => by rw [hmark, if_pos hzero], fun hrunning => ?_, hlatches⟩
  rw [hmark, if_neg hrunning]
  refine ⟨fun hbelow hend => ?_, fun hquiet => ?_⟩
  · rw [decide_eq_true ⟨hend, hbelow.ne⟩, Bool.true_or]
  · rw [decide_eq_false fun ⟨hend, hbelow⟩ => hquiet.elim hbelow hend.not_lt, Bool.false_or]

end Sys2Proof.Proofs
end

section
/-! SUPPORT. The operations of the THERMAL MONITOR, and every step keeps the grid estimate, the holds, the bands and the BOOST
TIMERS (O56). -/

namespace Sys2Proof.Proofs

open Sys2Proof.Machine Sys2Proof.Safety Sys2Proof.Claims

/-! ### The BOOST TIMERS (R100, R102 to R105) -/

theorem motorBandOf_le (x : Int) : motorBandOf x ≤ 7 := List.length_filter_le _ _

theorem motorBandNow_le {m : Motor} {b : Nat} (h : motorBandNow m = some b) : b ≤ 7 := by
  unfold motorBandNow at h
  split at h
  · cases h
  · obtain ⟨x, -, rfl⟩ := Option.map_eq_some_iff.mp h
    exact motorBandOf_le x
  · obtain ⟨x, -, rfl⟩ := Option.map_eq_some_iff.mp h
    exact motorBandOf_le x
  · exact (Option.some.inj h).ge

/-- BOOST_A and BOOST_B lie within the range of a BOOST count (R11, R100). -/
def windowsFit (im : Image) : Prop := boostA im ≤ 6000 ∧ boostB im ≤ 6000

theorem windowsFit_of_tables {s : State} (h : tablesSound s) : windowsFit s.store.image := by
  have hboost : boostA s.store.image ≤ 1200 := (param_bounds h 20 0 (by omega) (by omega) rfl).2
  have hrecover : boostB s.store.image ≤ 6000 := (param_bounds h 20 1 (by omega) (by omega) rfl).2
  exact ⟨by omega, hrecover⟩

theorem timerSound_recover {n : Nat} {reference : Option Nat} (hn : n ≤ 6000) (href : ∀ b, reference = some b → b ≤ 7) :
    timerSound ⟨.recover, n, reference⟩ := ⟨hn, nofun, fun h => absurd rfl h, href⟩

/-- A sound timer stays sound with a count in range, unless it is IDLE. -/
theorem timerSound_counted {t : BoostTimer} {n : Nat} (h : timerSound t) (hstate : t.state ≠ .idle) (hn : n ≤ 6000) :
    timerSound { t with count := n } := by
  obtain ⟨-, -, hidle, href⟩ := h
  exact ⟨hn, fun h => absurd h hstate, hidle, href⟩

theorem receiveBand_sound (im : Image) {band : Nat} {t : BoostTimer} (hband : band ≤ 7) (h : timerSound t) :
    timerSound (receiveBand im band t) := by
  have hreceived {n : Nat} (hn : n ≤ 6000) : timerSound ⟨.recover, n, some band⟩ :=
    timerSound_recover hn fun _ e => Option.some.inj e ▸ hband
  obtain ⟨state, count, reference⟩ := t
  cases state with
  | idle => exact h
  | boost =>
    simp only [receiveBand]
    split_ifs
    · exact hreceived (Nat.zero_le _)
    · exact h
  | recover =>
    cases reference with
    | none => exact hreceived h.1
    | some r =>
      simp only [receiveBand]
      split_ifs
      · exact hreceived (Nat.zero_le _)
      · exact h

theorem countBoost_sound {im : Image} {band : Option Nat} {t : BoostTimer} (hfit : windowsFit im)
    (hband : ∀ b, band = some b → b ≤ 7) (h : timerSound t) : timerSound (countBoost im band t) := by
  obtain ⟨hboost, hrecover⟩ := hfit
  unfold countBoost
  split
  next => exact h
  next hstate =>
    split_ifs
    · exact timerSound_recover (Nat.zero_le _) hband
    · exact timerSound_counted h (by simp [hstate]) (by omega)
  next hstate =>
    split_ifs
    · exact ⟨Nat.zero_le _, fun _ => rfl, fun _ => rfl, nofun⟩
    · exact timerSound_counted h (by simp [hstate]) (by omega)

/-! ### The sensor holds and the bands (R95 to R98) -/

/-- The row of R95's table that the hold state names, with a temperature that a VALID reading gave. -/
def holdSound (m : Motor) : Prop :=
  (m.hold = .none → m.temp = none ∧ m.holdCount = 0) ∧ (m.hold = .live → m.temp.isSome = true ∧ m.holdCount = 0) ∧
  (m.hold = .holding → m.temp.isSome = true ∧ m.holdCount ≤ 9) ∧ (m.hold = .expired → m.temp = none) ∧ m.holdCount ≤ 10 ∧
  (∀ x, m.temp = some x → -50 ≤ x ∧ x ≤ 300)

theorem motorSound_iff (m : Motor) : motorSound m ↔
    holdSound m ∧ m.band = motorBandNow m ∧ (m.band = none → m.md = 0) ∧ timerSound m.boost := by
  simp only [motorSound, holdSound, and_assoc]

/-- A motor LIVE with a VALID reading. -/
theorem holdSound_live {m : Motor} {reading : Int} (hlive : m.hold = .live) (htemp : m.temp = some reading)
    (hcount : m.holdCount = 0) (hreading : -50 ≤ reading ∧ reading ≤ 300) : holdSound m := by
  refine ⟨by simp [hlive], fun _ => ⟨by simp [htemp], hcount⟩, by simp [hlive], by simp [hlive], by simp [hcount], fun x hx => ?_⟩
  exact Option.some.inj (htemp.symm.trans hx) ▸ hreading

theorem moveHold_sound {reading : Int} {valid : Bool} {m : Motor} (hreading : valid = true → -50 ≤ reading ∧ reading ≤ 300)
    (h : holdSound m) : holdSound (moveHold reading valid m) := by
  obtain ⟨hold, count, temp, band, md, boost⟩ := m
  obtain ⟨hnone, hlive, hholding, hexpired, hle, htemp⟩ := id h
  cases hold <;> cases valid
  case none.false => exact ⟨nofun, nofun, nofun, fun _ => (hnone rfl).1, hle, htemp⟩
  case none.true => exact holdSound_live rfl rfl (hnone rfl).2 (hreading rfl)
  case live.false => exact ⟨nofun, nofun, fun _ => ⟨(hlive rfl).1, Nat.zero_le _⟩, nofun, Nat.zero_le _, htemp⟩
  case live.true => exact holdSound_live rfl rfl (hlive rfl).2 (hreading rfl)
  case holding.false => exact h
  case holding.true => exact holdSound_live rfl rfl rfl (hreading rfl)
  case expired.false => exact h
  case expired.true => exact holdSound_live rfl rfl rfl (hreading rfl)

theorem countHold_sound {m : Motor} (h : holdSound m) : holdSound (countHold m) := by
  obtain ⟨hnone, hlive, hholding, hexpired, hle, htemp⟩ := id h
  unfold countHold
  split_ifs with hhold hten
  · exact ⟨nofun, nofun, nofun, fun _ => rfl, le_rfl, nofun⟩
  · exact ⟨by simp [hhold], by simp [hhold], fun _ => ⟨(hholding hhold).1, by dsimp; omega⟩, by simp [hhold],
      by dsimp; omega, htemp⟩
  · exact h

@[simp] theorem countHold_boost (m : Motor) : (countHold m).boost = m.boost := by
  unfold countHold
  split_ifs <;> rfl

theorem formMotorBand_sound (im : Image) {m : Motor} (hhold : holdSound m) (htimer : timerSound m.boost) :
    motorSound (formMotorBand im m) :=
  (motorSound_iff _).mpr ⟨hhold, rfl, fun hband => congrArg (mdOf im) hband, htimer⟩

theorem handBand_sound (im : Image) {m : Motor} (h : motorSound m) : motorSound (handBand im m) := by
  obtain ⟨hhold, hband, hmd, htimer⟩ := (motorSound_iff m).mp h
  unfold handBand
  split
  next => exact h
  next b hb => exact (motorSound_iff _).mpr ⟨hhold, hband, hmd, receiveBand_sound im (motorBandNow_le (hband ▸ hb)) htimer⟩

theorem countMotorBoost_sound {im : Image} {m : Motor} (hfit : windowsFit im) (h : motorSound m) :
    motorSound (countMotorBoost im m) := by
  obtain ⟨hhold, hband, hmd, htimer⟩ := (motorSound_iff m).mp h
  exact (motorSound_iff _).mpr
    ⟨hhold, hband, hmd, countBoost_sound hfit (fun b hb => motorBandNow_le (hband.symm.trans hb)) htimer⟩

theorem motorAtMeasure_sound (im : Image) {reading : Int} {valid : Bool} {m : Motor}
    (hreading : valid = true → -50 ≤ reading ∧ reading ≤ 300) (h : motorSound m) :
    motorSound (motorAtMeasure im reading valid m) := by
  obtain ⟨hhold, -, -, htimer⟩ := (motorSound_iff m).mp h
  exact handBand_sound im (formMotorBand_sound im (moveHold_sound hreading hhold) (moveHold_boost reading valid m ▸ htimer))

/-- The hold counted and the band formed afresh, as an expiry and SENSOR_HOLD_EXPIRED do (R97, R98). -/
theorem formMotorBand_countHold_sound (im : Image) {m : Motor} (h : motorSound m) :
    motorSound (formMotorBand im (countHold m)) := by
  obtain ⟨hhold, -, -, htimer⟩ := (motorSound_iff m).mp h
  exact formMotorBand_sound im (countHold_sound hhold) (countHold_boost m ▸ htimer)

theorem motorAtExpiry_sound {im : Image} {m : Motor} (hfit : windowsFit im) (h : motorSound m) :
    motorSound (motorAtExpiry im m) :=
  handBand_sound im (countMotorBoost_sound hfit (formMotorBand_countHold_sound im h))

/-- A wheel enters BOOST from IDLE, where it has no reference band (R101). -/
theorem boosted_sound {m : Motor} (hidle : m.boost.state = .idle) (h : motorSound m) : motorSound (boosted m) := by
  obtain ⟨hhold, hband, hmd, -, -, hreference, href⟩ := (motorSound_iff m).mp h
  exact (motorSound_iff _).mpr
    ⟨hhold, hband, hmd, Nat.zero_le _, nofun, fun _ => hreference (by simp [hidle]), href⟩

theorem motorSound_afterReset {t : BoostTimer} (h : timerSound t) : motorSound (.afterReset t) :=
  (motorSound_iff _).mpr ⟨⟨fun _ => ⟨rfl, rfl⟩, nofun, nofun, nofun, Nat.zero_le _, nofun⟩, rfl, fun _ => rfl, h⟩

/-! ### The grid (R87 to R93) -/

/-- Division that rounds toward zero, by the magnitude of what is divided (R90, R91). -/
theorem tdiv_eq_magnitude (x : Int) (n : Nat) :
    Int.tdiv x n = if 0 ≤ x then ((x.toNat / n : Nat) : Int) else -(((-x).toNat / n : Nat) : Int) := by
  split
  next h =>
    obtain ⟨k, rfl⟩ := Int.eq_ofNat_of_zero_le h
    rfl
  next h =>
    obtain ⟨k, hk⟩ := Int.eq_ofNat_of_zero_le (a := -x) (by omega)
    obtain rfl : x = -(k : Int) := by omega
    rw [Int.neg_tdiv, neg_neg]
    rfl

/-- What the grid is formed from within its ranges: G in −800..10400, the input copy in bounds (R87, R89). -/
def gridFit (g : Grid) : Prop :=
  -800 ≤ g.g ∧ g.g ≤ 10400 ∧ g.power ≤ 6000 ∧ -50 ≤ g.ambient ∧ g.ambient ≤ 60 ∧ carries g.sensor ∧
  (g.sensorValid = true → -50 ≤ g.sensor ∧ g.sensor ≤ 700)

/-- The effective temperature lies within its range, and the band is its band (R91, R92). -/
theorem formBand_sound {g : Grid} (h : gridFit g) : gridSound (formBand g) := by
  obtain ⟨hlow, hhigh, hpower, hcold, hwarm, hcarries, hsensor⟩ := h
  have hdegrees : -50 ≤ Int.tdiv g.g 16 ∧ Int.tdiv g.g 16 ≤ 650 := by
    have hmagnitude : Int.tdiv g.g 16 = _ := tdiv_eq_magnitude g.g 16
    split at hmagnitude <;> omega
  have heffective : -50 ≤ effectiveOf g.g g.sensor g.sensorValid ∧ effectiveOf g.g g.sensor g.sensorValid ≤ 700 := by
    unfold effectiveOf
    split
    next hvalid =>
      have hvalid := hsensor hvalid
      omega
    next => omega
  exact ⟨hlow, hhigh, heffective.1, heffective.2, rfl, hpower, hcold, hwarm, hcarries, hsensor⟩

theorem clampG_bounds (x : Int) : -800 ≤ clampG x ∧ clampG x ≤ 10400 := by
  simp only [clampG, clampInt]
  omega

/-- A model step moves G within its range (R90). -/
theorem gridFit_step (im : Image) {g : Grid} (h : gridSound g) : gridFit { g with g := stepG im g } := by
  obtain ⟨-, -, -, -, -, hinputs⟩ := h
  obtain ⟨hlow, hhigh⟩ := clampG_bounds (g.g + gridHeat im g.power - gridCooling im g)
  exact ⟨hlow, hhigh, hinputs⟩

/-- The estimate that a MEASURE leaves: G as it stands, or its seed (R88). -/
def estimateAtMeasure (m : MeasurementRecord) (grid : Option Grid) : Int :=
  match grid with
  | none => seedG m
  | some g => g.g

/-- A MEASURE forms the grid with its estimate and the inputs of the record (R88, R89). -/
theorem gridAtMeasure_eq (m : MeasurementRecord) (s : State) :
    gridAtMeasure m s = formGrid (gridWithInputs (estimateAtMeasure m s.thermal.grid) m) s := by
  unfold gridAtMeasure estimateAtMeasure
  split <;> simp [*]

theorem estimateAtMeasure_bounds {m : MeasurementRecord} {grid : Option Grid} (hm : measurementSound m)
    (h : ∀ g, grid = some g → gridSound g) :
    -800 ≤ estimateAtMeasure m grid ∧ estimateAtMeasure m grid ≤ 10400 := by
  obtain ⟨-, -, -, -, -, -, -, -, hcold, hwarm⟩ := hm
  cases grid with
  | none =>
    simp only [estimateAtMeasure, seedG]
    split
    · exact clampG_bounds _
    · omega
  | some g =>
    obtain ⟨hlow, hhigh, -⟩ := h g rfl
    exact ⟨hlow, hhigh⟩

theorem gridFit_measured {m : MeasurementRecord} {grid : Option Grid} (hm : measurementSound m)
    (h : ∀ g, grid = some g → gridSound g) : gridFit (gridWithInputs (estimateAtMeasure m grid) m) := by
  obtain ⟨hlow, hhigh⟩ := estimateAtMeasure_bounds hm h
  obtain ⟨-, -, -, -, hpower, hcarries, hsensor, -, hcold, hwarm⟩ := hm
  exact ⟨hlow, hhigh, hpower, hcold, hwarm, hcarries, hsensor.mp⟩

/-! ### The monitor on the whole part -/

theorem formGrid_keepsThermal {g : Grid} {s : State} (hg : gridFit g) (h : thermalSound s.thermal) :
    thermalSound (formGrid g s).thermal := by
  obtain ⟨-, -, hmotor⟩ := h
  refine ⟨fun g' hg' => ?_, fun hnone => ?_, by simpa using hmotor⟩
  · obtain rfl := Option.some.inj ((formGrid_thermal g s).symm.trans hg')
    exact formBand_sound hg
  · cases (formGrid_thermal g s).symm.trans hnone

theorem onMotor_keepsThermal {w : Wheel} {f : Motor → Motor} {s : State}
    (hf : motorSound (s.thermal.motor.get w) → motorSound (f (s.thermal.motor.get w))) (h : thermalSound s.thermal) :
    thermalSound (onMotor w f s).thermal := by
  obtain ⟨hgrid, hgd, hmotor⟩ := h
  refine ⟨hgrid, hgd, fun v => ?_⟩
  by_cases hv : v = w
  · subst hv
    simpa [onMotor] using hf (hmotor v)
  · simpa [onMotor, hv] using hmotor v

theorem thermalAtExpiry_keepsThermal {s : State} (hfit : windowsFit s.store.image) (h : thermalSound s.thermal) :
    thermalSound (thermalAtExpiry s).thermal := by
  have hgrid : thermalSound (gridAtExpiry s).thermal := by
    unfold gridAtExpiry
    split
    next => exact h
    next g hg => exact formGrid_keepsThermal (gridFit_step _ (h.1 g hg)) h
  have hfit' : windowsFit (gridAtExpiry s).store.image := by simpa using hfit
  exact onMotor_keepsThermal (motorAtExpiry_sound hfit') (onMotor_keepsThermal (motorAtExpiry_sound hfit') hgrid)

/-- The state in which an expiry comes to the THERMAL MONITOR. -/
def beforeThermal (s : State) : State := settlePayload (countStandstill (countL2 (afterL1 s)))

/-- It finds its own state, the tables and its marks as the expiry found them. -/
theorem beforeThermal_frame (s : State) :
    (beforeThermal s).thermal = s.thermal ∧ (beforeThermal s).store = s.store ∧
    (beforeThermal s).present.get .gridOvertemp = s.present.get .gridOvertemp := by
  refine ⟨?_, ?_, ?_⟩ <;> simp [beforeThermal, afterL1, countL2_get, countL1_get]

/-- The blocks after it leave its state (R142). -/
theorem expireInterval_thermal (s : State) : (expireInterval s).thermal = (thermalAtExpiry (beforeThermal s)).thermal := by
  simp [expireInterval_eq, beforeThermal]

theorem expireInterval_keepsThermal {s : State} (hfit : windowsFit s.store.image) (h : thermalSound s.thermal) :
    thermalSound (expireInterval s).thermal := by
  obtain ⟨hthermal, hstore, -⟩ := beforeThermal_frame s
  rw [expireInterval_thermal]
  exact thermalAtExpiry_keepsThermal (by rwa [hstore]) (by rwa [hthermal])

theorem takeMeasure_keepsThermal {m : MeasurementRecord} {s : State} (hm : measurementSound m) (h : thermalSound s.thermal) :
    thermalSound (takeMeasure m s).thermal := by
  have hintake : thermalSound (intakeAtMeasure m s).thermal := by simpa using h
  have hgrid : thermalSound (gridAtMeasure m (intakeAtMeasure m s)).thermal := by
    rw [gridAtMeasure_eq]
    exact formGrid_keepsThermal (gridFit_measured hm hintake.1) hintake
  obtain ⟨-, -, -, hwinding, -⟩ := hm
  have hwheel (w : Wheel) {u : State} (hu : thermalSound u.thermal) : thermalSound (wheelAtMeasure w m u).thermal := by
    simpa [wheelAtMeasure] using onMotor_keepsThermal (motorAtMeasure_sound u.store.image (hwinding w).2.mp) hu
  simpa [takeMeasure, thermalAtMeasure] using hwheel .right (hwheel .left hgrid)

/-- The stages of a pass put a wheel into BOOST from IDLE alone (R101). -/
theorem runStages_keepsThermal {s : State} (h : thermalSound s.thermal) : thermalSound (runStages s).thermal := by
  obtain ⟨hgrid, hgd, hmotor⟩ := id h
  unfold runStages
  split
  next n _ =>
    rw [computeStages_eq]
    refine ⟨hgrid, hgd, fun w => ?_⟩
    rw [Both.get_of]
    split
    next hentering =>
      have hidle : (s.thermal.motor.get w).boost.state = .idle := by
        simp only [enteringBoost, boostEntered, Bool.and_eq_true] at hentering
        obtain ⟨-, hentered⟩ := hentering
        split at hentered
        next hidle _ => exact hidle
        next => cases hentered
      exact boosted_sound hidle (hmotor w)
    next => exact hmotor w
  next => exact h

theorem thermalSound_afterReset : thermalSound .afterReset := by
  have htimer : timerSound .afterReset := ⟨Nat.zero_le _, fun _ => rfl, fun _ => rfl, nofun⟩
  exact ⟨nofun, fun _ => rfl, by rintro ⟨⟩ <;> exact motorSound_afterReset htimer⟩

/-- A warm restart keeps grid and BOOST TIMERS, with the sensor copy marked INVALID (R108). -/
theorem thermalAfterWarm_sound {t : Thermal} (h : thermalSound t) : thermalSound (thermalAfterWarm t) := by
  obtain ⟨hgrid, hgd, hmotor⟩ := h
  refine ⟨fun g hg => ?_, fun hnone => hgd (Option.map_eq_none_iff.mp hnone), fun w => ?_⟩
  · obtain ⟨kept, hkept, rfl⟩ := Option.map_eq_some_iff.mp hg
    obtain ⟨hlow, hhigh, hcold, hhot, hband, hpower, hambient, hambient', hcarries, -⟩ := hgrid kept hkept
    exact ⟨hlow, hhigh, hcold, hhot, hband, hpower, hambient, hambient', hcarries, nofun⟩
  · obtain ⟨-, -, -, htimer⟩ := (motorSound_iff _).mp (hmotor w)
    simpa [thermalAfterWarm] using motorSound_afterReset htimer

/-! ### Every step -/

/-- Every command keeps the THERMAL MONITOR sound. -/
theorem effect_thermal {c : Instr} {s t : State} (hfit : windowsFit s.store.image) (h : thermalSound s.thermal)
    (e : Effect s c t) : thermalSound t.thermal := by
  cases e with
  | aside haside => exact haside.thermal ▸ h
  | coldReset n => exact thermalSound_afterReset
  | released => exact h
  | validated r => simpa [completeValidation] using h
  | restarted => exact thermalAfterWarm_sound h
  | expired => exact expireInterval_keepsThermal hfit h
  | l1Stale => simpa using h
  | l2Stale => simpa using h
  | grace => simpa using h
  | holdExpired w => exact onMotor_keepsThermal (fun hm => handBand_sound _ (formMotorBand_countHold_sound _ hm)) h
  | boostCounted w => exact onMotor_keepsThermal (countMotorBoost_sound hfit) h
  | pressure => simpa using h
  | shortfall => simpa using h
  | measured payload r _ =>
    rw [(setReceive_aside .l1 r _).thermal]
    obtain ⟨body, pass, held, e⟩ := engineAtMeasure_eq payload (takeMeasure (measureOf payload) (heard .l1 s))
    rw [e]
    exact takeMeasure_keepsThermal (measureOf_sound payload) ((heard_aside .l1 s).thermal ▸ h)
  | completed b =>
    rw [completePass_thermal]
    exact runStages_keepsThermal h
  | demanded payload r => simpa [heard] using h
  | cleared payload r => simpa [clearTrips, heard] using h
  | access payload level haside => exact haside.thermal ▸ h
  | verified found st _ => simpa using h

/-- Settles O56, effect by effect. -/
theorem stepKeepsTheThermalMonitor : Obligations.StepKeepsTheThermalMonitor := by
  intro s t h htables e
  rcases step_effect e with rfl | rfl | ⟨c, rest, heffect⟩
  · exact h
  · exact runStages_keepsThermal (by simpa using h)
  · exact effect_thermal (s := s.withPending rest) (windowsFit_of_tables htables) h heffect

end Sys2Proof.Proofs
end

section
/-! SUPPORT. The THERMAL MONITOR's share of an expiry, and the events of its holds and BOOST TIMERS (O10, O11, O16). -/

namespace Sys2Proof.Proofs

open Sys2Proof.Machine Sys2Proof.Safety Sys2Proof.Claims

/-! ### The grid (R90 to R93) -/

theorem get_gridOvertemp (m : TripMarks) : m.get .gridOvertemp = m.gridOvertemp := rfl

/-- The state with the grid formed, before any notice (R91, R92). -/
def gridFormed (g : Grid) (s : State) : State :=
  s.withThermal { s.thermal with grid := some (formBand g), gd := gridDerate s.store.image (formBand g).band }

/-- Forming the grid gives band or Gd a different value (R124). -/
def gridNotice (g : Grid) (s : State) : Bool :=
  decide (s.thermal.grid.map (·.band) ≠ some (formBand g).band) ||
    decide (s.thermal.gd ≠ gridDerate s.store.image (formBand g).band)

/-- The state with the grid formed and, on a notice, the planner told of it (R124). -/
def gridHandedOn (g : Grid) (s : State) : State :=
  if gridNotice g s then recomputeHead (gridFormed g s) else gridFormed g s

theorem gridHandedOn_frame (g : Grid) (s : State) :
    (gridHandedOn g s).thermal = (gridFormed g s).thermal ∧ (gridHandedOn g s).store = s.store ∧
    (gridHandedOn g s).present = s.present := by
  unfold gridHandedOn
  split <;> simp [gridFormed]

/-- GRID_OVERTEMP is judged once the grid is formed and handed on (R93). -/
theorem formGrid_eq (g : Grid) (s : State) : formGrid g s =
    judgeCondition .gridOvertemp (decide ((gridTrip s.store.image : Int) ≤ (formBand g).effective))
      (some (formBand g).effective) (gridHandedOn g s) := by
  obtain ⟨-, hstore, -⟩ := gridHandedOn_frame g s
  rw [← hstore]
  rfl

theorem formGrid_gd (g : Grid) (s : State) :
    (formGrid g s).thermal.gd = gridDerate s.store.image (formBand g).band := by
  obtain ⟨hthermal, -, -⟩ := gridHandedOn_frame g s
  simp [formGrid_eq, hthermal, gridFormed]

/-- GRID_OVERTEMP is latched where it comes present (R93). -/
theorem formGrid_latches {g : Grid} {s : State} (hnow : (formGrid g s).present.get .gridOvertemp = true)
    (habsent : s.present.get .gridOvertemp = false) : isLatched .gridOvertemp (formGrid g s) := by
  obtain ⟨-, -, hpresent⟩ := gridHandedOn_frame g s
  rw [formGrid_get, if_pos rfl] at hnow
  rw [formGrid_eq, isLatched, judgeCondition_latched, hnow, hpresent, habsent]
  simp

theorem gridAtExpiry_unseeded {s : State} (h : s.thermal.grid = none) : gridAtExpiry s = s := by
  simp [gridAtExpiry, h]

theorem gridAtExpiry_seeded {s : State} {g : Grid} (h : s.thermal.grid = some g) :
    gridAtExpiry s = formGrid { g with g := stepG s.store.image g } s := by
  simp [gridAtExpiry, h]

/-- The cooling by the magnitude of the difference to the ambient, with the sign of the difference (R90). -/
theorem gridCooling_eq (im : Image) (g : Grid) : gridCooling im g =
    (let d := g.g - 16 * g.ambient
     let k := if g.blower then kGcOn im else kGcOff im
     if 0 ≤ d then (d.toNat * k / 4096 : Int) else -(((-d).toNat * k / 4096 : Nat) : Int)) := by
  unfold gridCooling
  dsimp only
  generalize (if g.blower then kGcOn im else kGcOff im) = k
  split
  next h =>
    rw [Int.toNat_of_nonneg h, Int.tdiv_eq_ediv_of_nonneg (Int.mul_nonneg h (Int.natCast_nonneg k))]
  next h =>
    obtain ⟨n, hn⟩ := Int.eq_ofNat_of_zero_le (a := -(g.g - 16 * g.ambient)) (by omega)
    rw [hn, ← neg_neg (g.g - 16 * g.ambient), hn, Int.neg_mul, Int.neg_tdiv]
    rfl

/-- What the expiry leaves of the grid, Gd and GRID_OVERTEMP is what the grid side made of them. -/
theorem expireInterval_gridSide (s : State) :
    (expireInterval s).thermal.grid = (gridAtExpiry (beforeThermal s)).thermal.grid ∧
    (expireInterval s).thermal.gd = (gridAtExpiry (beforeThermal s)).thermal.gd ∧
    (expireInterval s).present.get .gridOvertemp = (gridAtExpiry (beforeThermal s)).present.get .gridOvertemp := by
  refine ⟨?_, ?_, ?_⟩
  · simp [expireInterval_thermal, thermalAtExpiry]
  · simp [expireInterval_thermal, thermalAtExpiry]
  · simp [expireInterval_eq, plannerAtExpiry_get, steeringAtExpiry_get, thermalAtExpiry, beforeThermal]

/-- No block that follows the grid side undoes a latch. -/
theorem expireInterval_keepsGridLatch {s : State} (h : isLatched .gridOvertemp (gridAtExpiry (beforeThermal s))) :
    isLatched .gridOvertemp (expireInterval s) := by
  have hkept := isLatched_kept .gridOvertemp
  exact hkept.storeAtExpiry _ (hkept.plannerAtExpiry _ (hkept.steeringAtExpiry _ (hkept.onMotor _ _ _ (hkept.onMotor _ _ _ h))))

/-- A seeded grid after an expiry: formed by one model step (R90). -/
theorem expireInterval_seeded {s : State} {g : Grid} (hg : s.thermal.grid = some g) :
    (let h := formBand { g with g := stepG s.store.image g }
     (expireInterval s).thermal.grid = some h ∧ (expireInterval s).thermal.gd = gridDerate s.store.image h.band ∧
     ((expireInterval s).present.get .gridOvertemp = true ↔ (gridTrip s.store.image : Int) ≤ h.effective) ∧
     ((expireInterval s).present.get .gridOvertemp = true → s.present.get .gridOvertemp = false →
       isLatched .gridOvertemp (expireInterval s))) := by
  obtain ⟨hgrid, hgd, hmark⟩ := expireInterval_gridSide s
  obtain ⟨hthermal, hstore, hbefore⟩ := beforeThermal_frame s
  have hkeeps := expireInterval_keepsGridLatch (s := s)
  have hseeded : (beforeThermal s).thermal.grid = some g := by rw [hthermal, hg]
  rw [gridAtExpiry_seeded hseeded, hstore] at hgrid hgd hmark hkeeps
  rw [formGrid_thermal] at hgrid
  rw [formGrid_gd, hstore] at hgd
  refine ⟨hgrid, hgd, ?_, fun hnow habsent => ?_⟩
  · rw [hmark, formGrid_get, if_pos rfl, decide_eq_true_iff, hstore]
  · exact hkeeps (formGrid_latches (hmark.symm.trans hnow) (hbefore.trans habsent))

/-- Settles O10: the grid by `expireInterval_seeded`, its cooling by magnitude and sign. -/
theorem expiryHeatsTheGrid : Obligations.ExpiryHeatsTheGrid := by
  intro s hlow
  refine ⟨_, exec_expiry hlow, ?_⟩
  simp only [← get_gridOvertemp]
  refine ⟨fun hnone => ?_, fun g hg => ?_⟩
  · obtain ⟨hgrid, hgd, hmark⟩ := expireInterval_gridSide s
    obtain ⟨hthermal, -, hbefore⟩ := beforeThermal_frame s
    have hunseeded : (beforeThermal s).thermal.grid = none := by rw [hthermal, hnone]
    rw [gridAtExpiry_unseeded hunseeded] at hgrid hgd hmark
    rw [hthermal] at hgrid hgd
    rw [hbefore] at hmark
    exact ⟨hgrid.trans hnone, hgd, hmark⟩
  · obtain ⟨hgrid, hgd, hmark, hlatch⟩ := expireInterval_seeded hg
    refine ⟨_, hgrid, ?_, rfl, rfl, rfl, rfl, rfl, rfl, rfl, hgd, hmark, hlatch⟩
    exact congrArg (fun cooling => clampG (g.g + gridHeat s.store.image g.power - cooling)) (gridCooling_eq s.store.image g)

/-! ### The motors (R97, R98, R102 to R105) -/

/-- A motor hands its band to its BOOST TIMER and changes nothing else (R98, R103, R105). -/
theorem handBand_eq (im : Image) (m : Motor) : handBand im m = { m with boost := timerAfterBand im m.band m.boost } := by
  obtain ⟨hold, count, temp, band, md, boost⟩ := m
  cases band with
  | none => rfl
  | some b => simp only [handBand, receiveBand_eq]

/-- A motor at an expiry: its hold counted, band and Md formed from it, the count of its timer before the band (R107). -/
theorem motorAtExpiry_eq (im : Image) (m : Motor) : motorAtExpiry im m =
    (let n := formMotorBand im (countHold m)
     { n with boost := timerAfterBand im n.band (countBoost im n.band m.boost) }) := by
  rw [motorAtExpiry, handBand_eq]
  simp [countMotorBoost, formMotorBand]

theorem expireInterval_motor (s : State) (w : Wheel) :
    (expireInterval s).thermal.motor.get w = motorAtExpiry s.store.image (s.thermal.motor.get w) := by
  obtain ⟨hthermal, hstore, -⟩ := beforeThermal_frame s
  rw [expireInterval_thermal, ← hthermal, ← hstore]
  cases w <;> simp [thermalAtExpiry, onMotor]

/-- A hold counts towards 10 while it is HOLDING (R97). -/
theorem motorAtExpiry_hold (im : Image) (m : Motor) : holdAfterExpiry m (motorAtExpiry im m) := by
  rw [motorAtExpiry_eq]
  refine ⟨fun hother => ?_, fun hholding hcount => ?_, fun hholding hcount => ?_⟩
  · simp [formMotorBand, countHold, hother]
  · simp [formMotorBand, countHold, hholding, Nat.not_le.mpr hcount]
  · simp [formMotorBand, countHold, hholding, hcount]

/-- A band and an Md just formed are those of the hold state (R95, R98). -/
theorem bandFollowsHold_formed {im : Image} {m : Motor} (hband : m.band = motorBandNow m) (hmd : m.md = mdOf im m.band) :
    bandFollowsHold im m := by
  rw [bandFollowsHold, hmd, hband]
  refine ⟨fun hnone => ?_, fun hexpired => ?_, fun hforce x hx => ?_⟩
  · simp [motorBandNow, hnone, mdOf]
  · simp [motorBandNow, hexpired, mdOf]
  · rcases hforce with hlive | hholding
    · simp [motorBandNow, hlive, hx, mdOf]
    · simp [motorBandNow, hholding, hx, mdOf]

theorem motorAtExpiry_band (im : Image) (m : Motor) : bandFollowsHold im (motorAtExpiry im m) := by
  rw [motorAtExpiry_eq]
  exact bandFollowsHold_formed rfl rfl

/-- A timer counts, and then takes the band: a window that ends takes it as its reference (R102 to R105). -/
theorem timerAfterBand_countBoost (im : Image) (band : Option Nat) (b : BoostTimer) :
    timerAfterExpiry im band b (timerAfterBand im band (countBoost im band b)) := by
  obtain ⟨state, count, reference⟩ := b
  refine ⟨?_, ?_, ?_, ?_, ?_, ?_, ?_, ?_⟩ <;> rintro rfl
  · cases band <;> simp [countBoost, timerAfterBand]
  · intro hend
    cases band <;> simp [countBoost, timerAfterBand, hend]
  · intro hrun hcool
    cases band with
    | none => simp [countBoost, timerAfterBand, Nat.not_le.mpr hrun]
    | some x => simp [countBoost, timerAfterBand, Nat.not_le.mpr hrun, Nat.not_lt.mpr (hcool x rfl)]
  · rintro hrun x rfl hhot
    simp [countBoost, timerAfterBand, Nat.not_le.mpr hrun, hhot]
  · intro hend
    cases band <;> simp [countBoost, timerAfterBand, hend]
  · rintro hrun x y rfl rfl
    simp [countBoost, timerAfterBand, Nat.not_le.mpr hrun]
  · rintro hrun x rfl rfl
    simp [countBoost, timerAfterBand, Nat.not_le.mpr hrun]
  · rintro hrun rfl
    simp [countBoost, timerAfterBand, Nat.not_le.mpr hrun]

/-- Settles O11: each wheel's motor takes its share by `motorAtExpiry_eq`. -/
theorem expiryRunsHoldsAndTimers : Obligations.ExpiryRunsHoldsAndTimers := by
  intro s hlow
  refine ⟨_, exec_expiry hlow, fun w => ?_⟩
  rw [expireInterval_motor]
  refine ⟨motorAtExpiry_hold _ _, motorAtExpiry_band _ _, ?_⟩
  rw [motorAtExpiry_eq]
  exact timerAfterBand_countBoost _ _ _

/-! ### The events (R97, R98, R102 to R104) -/

/-- An event that is due, the part released, changes the motor of its wheel by its share. -/
theorem whenDue_onMotor {s : State} {due : State → Bool} {w : Wheel} {f : Image → Motor → Motor} (hlow : s.resetLow = false)
    (hdue : due s = true) : whileReleased (whenDue due fun u => onMotor w (f u.store.image) u) s =
      { s with thermal := { s.thermal with
          motor := s.thermal.motor.set w (f s.store.image (s.thermal.motor.get w)) } } := by
  rw [whileReleased_high hlow, whenDue, if_pos hdue]
  rfl

/-- A hold that comes to 10 is EXPIRED, with band 7 handed to the timer (R97, R98, R103). -/
theorem handBand_expired (im : Image) {m : Motor} (hholding : m.hold = .holding) (hcount : 9 ≤ m.holdCount) :
    handBand im (formMotorBand im (countHold m)) =
      { hold := .expired, holdCount := 10, temp := none, band := some 7, md := motorDerate im 7
        boost := timerAfterBand im (some 7) m.boost } := by
  have hend : 10 ≤ m.holdCount + 1 := by omega
  rw [handBand_eq]
  simp [formMotorBand, countHold, hholding, hend, motorBandNow, mdOf]

/-- Settles O16: each event is the share of its wheel's motor. -/
theorem motorEventsTakeTheirEffect : Obligations.MotorEventsTakeTheirEffect := by
  intro s w hlow
  refine ⟨fun hholding hcount => ?_, fun hboost hcount => ?_, fun hrecover hcount => ?_⟩
  · have hdue : holdDue w s = true := by simp [holdDue, hholding, hcount]
    refine ⟨_, congrArg Host.Outcome.next
      (whenDue_onMotor (f := fun im m => handBand im (formMotorBand im (countHold m))) hlow hdue), ?_⟩
    rw [handBand_expired s.store.image hholding hcount]
    refine ⟨rfl, rfl, rfl, rfl, rfl, fun hidle => ?_, fun hboost hmax => ?_, fun hrecover x hx => ?_⟩
    · simp [timerAfterBand, hidle]
    · simp [timerAfterBand, hboost, hmax]
    · simp [timerAfterBand, hrecover, hx]
  · have hdue : boostDue w s = true := by simp [boostDue, hboost, hcount]
    refine congrArg Host.Outcome.next ((whenDue_onMotor (f := countMotorBoost) hlow hdue).trans ?_)
    simp [countMotorBoost, countBoost, hboost, hcount]
  · have hdue : recoverDue w s = true := by simp [recoverDue, hrecover, hcount]
    refine congrArg Host.Outcome.next ((whenDue_onMotor (f := countMotorBoost) hlow hdue).trans ?_)
    simp [countMotorBoost, countBoost, hrecover, hcount]

end Sys2Proof.Proofs
end

section
/-! SUPPORT. The THERMAL MONITOR's share of a MEASURE (O37). -/

namespace Sys2Proof.Proofs

open Sys2Proof.Machine Sys2Proof.Safety Sys2Proof.Claims

/-! ### The grid and the head limit (R88, R89, R91 to R93, R124) -/

theorem headLimitNow_congr {s t : State} (seg : Segment) (himage : t.store.image = s.store.image)
    (hgd : t.thermal.gd = s.thermal.gd) (hpayload : t.intake.payload = s.intake.payload) :
    headLimitNow t seg = headLimitNow s seg := by
  simp only [headLimitNow, himage, hgd, hpayload]

/-- Forming the grid hands an ACTIVE plan its notice where band or Gd takes a different value (R92, R124). -/
theorem formGrid_head {g : Grid} {s : State} {seg : Segment} {rest : List Segment} (hactive : s.planner.state = .active)
    (hqueue : s.planner.queue = seg :: rest) : (formGrid g s).planner.head =
      if gridNotice g s then some (headLimitNow (formGrid g s) seg) else s.planner.head := by
  have hlimit : headLimitNow (formGrid g s) seg = headLimitNow (gridFormed g s) seg :=
    headLimitNow_congr seg (by simp [gridFormed]) (by simp [formGrid_gd, gridFormed]) (by simp [gridFormed])
  rw [hlimit, formGrid_eq, gridHandedOn, recomputeHead_active (s := gridFormed g s) hactive hqueue]
  split <;> simp [gridFormed]

theorem gridNotice_iff (g : Grid) (s : State) : gridNotice g s = true ↔
    (s.thermal.grid.map fun g => g.band) ≠ some (formBand g).band ∨ s.thermal.gd ≠ (formGrid g s).thermal.gd := by
  simp only [gridNotice, formGrid_gd, Bool.or_eq_true, decide_eq_true_iff]

/-- A plan that is not ACTIVE keeps its head limit (R124). -/
theorem formGrid_head_inactive {g : Grid} {s : State} (h : s.planner.state ≠ .active) :
    (formGrid g s).planner.head = s.planner.head := by
  rw [formGrid_eq, gridHandedOn, recomputeHead_inactive (s := gridFormed g s) h]
  simp [gridFormed]

/-- What a MEASURE leaves of the grid, Gd, GRID_OVERTEMP and the head limit is what the grid side made of them. -/
theorem takeMeasure_gridSide (m : MeasurementRecord) (s : State) :
    (let u := gridAtMeasure m (intakeAtMeasure m s)
     (takeMeasure m s).thermal.grid = u.thermal.grid ∧ (takeMeasure m s).thermal.gd = u.thermal.gd ∧
     (takeMeasure m s).present.get .gridOvertemp = u.present.get .gridOvertemp ∧
     (takeMeasure m s).planner.head = u.planner.head) := by
  refine ⟨?_, ?_, ?_, ?_⟩
  · simp [takeMeasure, thermalAtMeasure]
  · simp [takeMeasure, thermalAtMeasure]
  · rw [takeMeasure, supervise_get (by rintro ⟨⟩ <;> decide), judgeOverspeed_get (by decide), thermalAtMeasure,
      wheelAtMeasure_get (by decide), wheelAtMeasure_get (by decide)]
  · simp [takeMeasure, thermalAtMeasure]

/-- The grid after a MEASURE, in the words of the statement (R88, R89, R91 to R93, R124). -/
theorem takeMeasure_grid (m : MeasurementRecord) (s : State) :
    (let h := formBand (gridWithInputs (estimateAtMeasure m s.thermal.grid) m)
     let t := takeMeasure m s
     t.thermal.grid = some h ∧ t.thermal.gd = gridDerate s.store.image h.band ∧
     (t.present.get .gridOvertemp = true ↔ (gridTrip s.store.image : Int) ≤ h.effective) ∧
     (∀ seg rest, s.planner.state = .active → s.planner.queue = seg :: rest → t.planner.head =
       if (s.thermal.grid.map fun g => g.band) ≠ some h.band ∨ s.thermal.gd ≠ t.thermal.gd
       then some (headLimitNow t seg) else s.planner.head) ∧
     (s.planner.state ≠ .active → t.planner.head = s.planner.head)) := by
  obtain ⟨hgrid, hgd, hmark, hhead⟩ := takeMeasure_gridSide m s
  have hthermal : (intakeAtMeasure m s).thermal = s.thermal := by simp
  have hstore : (intakeAtMeasure m s).store = s.store := by simp
  have hplanner : (intakeAtMeasure m s).planner = s.planner := by simp
  rw [gridAtMeasure_eq, hthermal] at hgrid hgd hmark hhead
  refine ⟨hgrid.trans (formGrid_thermal _ _), ?_, ?_, fun seg rest hactive hqueue => ?_, fun hinactive => ?_⟩
  · rw [hgd, formGrid_gd, hstore]
  · rw [hmark, formGrid_get, if_pos rfl, decide_eq_true_iff, hstore]
  · have hlimit : headLimitNow (takeMeasure m s) seg = headLimitNow (formGrid _ (intakeAtMeasure m s)) seg :=
      headLimitNow_congr seg (by simp [takeMeasure]) hgd (by simp [takeMeasure])
    rw [hlimit, hhead, hgd, formGrid_head (hplanner ▸ hactive) (hplanner ▸ hqueue), hplanner]
    refine if_congr ?_ rfl rfl
    rw [gridNotice_iff, hthermal]
  · rw [hhead, formGrid_head_inactive (hplanner ▸ hinactive), hplanner]

/-! ### The motors (R96, R98, R99) -/

/-- A motor at a MEASURE: its hold moved, band and Md formed from it, the band handed to its timer (R107). -/
theorem motorAtMeasure_eq (im : Image) (reading : Int) (valid : Bool) (m : Motor) : motorAtMeasure im reading valid m =
    (let n := formMotorBand im (moveHold reading valid m)
     { n with boost := timerAfterBand im n.band n.boost }) := handBand_eq im _

/-- A reading moves the hold by the table of R96. -/
theorem moveHold_follows (reading : Int) (valid : Bool) (m : Motor) :
    holdAfterReading reading valid m (moveHold reading valid m) := by
  obtain ⟨hold, count, temp, band, md, boost⟩ := m
  unfold holdAfterReading
  cases hold <;> cases valid <;> simp [moveHold]

theorem motorAtMeasure_follows (im : Image) (reading : Int) (valid : Bool) (m : Motor) :
    holdAfterReading reading valid m (motorAtMeasure im reading valid m) ∧
    bandFollowsHold im (motorAtMeasure im reading valid m) := by
  rw [motorAtMeasure_eq]
  exact ⟨moveHold_follows reading valid m, bandFollowsHold_formed rfl rfl⟩

/-- MOTOR_OVERTEMP of a wheel follows a VALID reading and stands at an INVALID one (R99). -/
theorem judgeMotor_mark (w : Wheel) (m : MeasurementRecord) (s : State) :
    (judgeMotor w m s).present.get (motorOvertempOf w) =
      if m.windingValid.get w then decide ((motorTrip s.store.image : Int) ≤ m.winding.get w)
      else s.present.get (motorOvertempOf w) := by
  unfold judgeMotor
  split
  · rw [judgeCondition_get, if_pos rfl]
  · rfl

theorem wheelAtMeasure_mark (w : Wheel) (m : MeasurementRecord) (s : State) :
    (wheelAtMeasure w m s).present.get (motorOvertempOf w) =
      if m.windingValid.get w then decide ((motorTrip s.store.image : Int) ≤ m.winding.get w)
      else s.present.get (motorOvertempOf w) := by
  simp [wheelAtMeasure, judgeMotor_mark]

/-- Each wheel's mark is judged on its own reading. -/
theorem takeMeasure_motorMark (m : MeasurementRecord) (s : State) (w : Wheel) :
    (takeMeasure m s).present.get (motorOvertempOf w) =
      if m.windingValid.get w then decide ((motorTrip s.store.image : Int) ≤ m.winding.get w)
      else s.present.get (motorOvertempOf w) := by
  have hbefore : (gridAtMeasure m (intakeAtMeasure m s)).present.get (motorOvertempOf w) =
      s.present.get (motorOvertempOf w) := by
    rw [gridAtMeasure_get (by cases w <;> decide), intakeAtMeasure_get]
    cases w <;> simp [motorOvertempOf]
  rw [takeMeasure, supervise_get (by cases w <;> rintro ⟨⟩ <;> decide), judgeOverspeed_get (by cases w <;> decide),
    thermalAtMeasure, ← hbefore]
  cases w with
  | left =>
    rw [wheelAtMeasure_get (by decide), wheelAtMeasure_mark]
    simp
  | right =>
    rw [wheelAtMeasure_mark, wheelAtMeasure_get (by decide)]
    simp

/-- Settles O37: the grid by `takeMeasure_grid`, each motor by its own reading. -/
theorem measureFeedsTheThermalMonitor : Obligations.MeasureFeedsTheThermalMonitor := by
  intro s a payload hlistens hlength
  obtain ⟨body, pass, held, hexec⟩ := exec_measure hlistens hlength
  obtain ⟨hgrid, hgd, hmark, hactive, hinactive⟩ := takeMeasure_grid (measureOf payload) (heard .l1 s)
  refine ⟨_, _, hexec, hgrid, ?_, rfl, rfl, rfl, rfl, rfl, rfl, rfl, hgd, hmark, fun seg rest hstate hqueue => ?_, hinactive,
    fun w => ?_⟩
  · change estimateAtMeasure (measureOf payload) s.thermal.grid = _
    cases s.thermal.grid <;> rfl
  · have hhead := hactive seg rest hstate hqueue
    refine ⟨fun hnotice => hhead.trans (if_pos hnotice), fun hband hsame => hhead.trans (if_neg fun hnotice => ?_)⟩
    exact hnotice.elim (· hband) (· hsame)
  · obtain ⟨hhold, hfollows⟩ := motorAtMeasure_follows s.store.image ((measureOf payload).winding.get w)
      ((measureOf payload).windingValid.get w) (s.thermal.motor.get w)
    have hmotor := takeMeasure_motor (measureOf payload) (heard .l1 s) w
    have hjudged := takeMeasure_motorMark (measureOf payload) (heard .l1 s) w
    refine ⟨hmotor ▸ hhold, hmotor ▸ hfollows, fun hvalid => ?_, fun hinvalid => ?_⟩
    · rw [if_pos hvalid] at hjudged
      exact (Bool.eq_iff_iff.mp hjudged).trans decide_eq_true_iff
    · rw [hinvalid] at hjudged
      exact hjudged

end Sys2Proof.Proofs
end

section
/-! SUPPORT. Travelling the plan (R118, R119), and the events of plan, lockout and service idle count (O17). -/

namespace Sys2Proof.Proofs

open Sys2Proof.Machine Sys2Proof.Safety Sys2Proof.Claims

/-! ### The head limit formed afresh (R124) -/

/-- The head limit that a recompute leaves is that of the state it leaves. -/
theorem recomputeHead_head {s : State} {seg : Segment} {rest : List Segment} (hactive : s.planner.state = .active)
    (hqueue : s.planner.queue = seg :: rest) :
    (recomputeHead s).planner.head = some (headLimitNow (recomputeHead s) seg) := by
  rw [recomputeHead_active hactive hqueue]
  rfl

/-! ### The queue advanced (R119) -/

theorem metresOf_zero (queue : List Segment) : metresOf 0 queue = 0 := by simp [metresOf]

theorem metresOf_succ (n : Nat) (seg : Segment) (rest : List Segment) :
    metresOf (n + 1) (seg :: rest) = segmentNeed seg + metresOf n rest := by simp [metresOf, segmentNeed]

/-- HEADs leave the queue while the progress finishes them, with carry, and the HEAD that stays is not finished. -/
theorem advanceQueue_spec (queue : List Segment) (progress : Nat) :
    ∃ n, n ≤ queue.length ∧ metresOf n queue ≤ progress ∧
      advanceQueue queue progress = (queue.drop n, progress - metresOf n queue) ∧
      ∀ seg rest, queue.drop n = seg :: rest → progress - metresOf n queue < segmentNeed seg := by
  induction queue generalizing progress with
  | nil => exact ⟨0, by simp [metresOf, advanceQueue]⟩
  | cons seg rest ih =>
    by_cases hdone : segmentNeed seg ≤ progress
    · obtain ⟨n, hn, hmetres, hadvance, hhead⟩ := ih (progress - segmentNeed seg)
      have hcarry : progress - metresOf (n + 1) (seg :: rest) = progress - segmentNeed seg - metresOf n rest := by
        rw [metresOf_succ]
        omega
      refine ⟨n + 1, Nat.succ_le_succ hn, by rw [metresOf_succ]; omega, ?_, ?_⟩ <;> rw [hcarry]
      · rw [advanceQueue, if_pos hdone, hadvance]
        rfl
      · exact hhead
    · refine ⟨0, Nat.zero_le _, by rw [metresOf_zero]; omega, ?_, fun head tail hqueue => ?_⟩ <;> rw [metresOf_zero]
      · rw [advanceQueue, if_neg hdone]
        rfl
      · obtain ⟨rfl, rfl⟩ := List.cons.inj hqueue
        omega

/-- What `advanced` reads: queue and counts before, the plan after, and the head limits of the state after. -/
theorem advanced_congr {s s' t t' : State} {progress : Nat} (hqueue : s'.planner.queue = s.planner.queue)
    (hcompleted : s'.planner.completed = s.planner.completed) (habandoned : s'.planner.abandoned = s.planner.abandoned)
    (hplan : t'.planner = { t.planner with shortfall := t'.planner.shortfall })
    (hlimit : ∀ seg, headLimitNow t' seg = headLimitNow t seg) (h : advanced s t progress) : advanced s' t' progress := by
  unfold advanced at *
  rw [hplan]
  simpa only [hqueue, hcompleted, habandoned, hlimit] using h

/-- A HEAD that the progress has finished leaves the queue, and with it every one that the carry finishes. -/
theorem advancePlan_advanced {s : State} {seg : Segment} {rest : List Segment} (hactive : s.planner.state = .active)
    (hqueue : s.planner.queue = seg :: rest) (hdone : segmentNeed seg ≤ s.planner.progress) :
    advanced s (advancePlan s) s.planner.progress := by
  obtain ⟨n, hn, hmetres, hadvance, hhead⟩ := advanceQueue_spec s.planner.queue s.planner.progress
  have hone : 1 ≤ n := by
    rcases Nat.eq_zero_or_pos n with rfl | hpos
    · have := hhead seg rest hqueue
      rw [metresOf_zero] at this
      omega
    · exact hpos
  refine ⟨n, hone, hn, hmetres, by simp, ?_⟩
  cases hdrop : s.planner.queue.drop n with
  | nil =>
    have hplan : advancePlan s =
        s.withPlanner { clearedPlan s.planner with completed := saturate 65535 s.planner.completed } := by
      rw [hdrop, hqueue] at hadvance
      simp [advancePlan, hactive, hqueue, hdone, hadvance]
    rw [hplan]
    exact .inl ⟨hn.antisymm (List.drop_eq_nil_iff.mp hdrop), rfl, rfl, rfl, rfl, rfl⟩
  | cons head tail =>
    have hplan : advancePlan s = recomputeHead (s.withPlanner { s.planner with
        queue := head :: tail, progress := s.planner.progress - metresOf n s.planner.queue }) := by
      rw [hdrop, hqueue] at hadvance
      simp [advancePlan, hactive, hqueue, hdone, hadvance]
    rw [hplan]
    exact .inr ⟨head, tail, rfl, by simp, by simpa using hactive, by simp,
      by simpa [segmentNeed] using hhead head tail hdrop,
      recomputeHead_head hactive rfl, by simp⟩

theorem advancePlan_unfinished {s : State} {seg : Segment} {rest : List Segment} (hactive : s.planner.state = .active)
    (hqueue : s.planner.queue = seg :: rest) (hdone : s.planner.progress < segmentNeed seg) : advancePlan s = s := by
  simp [advancePlan, hactive, hqueue, hdone]

/-! ### The progress, then the advance (R118, R119) -/

theorem addProgress_eq (s : State) :
    addProgress s = s.withPlanner { s.planner with progress := progressed s s.intake.l1 } := by
  unfold addProgress planMoves progressed
  simp only [Bool.and_eq_true, decide_eq_true_iff, and_assoc]
  split <;> rfl

theorem travelPlan_inactive {s : State} (h : s.planner.state ≠ .active) : travelPlan s = s := by
  have hstays : addProgress s = s := by simp [addProgress, planMoves, h]
  rw [travelPlan, hstays]
  unfold advancePlan
  split
  next hactive _ => exact absurd hactive h
  next => rfl

theorem travelPlan_unfinished {s : State} {seg : Segment} {rest : List Segment} (hactive : s.planner.state = .active)
    (hqueue : s.planner.queue = seg :: rest) (hdone : progressed s s.intake.l1 < segmentNeed seg) :
    travelPlan s = s.withPlanner { s.planner with progress := progressed s s.intake.l1 } := by
  rw [travelPlan, addProgress_eq]
  exact advancePlan_unfinished hactive hqueue hdone

theorem travelPlan_advanced {s : State} {seg : Segment} {rest : List Segment} (hactive : s.planner.state = .active)
    (hqueue : s.planner.queue = seg :: rest) (hdone : segmentNeed seg ≤ progressed s s.intake.l1) :
    advanced s (travelPlan s) (progressed s s.intake.l1) := by
  rw [travelPlan, addProgress_eq]
  exact advanced_congr rfl rfl rfl rfl (fun _ => rfl) (advancePlan_advanced
    (s := s.withPlanner { s.planner with progress := progressed s s.intake.l1 }) hactive hqueue hdone)

/-- Travelling changes the plan alone. -/
theorem travelPlan_eq (s : State) : travelPlan s = s.withPlanner (travelPlan s).planner := by
  have hframe := travelPlan_frame s
  generalize travelPlan s = t at *
  cases t
  simp_all [State.withPlanner]

/-! ### The events (R119, R172, R174) -/

/-- An event of an expiry that is due takes its share. -/
theorem whenDue_due {due : State → Bool} {share : State → State} {s : State} (hlow : s.resetLow = false)
    (hdue : due s = true) : whileReleased (whenDue due share) s = share s := by
  rw [whileReleased_high hlow, whenDue, if_pos hdue]

theorem advanceDue_finished {s : State} {seg : Segment} {rest : List Segment} (hactive : s.planner.state = .active)
    (hqueue : s.planner.queue = seg :: rest) (hdone : segmentNeed seg ≤ progressed s s.intake.l1) : advanceDue s = true := by
  simp [advanceDue, hactive, hqueue, addProgress_eq, hdone]

/-- Settles O17: the plan by `travelPlan_advanced`, each count by its end. -/
theorem planAndServiceEventsTakeTheirEffect : Obligations.PlanAndServiceEventsTakeTheirEffect := by
  refine ⟨fun s seg rest hlow hactive hqueue hdone => ?_, fun s hlow hlockout => ?_, fun s hlow hlevel hidle => ?_⟩
  · have hexec : exec .planAdvance s = .next (travelPlan s) :=
      congrArg Host.Outcome.next (whenDue_due hlow (advanceDue_finished hactive hqueue hdone))
    exact ⟨_, hexec, travelPlan_advanced hactive hqueue hdone, by simp, travelPlan_eq s⟩
  · refine congrArg Host.Outcome.next ((whenDue_due hlow ?_).trans ?_)
    · simp [lockoutDue, hlockout]
    · simp [countLockout, hlockout, State.withStore]
  · refine congrArg Host.Outcome.next ((whenDue_due hlow ?_).trans ?_)
    · simp [idleDue, hlevel, hidle]
    · simp [countIdle, hlevel, hidle, State.withStore]

end Sys2Proof.Proofs
end

section
/-! SUPPORT. PLAN_START and PLAN_CLEAR (O34): the replies of the plan requests, and the head limit by its rules. -/

namespace Sys2Proof.Proofs

open Sys2Proof.Machine Sys2Proof.Safety Sys2Proof.Claims

/-! ### The replies of the plan requests (R111, R157) -/

/-- A plan request that L2 takes, and that its owner answers with the plan `p`, changes plan and port alone. -/
theorem planRequest_answered {s : State} {a code : Byte} {payload : List Byte} {handle : State → State × Option ReplyBody}
    {r : Result} {p : Planner} (h : listens s .l2 a) (hlength : payload.length ≤ 48)
    (hhandle : handle (heard .l2 s) = ((heard .l2 s).withPlanner p, planReply r ((heard .l2 s).withPlanner p))) :
    whileReleased (serveRequest .l2 code payload handle) s =
      { replied s .l2 a code r (planSummary p) with planner := p } := by
  obtain ⟨hlow, haddressed⟩ := h
  rw [serveRequest_addressed hlow haddressed hlength, takeSound_eq hhandle]
  rfl

/-- A plan request that is refused changes the port alone. -/
theorem planRequest_refused {s : State} {a code : Byte} {payload : List Byte} {handle : State → State × Option ReplyBody}
    {r : Result} (h : listens s .l2 a) (hlength : payload.length ≤ 48)
    (hhandle : handle (heard .l2 s) = (heard .l2 s, planReply r (heard .l2 s))) :
    whileReleased (serveRequest .l2 code payload handle) s = replied s .l2 a code r (planSummary s.planner) :=
  planRequest_answered (p := s.planner) h hlength hhandle

/-! ### PLAN_START and PLAN_CLEAR (R111, R114, R115) -/

theorem handleStart_startup {s : State} (payload : List Byte) (h : s.mode = .startup) :
    handleStart payload s = (s, planReply .refusedMode s) := by simp [handleStart, h]

theorem handleClear_startup {s : State} (payload : List Byte) (h : s.mode = .startup) :
    handleClear payload s = (s, planReply .refusedMode s) := by simp [handleClear, h]

theorem handleStart_refused {s : State} (hmode : s.mode ≠ .startup)
    (h : ¬(s.planner.state = .loaded ∧ s.intake.direction = .forward)) :
    handleStart [] s = (s, planReply .refusedMode s) := by simp [handleStart, hmode, h]

/-- The plan that an accepted PLAN_START leaves: ACTIVE at progress 0, with the head limit of its HEAD (R114). -/
def startedPlan (s : State) (seg : Segment) : Planner :=
  { s.planner with state := .active, progress := 0, head := some (headLimitNow s seg) }

theorem startPlan_eq {s : State} {seg : Segment} {rest : List Segment} (hqueue : s.planner.queue = seg :: rest) :
    startPlan s = s.withPlanner (startedPlan s seg) :=
  recomputeHead_active (s := s.withPlanner { s.planner with state := .active, progress := 0 }) rfl hqueue

theorem handleStart_accepted {s : State} {seg : Segment} {rest : List Segment} (hmode : s.mode ≠ .startup)
    (hloaded : s.planner.state = .loaded) (hforward : s.intake.direction = .forward) (hqueue : s.planner.queue = seg :: rest) :
    handleStart [] s = (s.withPlanner (startedPlan s seg), planReply .ok (s.withPlanner (startedPlan s seg))) := by
  simp [handleStart, hmode, hloaded, hforward, startPlan_eq hqueue]

theorem handleClear_accepted {s : State} (hmode : s.mode ≠ .startup) :
    handleClear [] s =
      (s.withPlanner (clearedPlan s.planner), planReply .ok (s.withPlanner (clearedPlan s.planner))) := by
  simp [handleClear, hmode]

/-! ### The head limit by its rules (R122, R123) -/

theorem sustainableSpeed_eq (im : Image) (gd payload : Nat) (grade : Int) : sustainableSpeed im gd payload grade =
    (let row := imageRow im 19
     let gnet := -grade - ((rowEntry row 7).toNat : Int)
     let mass := (rowEntry row 6).toNat + payload
     if gnet ≤ 0 then 7000
     else min 7000 ((rowEntry row 3).toNat * gd / 1000 * 36000000 / (mass * gnet.natAbs * 981))) := by
  unfold sustainableSpeed
  dsimp only [rollingResistance, emptyMass, pGridCont, param]
  generalize -grade - _ = gnet
  split
  · rfl
  next hdown =>
    have habs : gnet.toNat = gnet.natAbs := by omega
    rw [habs]

theorem headLimitOf_follows (target sustainable : Nat) :
    (headLimitOf target sustainable).speed = max 300 (min target sustainable) ∧
    ((headLimitOf target sustainable).derated = true ↔ sustainable < target) ∧
    ((headLimitOf target sustainable).infeasible = true ↔ sustainable < 300) :=
  ⟨rfl, decide_eq_true_iff, decide_eq_true_iff⟩

/-- Settles O34: the head limit by its formulas, each request by what its owner answers. -/
theorem planStartAndClear : Obligations.PlanStartAndClear := by
  refine ⟨sustainableSpeed_eq, headLimitOf_follows, fun s seg => rfl, fun s a hlistens =>
    ⟨?_, fun hmode => ⟨?_, ?_, ?_⟩⟩⟩
  · exact fun payload hlength hstartup =>
      ⟨congrArg Host.Outcome.next (planRequest_refused hlistens hlength (handleStart_startup payload hstartup)),
        congrArg Host.Outcome.next (planRequest_refused hlistens hlength (handleClear_startup payload hstartup))⟩
  · exact fun seg rest hloaded hforward hqueue => congrArg Host.Outcome.next
      (planRequest_answered hlistens (Nat.zero_le _) (handleStart_accepted hmode hloaded hforward hqueue))
  · exact fun hrefused => congrArg Host.Outcome.next
      (planRequest_refused hlistens (Nat.zero_le _) (handleStart_refused hmode hrefused))
  · exact congrArg Host.Outcome.next (planRequest_answered hlistens (Nat.zero_le _) (handleClear_accepted hmode))

end Sys2Proof.Proofs
end

section
/-! SUPPORT. PLAN_APPEND (O33): the SEGMENT RECORDS that a payload carries, and how they are stored. -/

namespace Sys2Proof.Proofs

open Sys2Proof.Machine Sys2Proof.Safety Sys2Proof.Claims

/-! ### SEGMENT RECORDS read (R110, R112) -/

/-- The SEGMENT RECORD that a carried segment spells, a surface byte that is neither DRY nor WET taken as absent. -/
def wireOf (x : Carried) : WireSegment :=
  ⟨x.1.toNat, x.2.1.toInt, x.2.2.1.toNat,
    if x.2.2.2 = 1 then some .dry else if x.2.2.2 = 2 then some .wet else none⟩

/-- A surface byte is in range up to 2 (R164). -/
theorem readSurface_eq (b : Byte) : readSurface b =
    if b.toNat ≤ 2 then some (if b = 1 then some .dry else if b = 2 then some .wet else none) else none := by
  unfold readSurface
  by_cases h0 : b = 0
  · simp [h0]
  by_cases h1 : b = 1
  · simp [h1]
  by_cases h2 : b = 2
  · simp [h2]
  have hlarge : ¬b.toNat ≤ 2 := by bv_omega
  rw [if_neg h0, if_neg h1, if_neg h2, if_neg hlarge]

/-- The seven bytes of a carried segment, read field by field. -/
theorem readSegment_carried (x : Carried) : readSegment (carriedBytes x) =
    if x.2.2.2.toNat ≤ 2 then
      if 1 ≤ x.1.toNat ∧ x.1.toNat ≤ 5000 ∧ -200 ≤ x.2.1.toInt ∧ x.2.1.toInt ≤ 200 ∧ 300 ≤ x.2.2.1.toNat ∧
          x.2.2.1.toNat ≤ 7000 then some (wireOf x)
      else none
    else none := by
  have hlength : wordAt (carriedBytes x) 0 = x.1 := word_halves x.1
  have hgrade : wordAt (carriedBytes x) 2 = x.2.1 := word_halves x.2.1
  have htarget : wordAt (carriedBytes x) 4 = x.2.2.1 := word_halves x.2.2.1
  have hsurface : byteAt (carriedBytes x) 6 = x.2.2.2 := rfl
  simp only [readSegment, unsignedAt, signedAt, hlength, hgrade, htarget, hsurface, readSurface_eq]
  by_cases hrange : x.2.2.2.toNat ≤ 2
  · simp only [if_pos hrange]
    rfl
  · simp only [if_neg hrange]

theorem readSegment_inRange {x : Carried} (h : carriedInRange x) : readSegment (carriedBytes x) = some (wireOf x) := by
  obtain ⟨h1, h2, h3, h4, h5, h6, h7⟩ := h
  rw [readSegment_carried, if_pos h7, if_pos ⟨h1, h2, h3, h4, h5, h6⟩]

theorem readSegment_outOfRange {x : Carried} (h : ¬carriedInRange x) : readSegment (carriedBytes x) = none := by
  rw [readSegment_carried]
  split
  next h7 => exact if_neg fun ⟨h1, h2, h3, h4, h5, h6⟩ => h ⟨h1, h2, h3, h4, h5, h6, h7⟩
  next => rfl

/-- Several segments are read where the first is and the others are. -/
theorem readSegments_cons (x : Carried) (rest : List Byte) (n : Nat) (segs : List WireSegment) :
    readSegments (n + 1) (carriedBytes x ++ rest) = some segs ↔ ∃ seg others,
      readSegment (carriedBytes x) = some seg ∧ readSegments n rest = some others ∧ segs = seg :: others := by
  have hfirst : (carriedBytes x ++ rest).take 7 = carriedBytes x := rfl
  have hothers : (carriedBytes x ++ rest).drop 7 = rest := rfl
  rw [readSegments, hfirst, hothers]
  cases readSegment (carriedBytes x) <;> cases readSegments n rest <;> simp [eq_comm]

theorem readSegments_inRange {xs : List Carried} (h : ∀ x ∈ xs, carriedInRange x) :
    readSegments xs.length (xs.flatMap carriedBytes) = some (xs.map wireOf) := by
  induction xs with
  | nil => rfl
  | cons x rest ih =>
    obtain ⟨hx, hrest⟩ := List.forall_mem_cons.mp h
    exact (readSegments_cons x _ _ _).mpr ⟨_, _, readSegment_inRange hx, ih hrest, rfl⟩

/-- Every segment that a payload carries is in range where the payload is read at all (R112). -/
theorem inRange_of_readSegments {xs : List Carried} {segs : List WireSegment}
    (h : readSegments xs.length (xs.flatMap carriedBytes) = some segs) : ∀ x ∈ xs, carriedInRange x := by
  induction xs generalizing segs with
  | nil => nofun
  | cons x rest ih =>
    obtain ⟨seg, others, hfirst, hothers, -⟩ := (readSegments_cons x _ _ _).mp h
    refine List.forall_mem_cons.mpr ⟨?_, ih hothers⟩
    by_contra hout
    cases (readSegment_outOfRange hout).symm.trans hfirst

/-- One field out of range leaves no segment (R112). -/
theorem readSegments_outOfRange {xs : List Carried} (h : ∃ x ∈ xs, ¬carriedInRange x) :
    readSegments xs.length (xs.flatMap carriedBytes) = none := by
  obtain ⟨x, hx, hout⟩ := h
  exact Option.eq_none_iff_forall_ne_some.mpr fun segs hread => hout (inRange_of_readSegments hread x hx)

theorem flatMap_carriedBytes_length (xs : List Carried) : (xs.flatMap carriedBytes).length = 7 * xs.length := by
  induction xs with
  | nil => rfl
  | cons x rest ih =>
    have hseven : (carriedBytes x).length = 7 := rfl
    rw [List.flatMap_cons, List.length_append, List.length_cons, ih, hseven]
    omega

/-! ### Segments stored (R113) -/

theorem resolveSegments_length (tail : Option Surface) (segs : List WireSegment) :
    (resolveSegments tail segs).length = segs.length := by
  induction segs generalizing tail with
  | nil => rfl
  | cons seg rest ih => exact congrArg (· + 1) (ih _)

theorem tailSurface_append (before : List Segment) (seg : Segment) :
    tailSurface (before ++ [seg]) = some seg.surface := by simp [tailSurface]

/-- A segment stored behind the queue `before` takes its own surface, or where it carries none the one at the tail. -/
theorem storedAs_resolved (before : List Segment) (x : Carried) : storedAs before x
    ⟨x.1.toNat, x.2.1.toInt, x.2.2.1.toNat, resolveSurface (tailSurface before) (wireOf x).surface⟩ := by
  refine ⟨rfl, rfl, rfl, fun hdry => ?_, fun hwet => ?_, fun habsent hempty => ?_, fun front last habsent htail => ?_⟩
  · simp [wireOf, hdry, resolveSurface]
  · simp [wireOf, hwet, resolveSurface]
  · subst hempty
    simp [wireOf, habsent, resolveSurface, tailSurface]
  · subst htail
    simp [wireOf, habsent, resolveSurface, tailSurface_append]

/-- Each segment is stored behind the queue and the segments before it. -/
theorem resolveSegments_storedAs (before : List Segment) (xs : List Carried) (i : Nat) (x : Carried) (seg : Segment)
    (hx : xs[i]? = some x) (hseg : (resolveSegments (tailSurface before) (xs.map wireOf))[i]? = some seg) :
    storedAs (before ++ (resolveSegments (tailSurface before) (xs.map wireOf)).take i) x seg := by
  induction xs generalizing before i with
  | nil => simp at hx
  | cons y rest ih =>
    rw [List.map_cons, resolveSegments] at *
    cases i with
    | zero =>
      obtain rfl := Option.some.inj hx
      obtain rfl := Option.some.inj hseg
      rw [List.take_zero, List.append_nil]
      exact storedAs_resolved before y
    | succ i =>
      rw [← tailSurface_append before ⟨_, _, _, _⟩] at *
      have hbehind := ih _ i hx hseg
      rwa [List.append_assoc] at hbehind

/-! ### PLAN_APPEND judged (R111, R112) -/

theorem handleAppend_startup {s : State} (payload : List Byte) (h : s.mode = .startup) :
    handleAppend payload s = (s, planReply .refusedMode s) := by simp [handleAppend, h]

theorem handleAppend_refused {s : State} {payload : List Byte} {r : Result} (hmode : s.mode ≠ .startup) (hr : r ≠ .ok)
    (h : judgeAppend payload s.planner = (r, [])) : handleAppend payload s = (s, planReply r s) := by
  rw [handleAppend, if_neg hmode, h]
  cases r <;> simp_all

theorem handleAppend_accepted {s : State} {payload : List Byte} {segs : List WireSegment} (hmode : s.mode ≠ .startup)
    (h : judgeAppend payload s.planner = (.ok, segs)) :
    handleAppend payload s = (s.withPlanner (appendSegments segs s.planner),
      planReply .ok (s.withPlanner (appendSegments segs s.planner))) := by
  rw [handleAppend, if_neg hmode, h]

/-- One to six segments have a length that PLAN_APPEND takes, and are judged by what is read of them. -/
theorem judgeAppend_unread {xs : List Carried} (hone : 1 ≤ xs.length) (hsix : xs.length ≤ 6) (p : Planner)
    (hread : readSegments xs.length (xs.flatMap carriedBytes) = none) :
    judgeAppend (xs.flatMap carriedBytes) p = (.range, []) := by
  have hcount : 7 * xs.length / 7 = xs.length := by omega
  rw [judgeAppend, flatMap_carriedBytes_length, if_neg (by omega), hcount, hread]

theorem judgeAppend_read {xs : List Carried} (hone : 1 ≤ xs.length) (hsix : xs.length ≤ 6) (p : Planner)
    {segs : List WireSegment} (hread : readSegments xs.length (xs.flatMap carriedBytes) = some segs) :
    judgeAppend (xs.flatMap carriedBytes) p =
      if 16 < p.queue.length + segs.length then (.queueFull, []) else (.ok, segs) := by
  have hcount : 7 * xs.length / 7 = xs.length := by omega
  rw [judgeAppend, flatMap_carriedBytes_length, if_neg (by omega), hcount, hread]

/-- Settles O33: the judgement by what the payload carries, the segments stored by `resolveSegments_storedAs`. -/
theorem planAppendIsAllOrNothing : Obligations.PlanAppendIsAllOrNothing := by
  refine fun s a hlistens => ⟨fun payload hlength hstartup => congrArg Host.Outcome.next
    (planRequest_refused hlistens hlength (handleAppend_startup payload hstartup)), fun xs hmode hone hsix => ?_⟩
  have hlength : (xs.flatMap carriedBytes).length ≤ 48 := by
    rw [flatMap_carriedBytes_length]
    omega
  refine ⟨fun hout => ?_, fun hin hfull => ?_, fun hin hfits => ?_⟩
  · have hjudge := judgeAppend_unread hone hsix s.planner (readSegments_outOfRange hout)
    exact congrArg Host.Outcome.next
      (planRequest_refused hlistens hlength (handleAppend_refused (s := heard .l2 s) hmode (by decide) hjudge))
  · have hjudge := judgeAppend_read hone hsix s.planner (readSegments_inRange hin)
    rw [List.length_map, if_pos hfull] at hjudge
    exact congrArg Host.Outcome.next
      (planRequest_refused hlistens hlength (handleAppend_refused (s := heard .l2 s) hmode (by decide) hjudge))
  · have hjudge := judgeAppend_read hone hsix s.planner (readSegments_inRange hin)
    rw [List.length_map, if_neg (by omega)] at hjudge
    refine ⟨resolveSegments (tailSurface s.planner.queue) (xs.map wireOf), ?_,
      resolveSegments_storedAs s.planner.queue xs, ?_⟩
    · rw [resolveSegments_length, List.length_map]
    · exact congrArg Host.Outcome.next
        (planRequest_answered hlistens hlength (handleAppend_accepted (s := heard .l2 s) hmode hjudge))

end Sys2Proof.Proofs
end

section
/-! SUPPORT. The operations of the DESCENT PLANNER keep the plan (O50): head limits, ends of a plan, travel, requests. -/

namespace Sys2Proof.Proofs

open Sys2Proof.Machine Sys2Proof.Safety Sys2Proof.Claims

/-! ### The promise (R109, R110, R123) -/

/-- The promise of the plan, on the whole part. -/
def planPromise (s : State) : Prop := planSound s.planner

theorem planPromise_congr {s t : State} (h : t.planner = s.planner) (hs : planPromise s) : planPromise t := by
  unfold planPromise
  rwa [h]

/-- An operation that leaves the plan alone keeps the promise. -/
theorem keepsPlan_of_same {f : State → State} (h : ∀ s, (f s).planner = s.planner) : Keeps planPromise f :=
  fun s => planPromise_congr (h s)

theorem keepsPlan_whenDue {due : State → Bool} {f : State → State} (h : Keeps planPromise f) :
    Keeps planPromise (whenDue due f) :=
  Keeps.whenDue fun s _ => h s

/-- A plan that is EMPTY keeps the promise with its counts in range. -/
theorem planSound_cleared {p : Planner} {completed abandoned : Nat} (hcompleted : completed ≤ 65535)
    (habandoned : abandoned ≤ 65535) :
    planSound { clearedPlan p with completed := completed, abandoned := abandoned } :=
  ⟨Nat.zero_le _, nofun, ⟨rfl, rfl, rfl⟩, hcompleted, habandoned⟩

/-- A plan that is ACTIVE, part by part. -/
theorem planSound_active {p : Planner} (hactive : p.state = .active) (h : planSound p) :
    ∃ seg rest limit, p.queue = seg :: rest ∧ segmentSound seg ∧ p.progress < segmentNeed seg ∧ p.head = some limit ∧
      headSound seg limit := by
  obtain ⟨-, hsegments, hstate, -⟩ := h
  rw [planStateSound, hactive] at hstate
  obtain ⟨seg, rest, limit, hqueue, hprogress, hhead, hlimit⟩ := hstate
  exact ⟨seg, rest, limit, hqueue, hsegments seg (hqueue ▸ List.mem_cons_self), hprogress, hhead, hlimit⟩

/-- A plan made ACTIVE, or left so, with a HEAD that its progress has not finished and a sound head limit. -/
theorem planSound_going {p q : Planner} {seg : Segment} {rest : List Segment} {limit : HeadLimit} (h : planSound p)
    (hsuffix : seg :: rest <:+ p.queue) (hqueue : q.queue = seg :: rest) (hactive : q.state = .active)
    (hprogress : q.progress < segmentNeed seg) (hhead : q.head = some limit) (hlimit : headSound seg limit)
    (hcompleted : q.completed = p.completed) (habandoned : q.abandoned = p.abandoned) : planSound q := by
  obtain ⟨hlength, hsegments, -, hdone, hleft⟩ := h
  refine ⟨?_, fun x hx => hsegments x (hsuffix.subset (hqueue ▸ hx)), ?_, hcompleted ▸ hdone, habandoned ▸ hleft⟩
  · rw [hqueue]
    exact hsuffix.length_le.trans hlength
  · rw [planStateSound, hactive]
    exact ⟨seg, rest, limit, hqueue, hprogress, hhead, hlimit⟩

/-! ### The head limit (R122 to R124) -/

/-- The head limit formed of a segment in range is 300..7000, at most the target, and PLAN_INFEASIBLE only with
PLAN_DERATED. -/
theorem headLimitNow_sound (s : State) {seg : Segment} (h : segmentSound seg) : headSound seg (headLimitNow s seg) := by
  obtain ⟨-, -, -, -, htarget, -⟩ := h
  obtain ⟨hlow, hhigh⟩ := headLimitNow_bounds s seg
  refine ⟨hlow, hhigh, ?_, fun hinfeasible => ?_⟩
  · simp only [headLimitNow, headLimitOf]
    omega
  · simp only [headLimitNow, headLimitOf, decide_eq_true_iff] at *
    omega

theorem recomputeHead_keepsPlan : Keeps planPromise recomputeHead := by
  intro s h
  by_cases hactive : s.planner.state = .active
  · obtain ⟨seg, rest, -, hqueue, hsegment, hprogress, -, -⟩ := planSound_active hactive h
    unfold planPromise
    rw [recomputeHead_active hactive hqueue]
    exact planSound_going h (hqueue ▸ List.suffix_refl _) hqueue hactive hprogress rfl (headLimitNow_sound s hsegment) rfl rfl
  · rwa [recomputeHead_inactive hactive]

/-- The state with the demanded payload latched, before any notice of it (R30). -/
def payloadLatched (s : State) : State := s.withIntake { s.intake with payload := s.intake.demand.payload }

/-- A payload settles with no change, or a new one is latched and handed to the planner, with torque withdrawn at most (R30,
R31). -/
theorem settlePayload_cases (s : State) : settlePayload s = s ∨ s.intake.payload ≠ s.intake.demand.payload ∧
    ∃ torque, settlePayload s = setTorque torque (recomputeHead (payloadLatched s)) := by
  unfold settlePayload latchPayload
  split_ifs with _ hsame
  · exact .inl rfl
  · refine .inr ⟨hsame, ?_⟩
    dsimp only
    split <;> exact ⟨_, rfl⟩
  · exact .inl rfl

theorem settlePayload_keepsPlan : Keeps planPromise settlePayload := by
  intro s h
  rcases settlePayload_cases s with e | ⟨-, torque, e⟩ <;> rw [e]
  · exact h
  · exact recomputeHead_keepsPlan (payloadLatched s) h

/-- The grid formed is a notice to the planner at most (R92). -/
theorem formGrid_keepsPlan (g : Grid) : Keeps planPromise (formGrid g) := by
  intro s h
  have hformed : planPromise (gridFormed g s) := h
  have hhanded : planPromise (gridHandedOn g s) := by
    unfold gridHandedOn
    split
    · exact recomputeHead_keepsPlan _ hformed
    · exact hformed
  rw [formGrid_eq]
  exact planPromise_congr (by simp) hhanded

theorem thermalAtExpiry_keepsPlan : Keeps planPromise thermalAtExpiry := by
  intro s h
  have hgrid : planPromise (gridAtExpiry s) := by
    unfold gridAtExpiry
    split
    · exact h
    · exact formGrid_keepsPlan _ s h
  exact planPromise_congr (by simp [thermalAtExpiry]) hgrid

theorem takeMeasure_keepsPlan (m : MeasurementRecord) : Keeps planPromise (takeMeasure m) := by
  intro s h
  have hgrid : planPromise (gridAtMeasure m (intakeAtMeasure m s)) := by
    rw [gridAtMeasure_eq]
    exact formGrid_keepsPlan _ _ (planPromise_congr (by simp) h)
  exact planPromise_congr (by simp [takeMeasure, thermalAtMeasure]) hgrid

/-! ### The plan travelled (R118, R119) -/

/-- An advance leaves a plan that has ended, or one whose HEAD stood further back in the queue. -/
theorem advanced_keepsPlan {s t : State} {progress : Nat} (h : planPromise s) (hadvanced : advanced s t progress) :
    planPromise t := by
  obtain ⟨hlength, hsegments, -, hcompleted, habandoned⟩ := id h
  obtain ⟨n, -, -, -, hleft, hend⟩ := hadvanced
  rcases hend with ⟨-, hqueue, hstate, hprogress, hhead, hdone⟩ |
    ⟨seg, rest, hdrop, hqueue, hstate, -, hprogress, hhead, hdone⟩
  · have hplan : t.planner = { clearedPlan t.planner with
        completed := min (s.planner.completed + 1) 65535, abandoned := s.planner.abandoned } := by
      rw [← hdone, ← hleft, clearedPlan, ← hqueue, ← hstate, ← hprogress, ← hhead]
    unfold planPromise
    rw [hplan]
    exact planSound_cleared (Nat.min_le_right _ _) habandoned
  · have hsuffix : seg :: rest <:+ s.planner.queue := hdrop ▸ List.drop_suffix n _
    have hsegment : segmentSound seg := hsegments seg (hsuffix.subset List.mem_cons_self)
    exact planSound_going h hsuffix hqueue hstate hprogress hhead (headLimitNow_sound t hsegment) hdone hleft

theorem travelPlan_keepsPlan : Keeps planPromise travelPlan := by
  intro s h
  by_cases hactive : s.planner.state = .active
  · obtain ⟨seg, rest, limit, hqueue, -, -, hhead, hlimit⟩ := planSound_active hactive h
    rcases Nat.lt_or_ge (progressed s s.intake.l1) (segmentNeed seg) with hdone | hdone
    · rw [travelPlan_unfinished hactive hqueue hdone]
      exact planSound_going h (hqueue ▸ List.suffix_refl _) hqueue hactive hdone hhead hlimit rfl rfl
    · exact advanced_keepsPlan h (travelPlan_advanced hactive hqueue hdone)
  · rwa [travelPlan_inactive hactive]

theorem stepShortfall_planner (s : State) : (stepShortfall s).planner = { s.planner with shortfall := shortfallAfter s } := by
  simp [stepShortfall]

theorem stepShortfall_keepsPlan : Keeps planPromise stepShortfall := fun s h => by
  unfold planPromise
  rw [stepShortfall_planner]
  exact h

theorem expireInterval_keepsPlan : Keeps planPromise expireInterval := by
  intro s h
  have hcounted : planPromise (countStandstill (countL2 (afterL1 s))) := planPromise_congr (by simp [afterL1]) h
  have hheated : planPromise (beforeSteering s) := thermalAtExpiry_keepsPlan _ (settlePayload_keepsPlan _ hcounted)
  have htravelled : planPromise (beforeShortfall s) := travelPlan_keepsPlan _ (planPromise_congr (by simp) hheated)
  rw [expireInterval_eq_stepShortfall]
  exact planPromise_congr (by simp) (stepShortfall_keepsPlan _ htravelled)

/-! ### A change of the held direction (R120) -/

theorem planDirection_keepsPlan (d : Direction) : Keeps planPromise (planDirection d) := by
  intro s h
  obtain ⟨-, -, -, hcompleted, -⟩ := id h
  unfold planDirection
  split
  · exact planSound_cleared hcompleted (Nat.min_le_right _ _)
  · exact h

theorem judgeDirection_keepsPlan (d : Direction) : Keeps planPromise (judgeDirection d) := by
  intro s h
  unfold judgeDirection
  split_ifs
  · exact h
  · exact planPromise_congr (by simp [handDirection]) (planDirection_keepsPlan d
      (s.withIntake { s.intake with direction := d, directionHeld := false }) h)
  · exact h

theorem acceptDemand_keepsPlan (d : DemandRecord) : Keeps planPromise (acceptDemand d) := by
  intro s h
  have hstored : planPromise (withdrawOnBrake (formReserve (markPresent .chassisLinkLost false
      (s.withIntake (intakeWithDemand s.store.image d s.intake))))) := planPromise_congr (by simp) h
  exact planPromise_congr (by simp [acceptDemand])
    (settlePayload_keepsPlan _ (judgeDirection_keepsPlan d.direction _ hstored))

/-! ### The plan requests (R112 to R115) -/

/-- A SEGMENT RECORD that is read lies within the ranges of R110. -/
theorem readSegment_sound {bytes : List Byte} {seg : WireSegment} (h : readSegment bytes = some seg) (surface : Surface) :
    segmentSound ⟨seg.length, seg.grade, seg.target, surface⟩ := by
  unfold readSegment at h
  dsimp only at h
  split at h
  · cases h
  · split_ifs at h with hrange
    obtain rfl := Option.some.inj h
    exact hrange

theorem readSegments_sound {n : Nat} {bytes : List Byte} {segs : List WireSegment} (h : readSegments n bytes = some segs) :
    segs.length = n ∧ ∀ seg ∈ segs, ∀ surface, segmentSound ⟨seg.length, seg.grade, seg.target, surface⟩ := by
  induction n generalizing bytes segs with
  | zero =>
    obtain rfl := Option.some.inj h
    exact ⟨rfl, nofun⟩
  | succ n ih =>
    unfold readSegments at h
    split at h
    next first rest hfirst hrest =>
      obtain rfl := Option.some.inj h
      obtain ⟨hlength, hsound⟩ := ih hrest
      exact ⟨congrArg (· + 1) hlength, List.forall_mem_cons.mpr ⟨readSegment_sound hfirst, hsound⟩⟩
    next => cases h

/-- Segments in range are stored in range, whatever surface they take. -/
theorem resolveSegments_sound {segs : List WireSegment}
    (h : ∀ seg ∈ segs, ∀ surface, segmentSound ⟨seg.length, seg.grade, seg.target, surface⟩) (tail : Option Surface) :
    ∀ seg ∈ resolveSegments tail segs, segmentSound seg := by
  induction segs generalizing tail with
  | nil => nofun
  | cons first rest ih =>
    obtain ⟨hfirst, hrest⟩ := List.forall_mem_cons.mp h
    exact List.forall_mem_cons.mpr ⟨hfirst _, ih hrest _⟩

/-- A PLAN_APPEND that is accepted carries at least one segment, each in range, and finds room for all (R112). -/
theorem judgeAppend_ok {payload : List Byte} {p : Planner} {segs : List WireSegment}
    (h : judgeAppend payload p = (.ok, segs)) : segs ≠ [] ∧ p.queue.length + segs.length ≤ 16 ∧
      ∀ seg ∈ segs, ∀ surface, segmentSound ⟨seg.length, seg.grade, seg.target, surface⟩ := by
  unfold judgeAppend at h
  split_ifs at h with hlength
  · cases (Prod.mk.inj h).1
  split at h
  · cases (Prod.mk.inj h).1
  next read hread =>
    split_ifs at h with hfull
    · cases (Prod.mk.inj h).1
    obtain rfl := (Prod.mk.inj h).2
    obtain ⟨hcount, hsound⟩ := readSegments_sound hread
    refine ⟨?_, by omega, hsound⟩
    rintro rfl
    simp only [List.length_nil] at hcount
    omega

theorem appendSegments_sound {p : Planner} {segs : List WireSegment} (h : planSound p) (hsome : segs ≠ [])
    (hroom : p.queue.length + segs.length ≤ 16)
    (hsegs : ∀ seg ∈ segs, ∀ surface, segmentSound ⟨seg.length, seg.grade, seg.target, surface⟩) :
    planSound (appendSegments segs p) := by
  obtain ⟨-, hsegments, hstate, hcompleted, habandoned⟩ := h
  refine ⟨?_, ?_, ?_, hcompleted, habandoned⟩
  · simpa [appendSegments, resolveSegments_length] using hroom
  · exact List.forall_mem_append.mpr ⟨hsegments, resolveSegments_sound hsegs _⟩
  · have hadded : resolveSegments (tailSurface p.queue) segs ≠ [] := fun hnil =>
      hsome (List.length_eq_zero_iff.mp (by rw [← resolveSegments_length, hnil, List.length_nil]))
    unfold planStateSound appendSegments at *
    cases hp : p.state <;> simp only [hp] at hstate ⊢
    case empty => exact ⟨List.append_ne_nil_of_right_ne_nil _ hadded, hstate.2⟩
    case loaded => exact ⟨List.append_ne_nil_of_right_ne_nil _ hadded, hstate.2⟩
    case active =>
      obtain ⟨seg, rest, limit, hqueue, hrest⟩ := hstate
      exact ⟨seg, _, limit, congrArg (· ++ _) hqueue, hrest⟩

theorem handleAppend_keepsPlan (payload : List Byte) : Keeps planPromise fun s => (handleAppend payload s).1 := by
  intro s h
  unfold handleAppend
  dsimp only
  split
  · exact h
  · split
    next segs hjudge =>
      obtain ⟨hsome, hroom, hsegs⟩ := judgeAppend_ok hjudge
      exact appendSegments_sound h hsome hroom hsegs
    next => exact h

/-- A LOADED plan has a HEAD to start with, which a progress of 0 has not finished (R114). -/
theorem startPlan_keepsPlan {s : State} (h : planPromise s) (hloaded : s.planner.state = .loaded) :
    planPromise (startPlan s) := by
  obtain ⟨-, hsegments, hstate, -⟩ := id h
  rw [planStateSound, hloaded] at hstate
  obtain ⟨hsome, -⟩ := hstate
  obtain ⟨seg, rest, hqueue⟩ := List.exists_cons_of_ne_nil hsome
  have hsegment : segmentSound seg := hsegments seg (hqueue ▸ List.mem_cons_self)
  have hneed : 0 < segmentNeed seg := Nat.mul_pos hsegment.1 (by decide)
  rw [startPlan_eq hqueue]
  exact planSound_going h (hqueue ▸ List.suffix_refl _) hqueue rfl hneed rfl (headLimitNow_sound s hsegment) rfl rfl

theorem handleStart_keepsPlan (payload : List Byte) : Keeps planPromise fun s => (handleStart payload s).1 := by
  intro s h
  unfold handleStart
  dsimp only
  split_ifs with _ _ hstart
  · exact h
  · exact h
  · exact startPlan_keepsPlan h hstart.1
  · exact h

theorem handleClear_keepsPlan (payload : List Byte) : Keeps planPromise fun s => (handleClear payload s).1 := by
  intro s h
  obtain ⟨-, -, -, hcompleted, habandoned⟩ := id h
  rcases handleClear_state payload s with e | e <;> dsimp only <;> rw [e]
  · exact h
  · exact planSound_cleared hcompleted habandoned

end Sys2Proof.Proofs
end

section
/-! SUPPORT. Every command, and every step, keeps the plan (O50). -/

namespace Sys2Proof.Proofs

open Sys2Proof.Machine Sys2Proof.Safety Sys2Proof.Claims

/-! ### Line events leave the plan (R154, R155, R158 to R160) -/

theorem takeMarker_planner (p : PortId) (a : Byte) (s : State) : (takeMarker p a s).planner = s.planner := by
  unfold takeMarker
  split_ifs <;> simp

theorem onMarker_planner (p : PortId) (a : Byte) (s : State) : (onMarker p a s).planner = s.planner := by
  unfold onMarker
  split
  · rfl
  · split <;> simp [takeMarker_planner]

theorem onFramingError_planner (p : PortId) (s : State) : (onFramingError p s).planner = s.planner := by
  unfold onFramingError
  split <;> simp

theorem onGap_planner (p : PortId) (s : State) : (onGap p s).planner = s.planner := by
  unfold onGap
  split <;> simp

theorem abandonOnLength_planner (p : PortId) (s : State) : (abandonOnLength p s).planner = s.planner := by
  simp [abandonOnLength]

theorem onLength_planner (p : PortId) (n : Byte) (s : State) : (onLength p n s).planner = s.planner := by
  unfold onLength
  split
  · split_ifs
    · exact abandonOnLength_planner p s
    · rfl
  · rfl

theorem onShortBreak_planner (p : PortId) (s : State) : (onShortBreak p s).planner = s.planner := by
  unfold onShortBreak
  split <;> simp

theorem onLongBreak_planner (p : PortId) (s : State) : (onLongBreak p s).planner = s.planner := by
  unfold onLongBreak
  split
  · rfl
  · cases p <;> simp [resync]

theorem onCheckFailure_planner (p : PortId) (code : Byte) (payload : List Byte) (check : Byte) (s : State) :
    (onCheckFailure p code payload check s).planner = s.planner := by
  unfold onCheckFailure
  split
  · split_ifs
    · exact abandonOnLength_planner p s
    · rfl
    · simp
  · rfl

theorem beginReply_planner (p : PortId) (s : State) : (beginReply p s).planner = s.planner := by
  unfold beginReply
  split <;> simp

theorem completeReply_planner (p : PortId) (s : State) : (completeReply p s).planner = s.planner := by
  unfold completeReply
  split
  · dsimp only
    split_ifs <;> simp
  · rfl

/-! ### Requests (R156, R157) and the pass (R57, R58) -/

/-- A request keeps the plan where its owner does. -/
theorem requestKeepsPlan (p : PortId) (code : Byte) (payload : List Byte) {handle : State → State × Option ReplyBody}
    (hh : Keeps planPromise fun s => (handle s).1) : RequestKeeps planPromise p code payload handle := by
  intro s h
  rcases serveRequest_cases p code payload handle s with e | e | ⟨a, -, e⟩ <;> rw [e]
  · exact h
  · exact planPromise_congr (by rw [abandonOnLength_planner]) h
  · exact planPromise_congr (by simp) (hh (heard p s) (planPromise_congr (by simp [heard]) h))

theorem requestKeepsPlan_of_same (p : PortId) (code : Byte) (payload : List Byte)
    {handle : State → State × Option ReplyBody} (hh : ∀ s, (handle s).1.planner = s.planner) :
    RequestKeeps planPromise p code payload handle :=
  requestKeepsPlan p code payload (keepsPlan_of_same hh)

theorem handleMeasure_keepsPlan (payload : List Byte) : Keeps planPromise fun s => (handleMeasure payload s).1 := by
  intro s h
  dsimp only
  rw [handleMeasure_state]
  split
  · obtain ⟨body, pass, held, e⟩ := engineAtMeasure_eq payload (takeMeasure (readMeasure payload) s)
    rw [e]
    exact takeMeasure_keepsPlan _ s h
  · exact h

theorem handleDemand_keepsPlan (payload : List Byte) : Keeps planPromise fun s => (handleDemand payload s).1 := by
  intro s h
  dsimp only
  rw [handleDemand_state]
  split
  · exact acceptDemand_keepsPlan _ s h
  · exact h

theorem completePass_planner (b : Bool) (s : State) : (completePass b s).planner = s.planner := by
  unfold completePass
  split
  next work _ =>
    obtain ⟨-, -, -, -, -, -, hplanner, -⟩ := handOn_frame b (writeGrant work s)
    exact hplanner.trans rfl
  next => rfl

/-! ### Commands and steps -/

/-- Everything that a command does keeps the plan. -/
theorem commandsKeepPlan : CommandsKeep planPromise where
  pending _ := keepsPlan_of_same fun _ => rfl
  idle := keepsPlan_of_same fun _ => by simp
  coldReset _ _ := planSound_cleared (p := .afterReset) (Nat.zero_le _) (Nat.zero_le _)
  resetNRelease := keepsPlan_of_same fun s => by split <;> simp
  validationComplete r s _ _ := planPromise_congr (by simp [completeValidation])
  warmRestart _ _ _ := planSound_cleared (p := .afterReset) (Nat.zero_le _) (Nat.zero_le _)
  expiry := expireInterval_keepsPlan
  l1Stale := keepsPlan_whenDue (keepsPlan_of_same fun _ => by simp)
  l2Stale := keepsPlan_whenDue (keepsPlan_of_same fun _ => by simp)
  grace := keepsPlan_whenDue (keepsPlan_of_same fun _ => by simp)
  holdExpired _ := keepsPlan_whenDue (keepsPlan_of_same fun _ => by simp)
  boostEnd _ := keepsPlan_whenDue (keepsPlan_of_same fun _ => by simp)
  recoverEnd _ := keepsPlan_whenDue (keepsPlan_of_same fun _ => by simp)
  pressure := keepsPlan_whenDue (keepsPlan_of_same fun _ => by simp)
  advance := keepsPlan_whenDue travelPlan_keepsPlan
  shortfall := keepsPlan_whenDue stepShortfall_keepsPlan
  lockoutEnd := keepsPlan_whenDue (keepsPlan_of_same fun _ => by simp)
  idleTimeout := keepsPlan_whenDue (keepsPlan_of_same fun _ => by simp)
  marker p a := keepsPlan_of_same (onMarker_planner p a)
  framingError p := keepsPlan_of_same (onFramingError_planner p)
  gap p := keepsPlan_of_same (onGap_planner p)
  length p n := keepsPlan_of_same (onLength_planner p n)
  shortBreak p := keepsPlan_of_same (onShortBreak_planner p)
  longBreak p := keepsPlan_of_same (onLongBreak_planner p)
  checkFailure p code payload check := keepsPlan_of_same (onCheckFailure_planner p code payload check)
  replyBegin p := keepsPlan_of_same (beginReply_planner p)
  replyComplete p := keepsPlan_of_same (completeReply_planner p)
  read p code payload _ hsame _ _ := requestKeepsPlan_of_same p code payload fun s => by rw [hsame]
  measure payload := requestKeepsPlan .l1 0x10 payload (handleMeasure_keepsPlan payload)
  passCompletion b := keepsPlan_of_same fun s => by rw [completePass_planner]; simp
  demand payload := requestKeepsPlan .l2 0x20 payload (handleDemand_keepsPlan payload)
  planAppend payload := requestKeepsPlan .l2 0x21 payload (handleAppend_keepsPlan payload)
  planStart payload := requestKeepsPlan .l2 0x22 payload (handleStart_keepsPlan payload)
  planClear payload := requestKeepsPlan .l2 0x23 payload (handleClear_keepsPlan payload)
  tripClear payload := requestKeepsPlan_of_same .l2 0x25 payload fun s => by
    rcases handleTripClear_state payload s with e | e <;> simp [e, clearTrips]
  faultAck payload := requestKeepsPlan_of_same .l3 0x36 payload fun s => by
    rcases handleFaultAck_state payload s with e | e <;> simp [e]
  access payload := requestKeepsPlan_of_same .l3 0x30 payload fun s => by
    rcases handleAccess_state payload s with e | e | ⟨_, -, e⟩ <;> simp [e]
  logout payload := requestKeepsPlan_of_same .l3 0x31 payload fun s => by
    rcases handleLogout_state payload s with e | e <;> simp [e]
  rowStage payload := requestKeepsPlan_of_same .l3 0x33 payload fun s => by
    rcases handleStage_state payload s with e | ⟨_, _, _, e⟩ <;> simp [e]
  rowCommit payload := requestKeepsPlan_of_same .l3 0x34 payload fun s => by
    rcases handleCommit_state payload s with e | e <;> simp [e]
  programVerify _ s _ _ _ := planPromise_congr (by simp)

/-- Settles O50, from what everything that a command does keeps (`commandsKeepPlan`). -/
theorem stepKeepsThePlan : Obligations.StepKeepsThePlan := commandsKeepPlan.step

end Sys2Proof.Proofs
end

section
/-! SUPPORT. The DESCENT PLANNER's share of an expiry (O13): the notices of payload and grid, then the travel. -/

namespace Sys2Proof.Proofs

open Sys2Proof.Machine Sys2Proof.Safety Sys2Proof.Claims

/-! ### The head limit at a notice (R30, R92, R124) -/

/-- A newly latched payload is a notice to an ACTIVE plan. -/
theorem settlePayload_head {s : State} {seg : Segment} {rest : List Segment} (hactive : s.planner.state = .active)
    (hqueue : s.planner.queue = seg :: rest) : (settlePayload s).planner.head =
      if s.intake.payload ≠ (settlePayload s).intake.payload then some (headLimitNow (settlePayload s) seg)
      else s.planner.head := by
  rcases settlePayload_cases s with e | ⟨hnew, torque, e⟩ <;> rw [e]
  · exact (if_neg fun hnew => hnew rfl).symm
  · have hpayload : (setTorque torque (recomputeHead (payloadLatched s))).intake.payload = s.intake.demand.payload := by
      simp [payloadLatched]
    rw [if_pos (by rwa [hpayload])]
    exact recomputeHead_head (s := payloadLatched s) hactive hqueue

theorem settlePayload_inactive {s : State} (h : s.planner.state ≠ .active) : (settlePayload s).planner = s.planner := by
  rcases settlePayload_cases s with e | ⟨-, torque, e⟩ <;> rw [e]
  rw [recomputeHead_inactive (s := payloadLatched s) h]
  rfl

/-- A grid that an expiry gives another band or another Gd is a notice to an ACTIVE plan. -/
theorem gridAtExpiry_head {s : State} {seg : Segment} {rest : List Segment} (hactive : s.planner.state = .active)
    (hqueue : s.planner.queue = seg :: rest) : (gridAtExpiry s).planner.head =
      if (s.thermal.grid.map fun g => g.band) ≠ ((gridAtExpiry s).thermal.grid.map fun g => g.band) ∨
          s.thermal.gd ≠ (gridAtExpiry s).thermal.gd
      then some (headLimitNow (gridAtExpiry s) seg) else s.planner.head := by
  cases hgrid : s.thermal.grid with
  | none => simp [gridAtExpiry_unseeded hgrid, hgrid]
  | some g =>
    rw [gridAtExpiry_seeded hgrid, formGrid_head hactive hqueue, formGrid_thermal, ← hgrid]
    exact if_congr (gridNotice_iff _ s) rfl rfl

theorem gridAtExpiry_head_inactive {s : State} (h : s.planner.state ≠ .active) :
    (gridAtExpiry s).planner.head = s.planner.head := by
  unfold gridAtExpiry
  split
  · rfl
  · exact formGrid_head_inactive h

/-! ### The plan as its travel finds it -/

/-- The state in which an expiry travels the plan. -/
def beforeTravel (s : State) : State := steeringAtExpiry (beforeSteering s)

/-- Its figures are those that the expiry leaves. -/
theorem beforeTravel_frame (s : State) : (beforeTravel s).intake = (expireInterval s).intake ∧
    (beforeTravel s).store.image = (expireInterval s).store.image ∧
    (beforeTravel s).thermal = (expireInterval s).thermal := by
  refine ⟨?_, ?_, ?_⟩
  · simp [expireInterval_eq, beforeTravel, beforeSteering]
  · rw [expireInterval_eq, (storeAtExpiry_aside _).image]
    simp [beforeTravel, beforeSteering]
  · simp [expireInterval_eq, beforeTravel, beforeSteering]

/-- Its plan is the one that the expiry found, but for the head limit. -/
theorem beforeTravel_planner (s : State) :
    (beforeTravel s).planner = { s.planner with head := (beforeTravel s).planner.head } := by
  have hframe : (beforeTravel s).planner.queue = s.planner.queue ∧ (beforeTravel s).planner.state = s.planner.state ∧
      (beforeTravel s).planner.progress = s.planner.progress ∧
      (beforeTravel s).planner.completed = s.planner.completed ∧
      (beforeTravel s).planner.abandoned = s.planner.abandoned ∧
      (beforeTravel s).planner.shortfall = s.planner.shortfall := by
    simp [beforeTravel, beforeSteering, afterL1]
  generalize (beforeTravel s).planner = p at *
  cases p
  simp_all

theorem expireInterval_image (s : State) : (expireInterval s).store.image = s.store.image := by
  rw [expireInterval_eq, (storeAtExpiry_aside _).image]
  simp [afterL1]

/-- The head limit is the one that the grid side leaves. -/
theorem beforeTravel_head (s : State) :
    (beforeTravel s).planner.head = (gridAtExpiry (beforeThermal s)).planner.head := by
  simp [beforeTravel, beforeSteering, beforeThermal, thermalAtExpiry]

/-- A notice of an expiry: grid band, Gd or latched payload takes another value (R124). -/
def noticedAtExpiry (s t : State) : Prop :=
  (s.thermal.grid.map fun g => g.band) ≠ (t.thermal.grid.map fun g => g.band) ∨
    s.thermal.gd ≠ t.thermal.gd ∨ s.intake.payload ≠ t.intake.payload

/-- The state that counting the links and the standstill leaves has plan and payload as the expiry found them. -/
theorem counted_frame (s : State) : (countStandstill (countL2 (afterL1 s))).planner = s.planner ∧
    (countStandstill (countL2 (afterL1 s))).intake.payload = s.intake.payload := by
  constructor <;> simp [afterL1]

/-- The payload's notice, where the THERMAL MONITOR finds the plan. -/
theorem beforeThermal_head {s : State} {seg : Segment} {rest : List Segment} (hactive : s.planner.state = .active)
    (hqueue : s.planner.queue = seg :: rest) : (beforeThermal s).planner.head =
      if s.intake.payload ≠ (beforeThermal s).intake.payload then some (headLimitNow (beforeThermal s) seg)
      else s.planner.head := by
  obtain ⟨hplan, hpayload⟩ := counted_frame s
  have hhead := settlePayload_head (hplan ▸ hactive) (hplan ▸ hqueue)
  rw [hpayload, hplan] at hhead
  exact hhead

/-- Notices form the head limit of an ACTIVE plan from the figures that the expiry leaves: the payload's notice stands where the
grid gives none, for it read the Gd that the grid then keeps. -/
theorem beforeTravel_noticed {s : State} {seg : Segment} {rest : List Segment} (hactive : s.planner.state = .active)
    (hqueue : s.planner.queue = seg :: rest) :
    (noticedAtExpiry s (expireInterval s) →
      (beforeTravel s).planner.head = some (headLimitNow (expireInterval s) seg)) ∧
    (¬noticedAtExpiry s (expireInterval s) → (beforeTravel s).planner.head = s.planner.head) := by
  obtain ⟨hthermal, hstore, -⟩ := beforeThermal_frame s
  obtain ⟨hgrid, hgd, -⟩ := expireInterval_gridSide s
  have hpayload : (expireInterval s).intake.payload = (beforeThermal s).intake.payload := by
    rw [expireInterval_intake, beforeThermal]
  have hhead := gridAtExpiry_head (s := beforeThermal s) (seg := seg) (rest := rest)
    (by simpa [beforeThermal, afterL1] using hactive) (by simpa [beforeThermal, afterL1] using hqueue)
  have hlimit : headLimitNow (gridAtExpiry (beforeThermal s)) seg = headLimitNow (expireInterval s) seg :=
    headLimitNow_congr seg (by simp [expireInterval_image, hstore]) hgd.symm (by simp [hpayload])
  rw [hthermal, ← hgrid, ← hgd, hlimit] at hhead
  rw [beforeTravel_head, hhead]
  by_cases hnotice : (s.thermal.grid.map fun g => g.band) ≠ ((expireInterval s).thermal.grid.map fun g => g.band) ∨
      s.thermal.gd ≠ (expireInterval s).thermal.gd
  · rw [if_pos hnotice]
    exact ⟨fun _ => rfl, fun hnone => absurd (hnotice.imp_right .inl) hnone⟩
  · have hsameGd : s.thermal.gd = (expireInterval s).thermal.gd := not_not.mp fun h => hnotice (.inr h)
    have hstands : headLimitNow (beforeThermal s) seg = headLimitNow (expireInterval s) seg :=
      headLimitNow_congr seg (by rw [expireInterval_image, hstore]) (by rw [hthermal, hsameGd]) hpayload.symm
    rw [if_neg hnotice, beforeThermal_head hactive hqueue, ← hpayload, hstands]
    refine ⟨fun h => if_pos ?_, fun h => if_neg fun hnew => h (.inr (.inr hnew))⟩
    rcases h with hband | hchanged | hnew
    · exact absurd (.inl hband) hnotice
    · exact absurd (.inr hchanged) hnotice
    · exact hnew

theorem beforeTravel_inactive {s : State} (h : s.planner.state ≠ .active) : (beforeTravel s).planner = s.planner := by
  obtain ⟨hplan, -⟩ := counted_frame s
  have hbefore : (beforeThermal s).planner = s.planner := (settlePayload_inactive (hplan ▸ h)).trans hplan
  rw [beforeTravel_planner, beforeTravel_head, gridAtExpiry_head_inactive (hbefore ▸ h), hbefore]

/-! ### The travel (R118, R119) -/

/-- After the travel an expiry counts the shortfall, and the plan stands. -/
theorem expireInterval_travelled (s : State) : (expireInterval s).planner =
    { (travelPlan (beforeTravel s)).planner with shortfall := (expireInterval s).planner.shortfall } := by
  have hplan : (expireInterval s).planner = (stepShortfall (travelPlan (beforeTravel s))).planner := by
    rw [expireInterval_eq_stepShortfall, beforeShortfall, ← beforeTravel]
    simp
  rw [hplan, stepShortfall_planner]

/-- The progress is that of the freshness and the record that the expiry leaves. -/
theorem progressed_beforeTravel (s : State) :
    progressed (beforeTravel s) (beforeTravel s).intake.l1 = progressed s (expireInterval s).intake.l1 := by
  obtain ⟨hintake, -⟩ := beforeTravel_frame s
  have hdirection : (expireInterval s).intake.direction = s.intake.direction := by
    simp [expireInterval_intake, afterL1]
  have hspeed : refSpeedOr0 (expireInterval s).intake = refSpeedOr0 s.intake := by
    rw [refSpeedOr0, expireInterval_measurement, refSpeedOr0]
  rw [progressed, beforeTravel_planner, hintake, hdirection, hspeed, progressed]

/-- The plan after an expiry whose progress does not finish the HEAD. -/
theorem expireInterval_unfinished {s : State} {seg : Segment} {rest : List Segment} (hactive : s.planner.state = .active)
    (hqueue : s.planner.queue = seg :: rest) (hdone : progressed s (expireInterval s).intake.l1 < segmentNeed seg) :
    (expireInterval s).planner = { s.planner with
      progress := progressed s (expireInterval s).intake.l1
      head := (beforeTravel s).planner.head
      shortfall := (expireInterval s).planner.shortfall } := by
  have hbefore := beforeTravel_planner s
  have hstate := (congrArg Planner.state hbefore).trans hactive
  have hfront := (congrArg Planner.queue hbefore).trans hqueue
  rw [← progressed_beforeTravel] at hdone
  have hplan := expireInterval_travelled s
  rw [travelPlan_unfinished hstate hfront hdone, progressed_beforeTravel, State.withPlanner_planner, hbefore] at hplan
  exact hplan

theorem expireInterval_advanced {s : State} {seg : Segment} {rest : List Segment} (hactive : s.planner.state = .active)
    (hqueue : s.planner.queue = seg :: rest) (hdone : segmentNeed seg ≤ progressed s (expireInterval s).intake.l1) :
    advanced s (expireInterval s) (progressed s (expireInterval s).intake.l1) := by
  have hbefore := beforeTravel_planner s
  obtain ⟨hintake, himage, hthermal⟩ := beforeTravel_frame s
  rw [← progressed_beforeTravel] at hdone ⊢
  have htravelled := travelPlan_advanced ((congrArg Planner.state hbefore).trans hactive)
    ((congrArg Planner.queue hbefore).trans hqueue) hdone
  exact advanced_congr (congrArg Planner.queue hbefore).symm (congrArg Planner.completed hbefore).symm
    (congrArg Planner.abandoned hbefore).symm (expireInterval_travelled s)
    (fun seg => headLimitNow_congr seg (by simp [himage]) (by simp [hthermal]) (by simp [hintake])) htravelled

/-- Settles O13: a plan not ACTIVE stands, an ACTIVE one has its notices and its travel. -/
theorem expiryTravelsThePlan : Obligations.ExpiryTravelsThePlan := by
  refine fun s hlow => ⟨_, exec_expiry hlow, fun hinactive => ?_, fun seg rest hactive hqueue => ⟨fun hdone => ?_, ?_⟩⟩
  · have hbefore := beforeTravel_inactive hinactive
    have hplan := expireInterval_travelled s
    rw [travelPlan_inactive (hbefore ▸ hinactive), hbefore] at hplan
    exact hplan
  · have hplan := expireInterval_unfinished hactive hqueue hdone
    have hhead := beforeTravel_noticed hactive hqueue
    generalize expireInterval s = t at *
    rw [hplan]
    exact ⟨rfl, hactive, rfl, rfl, rfl, hhead⟩
  · exact expireInterval_advanced hactive hqueue

end Sys2Proof.Proofs
end
section
/-! SUPPORT. Promises about trips, line and granted torques (O47, O49): what they may read, what leaves it as it was, and which
operations a promise of this kind has to be shown for. -/

namespace Sys2Proof.Proofs

open Sys2Proof.Machine Sys2Proof.Safety Sys2Proof.Claims

/-! ### What a promise about trips, line and torques may read -/

/-- From `s` to `t` mode, line, granted torques and trips stand, and so do the records and the grid that the figures of a FAULT
RECORD are taken from. -/
structure SameDrive (s t : State) : Prop where
  mode : t.mode = s.mode
  line : t.tripOut = s.tripOut
  torque : t.engine.grant.torque = s.engine.grant.torque
  trips : t.trips = s.trips
  record : t.intake.measurement = s.intake.measurement
  demand : t.intake.demand = s.intake.demand
  fallback : t.intake.fallback = s.intake.fallback
  grid : t.thermal.grid = s.thermal.grid

theorem SameDrive.rfl {s : State} : SameDrive s s := by constructor <;> simp

theorem SameDrive.trans {s t u : State} (h : SameDrive s t) (h' : SameDrive t u) : SameDrive s u where
  mode := h'.mode.trans h.mode
  line := h'.line.trans h.line
  torque := h'.torque.trans h.torque
  trips := h'.trips.trans h.trips
  record := h'.record.trans h.record
  demand := h'.demand.trans h.demand
  fallback := h'.fallback.trans h.fallback
  grid := h'.grid.trans h.grid

/-! ### Line events (R154, R155, R158 to R160) -/

theorem setReceive_sameDrive (p : PortId) (r : Receive) (s : State) : SameDrive s (setReceive p r s) := by
  constructor <;> simp

theorem countOn_sameDrive (p : PortId) (f : Counters → Counters) (s : State) : SameDrive s (countOn p f s) := by
  constructor <;> simp

/-- A port counted and put into a receive state. -/
theorem port_sameDrive (p : PortId) (r : Receive) (f : Counters → Counters) (s : State) :
    SameDrive s (setReceive p r (countOn p f s)) :=
  (countOn_sameDrive p f s).trans (setReceive_sameDrive p r _)

theorem takeMarker_sameDrive (p : PortId) (a : Byte) (s : State) : SameDrive s (takeMarker p a s) := by
  unfold takeMarker
  split_ifs
  · exact setReceive_sameDrive p _ s
  · exact setReceive_sameDrive p _ s
  · exact port_sameDrive p _ _ s

theorem onMarker_sameDrive (p : PortId) (a : Byte) (s : State) : SameDrive s (onMarker p a s) := by
  unfold onMarker
  split
  · exact .rfl
  · split
    · exact takeMarker_sameDrive p a s
    · exact takeMarker_sameDrive p a s
    · exact (countOn_sameDrive p _ s).trans (takeMarker_sameDrive p a _)
    · exact (countOn_sameDrive p _ s).trans (takeMarker_sameDrive p a _)
    · exact .rfl

theorem onFramingError_sameDrive (p : PortId) (s : State) : SameDrive s (onFramingError p s) := by
  unfold onFramingError
  split
  · exact port_sameDrive p _ _ s
  · exact .rfl
  · exact countOn_sameDrive p _ s

theorem onGap_sameDrive (p : PortId) (s : State) : SameDrive s (onGap p s) := by
  unfold onGap
  split
  · exact port_sameDrive p _ _ s
  · exact setReceive_sameDrive p _ s
  · exact .rfl

theorem onLength_sameDrive (p : PortId) (n : Byte) (s : State) : SameDrive s (onLength p n s) := by
  unfold onLength
  split
  · split
    · exact port_sameDrive p _ _ s
    · exact .rfl
  · exact .rfl

theorem onShortBreak_sameDrive (p : PortId) (s : State) : SameDrive s (onShortBreak p s) := by
  unfold onShortBreak
  split
  · exact .rfl
  · exact countOn_sameDrive p _ s
  · exact port_sameDrive p _ _ s

theorem onLongBreak_sameDrive (p : PortId) (s : State) : SameDrive s (onLongBreak p s) := by
  unfold onLongBreak
  split
  · exact .rfl
  · cases p <;> constructor <;> simp [resync]

theorem onCheckFailure_sameDrive (p : PortId) (code : Byte) (payload : List Byte) (check : Byte) (s : State) :
    SameDrive s (onCheckFailure p code payload check s) := by
  unfold onCheckFailure
  split
  · split_ifs
    · exact port_sameDrive p _ _ s
    · exact .rfl
    · exact port_sameDrive p _ _ s
  · exact .rfl

theorem beginReply_sameDrive (p : PortId) (s : State) : SameDrive s (beginReply p s) := by
  unfold beginReply
  split
  · exact setReceive_sameDrive p _ s
  · exact .rfl

theorem completeReply_sameDrive (p : PortId) (s : State) : SameDrive s (completeReply p s) := by
  unfold completeReply
  split
  · dsimp only
    split
    · constructor <;> simp
    · exact setReceive_sameDrive p _ s
  · exact .rfl

/-! ### Requests and passes (R44, R58, R156, R157) -/

theorem heard_sameDrive (p : PortId) (s : State) : SameDrive s (heard p s) := by constructor <;> simp [heard]

theorem engineAtMeasure_sameDrive (payload : List Byte) (s : State) : SameDrive s (engineAtMeasure payload s).1 := by
  obtain ⟨body, pass, held, e⟩ := engineAtMeasure_eq payload s
  rw [e]
  constructor <;> rfl

theorem handOn_sameDrive (b : Bool) (s : State) : SameDrive s (handOn b s) := by
  obtain ⟨port, held, pass, programmer, stage, image, reserve, e⟩ := handOn_eq b s
  rw [e]
  constructor <;> rfl

/-- The stages of a pass change traction factors, BOOST TIMERS and the pass itself. -/
theorem runStages_sameDrive (s : State) : SameDrive s (runStages s) := by
  unfold runStages
  split
  · rw [computeStages_eq]
    constructor <;> rfl
  · exact .rfl

theorem startValidation_sameDrive (s : State) : SameDrive s (startValidation s) := by
  constructor <;> simp

/-! ### The operations that touch trips, line or torques -/

/-- The promise `P` reads what `SameDrive` keeps at most, and every operation that touches any of it keeps `P`. -/
structure DriveKeeps (P : State → Prop) : Prop where
  same : ∀ s t, SameDrive s t → P s → P t
  cold : ∀ nv n queue, P (((State.coldReset nv).withFreeCount n).withPending queue)
  warm : Keeps P afterWarmRestart
  parked : Keeps P (changeMode .parked)
  expiry : Keeps P expireInterval
  countL1 : Keeps P countL1
  countL2 : Keeps P countL2
  grace : Keeps P stepGrace
  pressure : Keeps P steeringAtExpiry
  shortfall : Keeps P stepShortfall
  measure : ∀ payload, Keeps P (takeMeasure (measureOf payload))
  grant : ∀ work, Keeps P (writeGrant work)
  demand : ∀ payload, Keeps P (acceptDemand (demandOf payload))
  clear : Keeps P clearTrips
  acknowledge : Keeps P fun s => s.withTrips { s.trips with faults := s.trips.faults.filter fun r => !r.cleared }

section
variable {P : State → Prop}

theorem DriveKeeps.of_same (h : DriveKeeps P) {f : State → State} (hf : ∀ s, SameDrive s (f s)) : Keeps P f :=
  fun s => h.same s _ (hf s)

theorem DriveKeeps.due (h : DriveKeeps P) {due : State → Bool} {f : State → State} (hf : ∀ s, SameDrive s (f s)) :
    Keeps P (whenDue due f) :=
  .whenDue fun s _ => h.of_same hf s

theorem DriveKeeps.motor (h : DriveKeeps P) {due : State → Bool} (w : Wheel) (f : State → Motor → Motor) :
    Keeps P (whenDue due fun s => onMotor w (f s) s) :=
  h.due fun _ => by constructor <;> rfl

/-- A request keeps the promise where its owner does. -/
theorem DriveKeeps.request (h : DriveKeeps P) (p : PortId) (code : Byte) (payload : List Byte)
    {handle : State → State × Option ReplyBody} (hh : Keeps P fun s => (handle s).1) : RequestKeeps P p code payload handle := by
  intro s hs
  rcases serveRequest_cases p code payload handle s with e | e | ⟨a, -, e⟩ <;> rw [e]
  · exact hs
  · exact h.same s _ (port_sameDrive p _ _ s) hs
  · exact h.same _ _ (setReceive_sameDrive p _ _) (hh _ (h.same s _ (heard_sameDrive p s) hs))

/-- A request keeps the promise where its owner leaves what the promise reads. -/
theorem DriveKeeps.aside (h : DriveKeeps P) (p : PortId) (code : Byte) (payload : List Byte)
    {handle : State → State × Option ReplyBody} (hh : ∀ s, SameDrive s (handle s).1) : RequestKeeps P p code payload handle :=
  h.request p code payload (h.of_same hh)

theorem DriveKeeps.handleMeasure (h : DriveKeeps P) (payload : List Byte) : Keeps P fun s => (handleMeasure payload s).1 := by
  intro s hs
  dsimp only
  rw [handleMeasure_state, readMeasure_eq]
  split
  · exact h.same _ _ (engineAtMeasure_sameDrive payload _) (h.measure payload s hs)
  · exact hs

theorem DriveKeeps.handleDemand (h : DriveKeeps P) (payload : List Byte) : Keeps P fun s => (handleDemand payload s).1 := by
  intro s hs
  dsimp only
  rw [handleDemand_state, readDemand_eq]
  split
  · exact h.demand payload s hs
  · exact hs

theorem DriveKeeps.handleTripClear (h : DriveKeeps P) (payload : List Byte) :
    Keeps P fun s => (handleTripClear payload s).1 := by
  intro s hs
  dsimp only
  rcases handleTripClear_state payload s with e | e <;> rw [e]
  · exact hs
  · exact h.clear s hs

theorem DriveKeeps.handleFaultAck (h : DriveKeeps P) (payload : List Byte) : Keeps P fun s => (handleFaultAck payload s).1 := by
  intro s hs
  dsimp only
  rcases handleFaultAck_state payload s with e | e <;> rw [e]
  · exact hs
  · exact h.acknowledge s hs

theorem DriveKeeps.completePass (h : DriveKeeps P) (b : Bool) : Keeps P (completePass b) := by
  intro s hs
  unfold Machine.completePass
  split
  · exact h.same _ _ (handOn_sameDrive b _) (h.grant _ s hs)
  · exact hs

/-- Everything that a command does keeps a promise that these operations keep. -/
theorem DriveKeeps.commands (h : DriveKeeps P) : CommandsKeep P where
  pending _ := h.of_same fun _ => by constructor <;> rfl
  idle := h.of_same fun s => .trans (by constructor <;> simp) (runStages_sameDrive (validateNext s))
  coldReset _ _ := h.cold _ _ _
  resetNRelease := h.of_same fun s => by
    split
    · exact .trans (by constructor <;> rfl) (startValidation_sameDrive (s.withResetLow false))
    · exact .rfl
  validationComplete r s _ _ hs := h.parked _ (h.same s _ (by constructor <;> simp) hs)
  warmRestart s _ hs := h.same _ _ (startValidation_sameDrive _) (h.warm s hs)
  expiry := h.expiry
  l1Stale := .whenDue fun s _ hs => h.same _ _ (by constructor <;> rfl) (h.countL1 s hs)
  l2Stale := .whenDue fun s _ => h.countL2 s
  grace := .whenDue fun s _ => h.grace s
  holdExpired w := h.motor w _
  boostEnd w := h.motor w _
  recoverEnd w := h.motor w _
  pressure := .whenDue fun s _ => h.pressure s
  advance := h.due fun _ => by constructor <;> simp
  shortfall := .whenDue fun s _ => h.shortfall s
  lockoutEnd := h.due fun _ => by constructor <;> rfl
  idleTimeout := h.due fun _ => by constructor <;> rfl
  marker p a := h.of_same (onMarker_sameDrive p a)
  framingError p := h.of_same (onFramingError_sameDrive p)
  gap p := h.of_same (onGap_sameDrive p)
  length p n := h.of_same (onLength_sameDrive p n)
  shortBreak p := h.of_same (onShortBreak_sameDrive p)
  longBreak p := h.of_same (onLongBreak_sameDrive p)
  checkFailure p code payload check := h.of_same (onCheckFailure_sameDrive p code payload check)
  replyBegin p := h.of_same (beginReply_sameDrive p)
  replyComplete p := h.of_same (completeReply_sameDrive p)
  read p code payload _ hsame _ _ := h.aside p code payload fun s => by
    rw [hsame]
    exact .rfl
  measure payload := h.request .l1 0x10 payload (h.handleMeasure payload)
  passCompletion b s hs := h.completePass b _ (h.same s _ (runStages_sameDrive s) hs)
  demand payload := h.request .l2 0x20 payload (h.handleDemand payload)
  planAppend payload := h.aside .l2 0x21 payload fun s => by
    rcases handleAppend_state payload s with e | ⟨segs, e⟩ <;> rw [e] <;> constructor <;> rfl
  planStart payload := h.aside .l2 0x22 payload fun s => by
    rcases handleStart_state payload s with e | e <;> rw [e] <;> constructor <;> simp [startPlan]
  planClear payload := h.aside .l2 0x23 payload fun s => by
    rcases handleClear_state payload s with e | e <;> rw [e] <;> constructor <;> rfl
  tripClear payload := h.request .l2 0x25 payload (h.handleTripClear payload)
  faultAck payload := h.request .l3 0x36 payload (h.handleFaultAck payload)
  access payload := h.aside .l3 0x30 payload fun s => by
    rcases handleAccess_state payload s with e | e | ⟨_, -, e⟩ <;> rw [e] <;> constructor <;> rfl
  logout payload := h.aside .l3 0x31 payload fun s => by
    rcases handleLogout_state payload s with e | e <;> rw [e] <;> constructor <;> rfl
  rowStage payload := h.aside .l3 0x33 payload fun s => by
    rcases handleStage_state payload s with e | ⟨_, _, _, e⟩ <;> rw [e] <;> constructor <;> rfl
  rowCommit payload := h.aside .l3 0x34 payload fun s => by
    rcases handleCommit_state payload s with e | e <;> rw [e] <;> constructor <;> rfl
  programVerify _ s _ _ _ := h.same s _ (by constructor <;> simp)

end

end Sys2Proof.Proofs
end

section
/-! SUPPORT. The raises of an expiry, block by block (O7, O47): which codes each block raises, and the torque that a payload band
which becomes 7 withdraws. -/

namespace Sys2Proof.Proofs

open Sys2Proof.Machine Sys2Proof.Safety Sys2Proof.Claims

/-! ### Torque withdrawn within an event (R31, R61) -/

/-- Withdrawn torque in place of the torque that the event found: what the latches have done to it stands. -/
theorem effectOfLatches_withdraw {s u : State} (h : effectOfLatches False s u) :
    effectOfLatches False (withdrawPositive s) (withdrawPositive u) := by
  have htorque (v : State) : (withdrawPositive v).engine.grant.torque = noPositive v.engine.grant.torque := by
    rw [withdrawPositive_engine, withoutPositive_eq]
  obtain ⟨hclassD, hclassP, hlevel, hquiet⟩ := h
  refine ⟨fun hnew => ?_, fun hP => ⟨fun hdrawn => ?_, fun hover hkept => ?_⟩, hlevel, hquiet⟩
  · rw [htorque, hclassD hnew]
    rfl
  · rw [htorque, htorque, (hclassP hP).1 hdrawn]
  · rw [htorque, htorque, (hclassP hP).2 hover hkept]

/-- An event in which positive torque has been withdrawn is one that found it withdrawn. -/
theorem effectOfLatches_overload {s u : State} (h : effectOfLatches False (withdrawPositive s) u) :
    effectOfLatches True s u := by
  have htorque : (withdrawPositive s).engine.grant.torque = noPositive s.engine.grant.torque := by
    rw [withdrawPositive_engine, withoutPositive_eq]
  obtain ⟨hclassD, hclassP, hlevel, hquiet⟩ := h
  refine ⟨hclassD, fun hP => ⟨fun _ => ?_, fun hover => absurd trivial hover⟩, hlevel, hquiet⟩
  obtain ⟨hdrawn, hkept⟩ := hclassP hP
  by_cases hnew : s.trips.level = .none ∧ ∃ c, newlyLatched (withdrawPositive s) u c
  · rw [hdrawn (.inr hnew), htorque, noPositive_noPositive]
  · rw [hkept not_false ((not_and_or.mp hnew).imp id not_exists.mp), htorque]

theorem RaisedSince.withdraw {s u : State} {R : List TripCode} {refSpeed : Nat} {detail : TripCode → Option Int}
    (h : RaisedSince s u R refSpeed detail) :
    RaisedSince (withdrawPositive s) (withdrawPositive u) R refSpeed detail where
  mode := h.mode
  stamp := h.stamp
  speed := h.speed
  nodup := h.nodup
  latched := h.latched
  effect := effectOfLatches_withdraw h.effect
  records := h.records
  quiet := h.quiet

/-! ### The codes that a block raises -/

/-- Code `c`, where `p` holds. -/
def codeWhere (p : Prop) [Decidable p] (c : TripCode) : List TripCode := if p then [c] else []

theorem mem_codeWhere {p : Prop} [Decidable p] {c e : TripCode} : e ∈ codeWhere p c ↔ e = c ∧ p := by
  unfold codeWhere
  split <;> simp [*]

/-- Code `c`, where its mark goes from absent in `u` to present in `v` (R40). -/
def comesPresent (c : TripCode) (u v : State) : List TripCode :=
  codeWhere (v.present.get c = true ∧ u.present.get c = false) c

theorem comesPresent_same {c : TripCode} {u v : State} (h : v.present = u.present) : comesPresent c u v = [] := by
  simp [comesPresent, codeWhere, h]

/-- Only the mark before and the mark after count. -/
theorem comesPresent_congr {c : TripCode} {u u' v v' : State} (hbefore : u.present.get c = u'.present.get c)
    (hafter : v.present.get c = v'.present.get c) : comesPresent c u v = comesPresent c u' v' := by
  unfold comesPresent
  rw [hbefore, hafter]

section
variable {s u : State} {R : List TripCode} {refSpeed : Nat} {detail : TripCode → Option Int}

theorem RaisedSince.refl (s : State) (detail : TripCode → Option Int) :
    RaisedSince s s [] (refSpeedOr0 s.intake) detail := .start detail rfl rfl rfl rfl rfl rfl

/-- A condition judged raises its code where it comes present (R40). -/
theorem RaisedSince.judge {c : TripCode} {now : Bool} {d : Option Int} (h : RaisedSince s u R refSpeed detail) (hc : c ∉ R)
    (hd : d = detail c) :
    RaisedSince s (judgeCondition c now d u) (R ++ comesPresent c u (judgeCondition c now d u)) refSpeed detail := by
  have hmarked (b : Bool) : RaisedSince s (markPresent c b u) R refSpeed detail := h.carry rfl rfl rfl rfl rfl rfl
  have hmark : (judgeCondition c now d u).present.get c = now := by rw [judgeCondition_get, if_pos rfl]
  unfold comesPresent codeWhere
  rw [hmark]
  split
  next hrises =>
    obtain ⟨rfl, habsent⟩ := hrises
    rw [judgeCondition_rises habsent]
    exact (hmarked true).raise hc hd
  next hstays =>
    rw [judgeCondition_quiet (by cases now <;> simp_all), List.append_nil]
    exact hmarked now

/-- L1 that goes STALE raises PROP_LINK_LOST (R34). -/
theorem countL1_raised (h : RaisedSince s u [] refSpeed detail) (hd : detail .propLinkLost = none) :
    RaisedSince s (countL1 u) (codeWhere (u.intake.l1 = .fresh ∧ u.intake.l1Count ≤ 1) .propLinkLost) refSpeed detail := by
  unfold countL1 codeWhere
  by_cases hfresh : u.intake.l1 = .fresh
  · by_cases hcount : u.intake.l1Count ≤ 1
    · simp only [hfresh, hcount, and_self, if_true]
      have hcounted : RaisedSince s (markPresent .propLinkLost true (u.withIntake { u.intake with l1 := .stale, l1Count := 0 }))
          [] refSpeed detail := h.carry rfl rfl rfl rfl rfl rfl
      exact hcounted.raise (by simp) hd.symm
    · simp only [hfresh, hcount, and_false, if_false, if_true]
      exact h.carry rfl rfl rfl rfl rfl rfl
  · simpa only [hfresh, false_and, if_false] using h

/-- A grace count that reaches L2_GRACE raises CHASSIS_LINK_LOST (R39). -/
theorem stepGrace_raised (h : RaisedSince s u R refSpeed detail) (hc : .chassisLinkLost ∉ R)
    (hd : detail .chassisLinkLost = none) :
    RaisedSince s (stepGrace u) (R ++ comesPresent .chassisLinkLost u (stepGrace u)) refSpeed detail := by
  have hcounted : RaisedSince s (u.withIntake { u.intake with grace := min (u.intake.grace + 1) (l2Grace u.store.image) })
      R refSpeed detail := h.carry rfl rfl rfl rfl rfl rfl
  exact hcounted.judge hc hd.symm

theorem countL2_raised (h : RaisedSince s u R refSpeed detail) (hc : .chassisLinkLost ∉ R)
    (hd : detail .chassisLinkLost = none) :
    RaisedSince s (countL2 u) (R ++ comesPresent .chassisLinkLost u (countL2 u)) refSpeed detail := by
  have hquiet {v : State} (hpresent : v.present = u.present) (hv : RaisedSince s v R refSpeed detail) :
      RaisedSince s v (R ++ comesPresent .chassisLinkLost u v) refSpeed detail := by
    rwa [comesPresent_same hpresent, List.append_nil]
  unfold countL2
  split
  · exact hquiet rfl h
  · split
    · exact hquiet rfl (h.carry rfl rfl rfl rfl rfl rfl)
    · exact hquiet rfl (h.carry rfl rfl rfl rfl rfl rfl)
  · have hlowered : RaisedSince s (lowerSetpoint u) R refSpeed detail := h.carry rfl rfl rfl rfl rfl rfl
    exact stepGrace_raised hlowered hc hd

/-- A grid at or above GRID_TRIP raises GRID_OVERTEMP where it comes there (R93). -/
theorem gridAtExpiry_raised (h : RaisedSince s u R refSpeed detail) (hc : .gridOvertemp ∉ R)
    (hd : detail .gridOvertemp = (gridAtExpiry u).thermal.grid.map fun g => g.effective) :
    RaisedSince s (gridAtExpiry u) (R ++ comesPresent .gridOvertemp u (gridAtExpiry u)) refSpeed detail := by
  cases hgrid : u.thermal.grid with
  | none =>
    rw [gridAtExpiry_unseeded hgrid, comesPresent_same rfl, List.append_nil]
    exact h
  | some g =>
    rw [gridAtExpiry_seeded hgrid, formGrid_thermal] at hd
    rw [gridAtExpiry_seeded hgrid, formGrid_eq]
    obtain ⟨-, -, hpresent⟩ := gridHandedOn_frame { g with g := stepG u.store.image g } u
    have hhanded : RaisedSince s (gridHandedOn { g with g := stepG u.store.image g } u) R refSpeed detail := by
      unfold gridHandedOn
      split <;>
        exact h.carry (by simp [gridFormed]) (by simp [gridFormed]) (by simp [gridFormed]) (by simp [gridFormed])
          (by simp [gridFormed]) (by simp [gridFormed])
    rw [← comesPresent_congr (congrArg (·.get .gridOvertemp) hpresent) rfl]
    exact hhanded.judge hc hd.symm

theorem thermalAtExpiry_raised (h : RaisedSince s u R refSpeed detail) (hc : .gridOvertemp ∉ R)
    (hd : detail .gridOvertemp = (thermalAtExpiry u).thermal.grid.map fun g => g.effective) :
    RaisedSince s (thermalAtExpiry u) (R ++ comesPresent .gridOvertemp u (thermalAtExpiry u)) refSpeed detail :=
  (gridAtExpiry_raised h hc hd).carry rfl rfl rfl rfl rfl rfl

/-- A steering-pressure counter that goes from 19 to 20 raises STEER_PRESSURE_LOW (R84). -/
theorem steeringAtExpiry_raised (h : RaisedSince s u R refSpeed detail) (hc : .steerPressureLow ∉ R)
    (hd : detail .steerPressureLow = some ((demandInForce u.intake).pressure : Int)) :
    RaisedSince s (steeringAtExpiry u)
      (R ++ codeWhere (u.traction.pressureCount = 19 ∧ pressureCountAfter u = 20) .steerPressureLow) refSpeed detail := by
  have hcounted (b : Bool) (t : Traction) : RaisedSince s (markPresent .steerPressureLow b (u.withTraction t)) R refSpeed detail :=
    h.carry rfl rfl rfl rfl rfl rfl
  unfold steeringAtExpiry codeWhere
  dsimp only
  split
  · exact (hcounted _ _).raise hc hd.symm
  · rw [List.append_nil]
    exact hcounted _ _

/-- A shortfall count that reaches SHORTFALL_INTERVALS raises RETARD_SHORTFALL (R127). -/
theorem stepShortfall_raised (h : RaisedSince s u R refSpeed detail) (hc : .retardShortfall ∉ R)
    (hd : detail .retardShortfall = some (refSpeedOr0 u.intake : Int)) :
    RaisedSince s (stepShortfall u) (R ++ comesPresent .retardShortfall u (stepShortfall u)) refSpeed detail := by
  have hcounted : RaisedSince s (u.withPlanner { u.planner with shortfall := shortfallAfter u }) R refSpeed detail :=
    h.carry rfl rfl rfl rfl rfl rfl
  exact hcounted.judge hc hd.symm

end

/-! ### The payload of an expiry (R30, R31, R61) -/

/-- A payload latched at an event withdraws positive torque where it is new and of band 7. -/
theorem settlePayload_torque (s : State) : (settlePayload s).engine.grant.torque =
    if (settlePayload s).intake.payload ≠ s.intake.payload ∧ 290 ≤ (settlePayload s).intake.payload
    then noPositive s.engine.grant.torque else s.engine.grant.torque := by
  unfold settlePayload latchPayload
  by_cases hsettled : payloadSettle s.store.image ≤ s.intake.standstill
  · by_cases hsame : s.intake.payload = s.intake.demand.payload
    · simp [hsettled, hsame]
    · simp only [hsettled, hsame, if_true, if_false, overloadHold, payloadBand_overload, decide_eq_true_eq]
      by_cases hover : 290 ≤ s.intake.demand.payload
      · simp [hover, Ne.symm hsame, withdrawPositive_engine, withoutPositive_eq]
      · simp [hover]
  · simp [hsettled]

theorem settlePayload_raised {s u : State} {R : List TripCode} {refSpeed : Nat} {detail : TripCode → Option Int}
    (h : RaisedSince s u R refSpeed detail) :
    RaisedSince
      (if (settlePayload u).intake.payload ≠ u.intake.payload ∧ 290 ≤ (settlePayload u).intake.payload
       then withdrawPositive s else s) (settlePayload u) R refSpeed detail := by
  have htorque := settlePayload_torque u
  split at htorque
  next hover =>
    rw [if_pos hover]
    refine h.withdraw.carry (by simp) (by simp) (by simp) (by simp) ?_ (by simp)
    rw [htorque, withdrawPositive_engine, withoutPositive_eq]
  next hover =>
    rw [if_neg hover]
    exact h.carry (by simp) (by simp) (by simp) (by simp) htorque (by simp)

/-! ### The expiry (R142) -/

/-- The codes that the expiry in `s` raises, in the order of the blocks (log 8). -/
def raisedByExpiry (s : State) : List TripCode :=
  codeWhere (s.intake.l1 = .fresh ∧ s.intake.l1Count ≤ 1) .propLinkLost ++
    comesPresent .chassisLinkLost s (expireInterval s) ++ comesPresent .gridOvertemp s (expireInterval s) ++
    codeWhere (s.traction.pressureCount = 19 ∧ (expireInterval s).traction.pressureCount = 20) .steerPressureLow ++
    comesPresent .retardShortfall s (expireInterval s)

theorem mem_raisedByExpiry (s : State) (c : TripCode) : c ∈ raisedByExpiry s ↔ raisedAtExpiry s (expireInterval s) c := by
  simp only [raisedByExpiry, comesPresent, List.mem_append, mem_codeWhere]
  cases c <;> simp [raisedAtExpiry, l1Ends, TripMarks.get]

/-- The state that the raises of an expiry start from: the stamp has stepped, and a payload band that becomes 7 has withdrawn
positive torque. -/
def expiryBase (s : State) : State :=
  if (expireInterval s).intake.payload ≠ s.intake.payload ∧ 290 ≤ (expireInterval s).intake.payload
  then withdrawPositive (s.withStamp (s.stamp + 1)) else s.withStamp (s.stamp + 1)

/-- The links are counted and the payload is latched (R32, R34, R39, R61). -/
theorem beforeThermal_raised (s : State) : RaisedSince (expiryBase s) (beforeThermal s)
    (codeWhere (s.intake.l1 = .fresh ∧ s.intake.l1Count ≤ 1) .propLinkLost ++
      comesPresent .chassisLinkLost s (expireInterval s)) (refSpeedOr0 s.intake) (detailAtExpiry (expireInterval s)) := by
  have hl1 : RaisedSince (s.withStamp (s.stamp + 1)) (afterL1 s)
      (codeWhere (s.intake.l1 = .fresh ∧ s.intake.l1Count ≤ 1) .propLinkLost) (refSpeedOr0 s.intake)
      (detailAtExpiry (expireInterval s)) := countL1_raised (.refl (s.withStamp (s.stamp + 1)) _) rfl
  have hl2 := countL2_raised hl1 (by simp [mem_codeWhere]) rfl
  rw [comesPresent_congr (u' := s) (v' := expireInterval s) (by simp [afterL1_get])
    (expireInterval_get (by decide) (by decide) (by decide) s).symm] at hl2
  have hpayload := settlePayload_raised (u := countStandstill (countL2 (afterL1 s)))
    (hl2.carry rfl rfl rfl rfl rfl rfl)
  have hfound : (countStandstill (countL2 (afterL1 s))).intake.payload = s.intake.payload := by simp [afterL1]
  rw [← expireInterval_intake, hfound] at hpayload
  exact hpayload

/-- Then the grid is formed and the steering-pressure counter stepped (R84, R93). -/
theorem beforeTravel_raised (s : State) : RaisedSince (expiryBase s) (beforeTravel s)
    (codeWhere (s.intake.l1 = .fresh ∧ s.intake.l1Count ≤ 1) .propLinkLost ++
      comesPresent .chassisLinkLost s (expireInterval s) ++ comesPresent .gridOvertemp s (expireInterval s) ++
      codeWhere (s.traction.pressureCount = 19 ∧ (expireInterval s).traction.pressureCount = 20) .steerPressureLow)
    (refSpeedOr0 s.intake) (detailAtExpiry (expireInterval s)) := by
  obtain ⟨-, -, hafter⟩ := expireInterval_gridSide s
  obtain ⟨-, -, hbefore⟩ := beforeThermal_frame s
  obtain ⟨hintake, -, hcount⟩ := beforeSteering_frame s
  have hgrid := thermalAtExpiry_raised (beforeThermal_raised s) (by simp [comesPresent, mem_codeWhere])
    (congrArg (fun t => t.grid.map fun g => g.effective) (expireInterval_thermal s))
  rw [comesPresent_congr (v := thermalAtExpiry (beforeThermal s)) (u' := s) (v' := expireInterval s) hbefore
    (by rw [hafter]; simp [thermalAtExpiry])] at hgrid
  have hsteer := steeringAtExpiry_raised (u := beforeSteering s) hgrid (by simp [comesPresent, mem_codeWhere])
    (by rw [hintake]; rfl)
  simp only [hcount, ← (expireInterval_steering s).1] at hsteer
  exact hsteer

/-- An expiry raises these codes, each once. -/
theorem expireInterval_raised (s : State) : RaisedSince (expiryBase s) (expireInterval s) (raisedByExpiry s)
    (refSpeedOr0 s.intake) (detailAtExpiry (expireInterval s)) := by
  obtain ⟨hintake, -⟩ := beforeShortfall_frame s
  obtain ⟨-, hpresent, -⟩ := expireInterval_planner s
  have htravelled := (beforeTravel_raised s).carry (v := travelPlan (beforeTravel s)) (by simp) (by simp) (by simp) (by simp)
    (by simp) (by simp)
  have hshort := stepShortfall_raised (u := beforeShortfall s) htravelled (by simp [comesPresent, mem_codeWhere])
    (by rw [hintake]; rfl)
  rw [comesPresent_congr (c := .retardShortfall) (u' := s) (v' := expireInterval s) (beforeShortfall_mark s)
    (by rw [hpresent])] at hshort
  exact hshort.carry (v := storeAtExpiry (stepShortfall (beforeShortfall s))) (by simp) (by simp) (by simp) (by simp)
    (by simp) (by simp)

end Sys2Proof.Proofs
end

section
/-! SUPPORT. Every step keeps trip level, TRIP_OUT_N and the torques behind it (O47). -/

namespace Sys2Proof.Proofs

open Sys2Proof.Machine Sys2Proof.Safety Sys2Proof.Claims

/-! ### Raises (R60, R61, R135, R137) -/

/-- Torques that are 0 stay 0 through a withdrawal. -/
theorem withdrawPositive_line {s : State} (h : lineSound s) : lineSound (withdrawPositive s) := by
  obtain ⟨hlevel, hline, hzero⟩ := h
  refine ⟨hlevel, hline, fun hout => ?_⟩
  rw [withdrawPositive_engine, hzero hout]
  rfl

/-- An event that raises codes keeps the promise: a class-D latch zeroes the torques, and where the line was asserted before
they were 0 already. -/
theorem RaisedSince.line {s u : State} {R : List TripCode} {refSpeed : Nat} {detail : TripCode → Option Int}
    (h : RaisedSince s u R refSpeed detail) (hs : lineSound s) : lineSound u := by
  obtain ⟨hlevel, hline, hzero⟩ := hs
  obtain ⟨hclassD, hclassP, hlatch, hquiet⟩ := h.effect
  by_cases hnone : ∀ c, ¬newlyLatched s u c
  · have hsame (c : TripCode) : u.trips.latched.get c = s.trips.latched.get c := by
      have hc := hnone c
      have hlatched := h.latched c
      unfold newlyLatched at hc
      cases hbefore : s.trips.latched.get c <;> simp_all
    obtain ⟨hlevel', hline'⟩ := hquiet hnone
    have htorque := (hclassP fun c hc => absurd hc (hnone c)).2 not_false (.inr hnone)
    refine ⟨?_, ?_, fun hout => ?_⟩
    · simpa only [levelSound, hlevel', hsame] using hlevel
    · rw [hline', hlevel', h.mode]
      exact hline
    · rw [htorque, hzero (hline' ▸ hout)]
  · push Not at hnone
    obtain ⟨hlevel', hline'⟩ := hlatch hnone
    refine ⟨hlevel', h.mode ▸ hline', fun hout => ?_⟩
    by_cases hD : ∃ c, c.classD = true ∧ newlyLatched s u c
    · exact hclassD hD
    · have hP : ∀ c, newlyLatched s u c → c.classD = false := fun c hc =>
        Bool.eq_false_iff.mpr fun hclass => hD ⟨c, hclass, hc⟩
      have hbefore : s.tripOut = true := by
        refine hline.mpr ((hline'.mp hout).imp_left fun hd => ?_)
        obtain ⟨c, hclass, hc⟩ := hlevel'.1.mp hd
        by_contra hlow
        have hfree : s.trips.latched.get c = false := Bool.eq_false_iff.mpr fun hlatched =>
          hlow (hlevel.1.mpr ⟨c, hclass, hlatched⟩)
        exact hD ⟨c, hclass, hfree, hc⟩
      obtain ⟨hdrawn, hkept⟩ := hclassP hP
      by_cases hup : s.trips.level = .none
      · rw [hdrawn (.inr ⟨hup, hnone⟩), hzero hbefore]
        rfl
      · rw [hkept not_false (.inl hup), hzero hbefore]

theorem expireInterval_line {s : State} (h : lineSound s) : lineSound (expireInterval s) := by
  refine (expireInterval_raised s).line ?_
  unfold expiryBase
  split
  · exact withdrawPositive_line (s := s.withStamp (s.stamp + 1)) h
  · exact h

theorem takeMeasure_line (m : MeasurementRecord) {s : State} (h : lineSound s) : lineSound (takeMeasure m s) := by
  obtain ⟨R, hraised, -⟩ := takeMeasure_measured (m := m) (s := s) rfl rfl rfl rfl rfl rfl
  exact hraised.line h

/-! ### Mode, payload and brake flags (R61, R133, R137) -/

/-- The promise reads trips, mode, line and torques. -/
theorem lineSound_congr {s t : State} (htrips : t.trips = s.trips) (hmode : t.mode = s.mode) (hline : t.tripOut = s.tripOut)
    (htorque : t.engine.grant.torque = s.engine.grant.torque) (h : lineSound s) : lineSound t := by
  unfold lineSound
  rwa [htrips, hmode, hline, htorque]

theorem SameDrive.lineSound {s t : State} (e : SameDrive s t) (h : lineSound s) : lineSound t :=
  lineSound_congr e.trips e.mode e.line e.torque h

/-- TRIP_OUT_N after a change of mode (R137). -/
theorem changeMode_tripOut (m : Mode) (s : State) : (changeMode m s).tripOut =
    if s.mode = m then s.tripOut else lineAsserted m s.trips.level := by
  unfold changeMode
  by_cases hm : s.mode = m
  · simp [hm]
  · simp only [if_neg hm]
    split <;> split <;> simp [refreshLine]

/-- A mode other than STARTUP asserts the line for level D alone, where the torques are 0 already (R137). -/
theorem changeMode_line {m : Mode} {s : State} (hm : m = .startup → s.mode = .startup) (h : lineSound s) :
    lineSound (changeMode m s) := by
  by_cases hsame : s.mode = m
  · rwa [changeMode_same hsame]
  have hrun : m ≠ .startup := fun hstart => hsame ((hm hstart).trans hstart.symm)
  obtain ⟨hlevel, hline, hzero⟩ := h
  have hout : (changeMode m s).tripOut = true ↔ s.trips.level = .d := by
    rw [changeMode_tripOut, if_neg hsame, lineAsserted_iff]
    simp [hrun]
  refine ⟨by simpa using hlevel, ?_, fun hasserted => ?_⟩
  · rw [hout, changeMode_mode]
    simp [hrun]
  · rw [changeMode_torque, hzero (hline.mpr (.inl (hout.mp hasserted)))]
    split <;> rfl

theorem settlePayload_line {s : State} (h : lineSound s) : lineSound (settlePayload s) := by
  have hraised := settlePayload_raised (.refl s fun _ => none)
  split at hraised
  · exact hraised.line (withdrawPositive_line h)
  · exact hraised.line h

theorem judgeDirection_line (d : Direction) {s : State} (h : lineSound s) : lineSound (judgeDirection d s) := by
  unfold judgeDirection handDirection
  split_ifs
  · exact h
  · exact changeMode_line (modeByDirection_startup _ d).mp (lineSound_congr (by simp) (by simp) (by simp) (by simp) h)
  · exact h

theorem acceptDemand_line (d : DemandRecord) {s : State} (h : lineSound s) : lineSound (acceptDemand d s) := by
  refine changeMode_line (modeByPark_startup _ _ _).mp (settlePayload_line (judgeDirection_line _ ?_))
  unfold withdrawOnBrake
  split
  · exact withdrawPositive_line h
  · exact h

/-! ### Completion, TRIP_CLEAR and the resets (R56, R145, R150) -/

/-- The gate lets no torque through while the line is asserted (R56). -/
theorem writeGrant_line (work : PassWork) {s : State} (h : lineSound s) : lineSound (writeGrant work s) := by
  obtain ⟨hlevel, hline, -⟩ := h
  refine ⟨hlevel, hline, fun hout => ?_⟩
  have hgate : s.trips.level = .d ∨ s.mode = .startup ∨ s.mode = .parked := (hline.mp hout).imp_right .inl
  exact if_pos hgate

/-- A class-D code that stays latched was latched before, with the torques at 0 (R135, R145). -/
theorem clearTrips_line {s : State} (h : lineSound s) : lineSound (clearTrips s) := by
  obtain ⟨hlevel, hline, hzero⟩ := h
  refine ⟨⟨levelOf_eq_d _, levelOf_eq_none _⟩, lineAsserted_iff _ _, fun hout => hzero (hline.mpr ?_)⟩
  refine ((lineAsserted_iff _ _).mp hout).imp_left fun hd => ?_
  obtain ⟨c, hclass, hc⟩ := (levelOf_eq_d (marksKept s)).mp hd
  rw [marksKept_get, Bool.and_eq_true] at hc
  exact hlevel.1.mpr ⟨c, hclass, hc.1⟩

/-- After a warm restart the mode is STARTUP and the torques are 0, whatever is latched (R150). -/
theorem afterWarmRestart_line {s : State} (h : lineSound s) : lineSound (afterWarmRestart s) :=
  ⟨h.1, lineAsserted_iff _ _, fun _ => rfl⟩

/-- The operations that touch trips, line or torques keep the promise. -/
theorem lineSound_kept : DriveKeeps lineSound where
  same _ _ e := e.lineSound
  cold _ _ _ := ⟨⟨by simp [State.coldReset, Trips.afterReset], by simp [State.coldReset, Trips.afterReset]⟩,
    by simp [State.coldReset], fun _ => rfl⟩
  warm _ := afterWarmRestart_line
  parked _ := changeMode_line nofun
  expiry _ := expireInterval_line
  countL1 s := (countL1_raised (.refl s fun _ => none) rfl).line
  countL2 s := (countL2_raised (.refl s fun _ => none) (by simp) rfl).line
  grace s := (stepGrace_raised (.refl s fun _ => none) (by simp) rfl).line
  pressure s := (steeringAtExpiry_raised (.refl s fun _ => some ((demandInForce s.intake).pressure : Int)) (by simp) rfl).line
  shortfall s := (stepShortfall_raised (.refl s fun _ => some (refSpeedOr0 s.intake : Int)) (by simp) rfl).line
  measure payload _ := takeMeasure_line (measureOf payload)
  grant work _ := writeGrant_line work
  demand payload _ := acceptDemand_line (demandOf payload)
  clear _ := clearTrips_line
  acknowledge _ h := h

/-- Settles O47, from what everything that a command does keeps (`DriveKeeps.commands`). -/
theorem stepKeepsTheLine : Obligations.StepKeepsTheLine := lineSound_kept.commands.step

end Sys2Proof.Proofs
end

section
/-! SUPPORT. Every step keeps the FAULT LIST (O49): which records it holds, and the figures in them. -/

namespace Sys2Proof.Proofs

open Sys2Proof.Machine Sys2Proof.Safety Sys2Proof.Claims

/-! ### Counting ACTIVE records (R141, R143) -/

theorem activeCount_append (c : TripCode) (l l' : List FaultRecord) :
    activeCount c (l ++ l') = activeCount c l + activeCount c l' := by
  simp [activeCount]

theorem activeCount_cons (c : TripCode) (r : FaultRecord) (l : List FaultRecord) :
    activeCount c (r :: l) = (if r.code = c ∧ r.cleared = false then 1 else 0) + activeCount c l := by
  by_cases h : r.code = c ∧ r.cleared = false
  · simp [activeCount, h, Nat.add_comm]
  · simp [activeCount, h]

/-- Records that keep code and mark are counted alike. -/
theorem activeCount_map {f : FaultRecord → FaultRecord} (hf : ∀ r, (f r).code = r.code ∧ (f r).cleared = r.cleared)
    (c : TripCode) (l : List FaultRecord) : activeCount c (l.map f) = activeCount c l := by
  induction l with
  | nil => rfl
  | cons r l ih =>
    obtain ⟨hcode, hcleared⟩ := hf r
    rw [List.map_cons, activeCount_cons, activeCount_cons, hcode, hcleared, ih]

/-- A CLEARED record that goes was not counted. -/
theorem activeCount_eraseP (c : TripCode) (l : List FaultRecord) :
    activeCount c (l.eraseP (·.cleared)) = activeCount c l := by
  induction l with
  | nil => rfl
  | cons r l ih =>
    cases hr : r.cleared with
    | true => simp [List.eraseP_cons_of_pos (p := FaultRecord.cleared) hr, activeCount_cons, hr]
    | false => rw [List.eraseP_cons_of_neg (p := FaultRecord.cleared) (by simp [hr]), activeCount_cons, activeCount_cons, ih]

theorem activeCount_makeRoom (c : TripCode) (l : List FaultRecord) : activeCount c (makeRoom l) = activeCount c l := by
  unfold makeRoom
  split
  · rfl
  · exact activeCount_eraseP c l

theorem activeCount_acknowledged (c : TripCode) (l : List FaultRecord) :
    activeCount c (l.filter fun r => !r.cleared) = activeCount c l := by
  simp [activeCount, List.filter_filter]

/-- Twelve codes have twelve ACTIVE records at most (R141). -/
theorem length_le_of_active {l : List FaultRecord} (hactive : ∀ r ∈ l, r.cleared = false)
    (hone : ∀ c, activeCount c l ≤ 1) : l.length ≤ 12 := by
  have hnodup : (l.map (·.code)).Nodup := by
    refine List.nodup_iff_count_le_one.mpr fun c => ?_
    have hcount : (l.map (·.code)).count c = activeCount c l := by
      rw [List.count_eq_countP, List.countP_map, List.countP_eq_length_filter, activeCount]
      refine congrArg List.length (List.filter_congr fun r hr => ?_)
      simp [hactive r hr, Bool.beq_eq_decide_eq]
    exact hcount ▸ hone c
  have hsub := (List.subperm_of_subset hnodup fun c _ => mem_allCodes c).length_le
  rwa [List.length_map] at hsub

/-! ### One ACTIVE record for each latched trip, 16 at most -/

/-- The FAULT LIST holds one ACTIVE record for each latched trip and for no other, and 16 records at most. -/
def onePerTrip (s : State) : Prop :=
  s.trips.faults.length ≤ 16 ∧ ∀ c, activeCount c s.trips.faults = if s.trips.latched.get c = true then 1 else 0

theorem onePerTrip_congr {s t : State} (htrips : t.trips = s.trips) (h : onePerTrip s) : onePerTrip t := by
  unfold onePerTrip
  rwa [htrips]

/-- A list of 16 holds a CLEARED record, which a further latch drops (R143). -/
theorem makeRoom_length {s : State} (h : onePerTrip s) : (makeRoom s.trips.faults).length ≤ 15 := by
  obtain ⟨hlength, hcount⟩ := h
  unfold makeRoom
  split
  · omega
  next hfull =>
    obtain ⟨r, hr, hcleared⟩ : ∃ r ∈ s.trips.faults, r.cleared = true := by
      by_contra! hnone
      have hfew := length_le_of_active (fun r hr => Bool.eq_false_iff.mpr (hnone r hr)) fun c => by
        rw [hcount]
        split <;> omega
      omega
    rw [List.length_eraseP_of_mem hr hcleared]
    omega

theorem onePerTrip_kept : KeptByRaises onePerTrip where
  same _ _ htrips _ _ := onePerTrip_congr htrips
  withdraw _ h := h
  raise c d s h := by
    have hroom := makeRoom_length h
    obtain ⟨hlength, hcount⟩ := h
    cases hlatched : s.trips.latched.get c with
    | true =>
      rw [raiseTrip_latched hlatched]
      refine ⟨by simpa using hlength, fun e => ?_⟩
      refine (activeCount_map (fun r => ?_) e _).trans (hcount e)
      unfold mergeRecord
      split <;> exact ⟨rfl, rfl⟩
    | false =>
      have hget (e : TripCode) := raiseTrip_get c e d s
      rw [raiseTrip_unlatched hlatched] at hget ⊢
      refine ⟨by simpa [latchedTrips] using Nat.lt_succ_of_le hroom, fun e => ?_⟩
      rw [hget e]
      simp only [latchedTrips, activeCount_append, activeCount_makeRoom, hcount e, activeCount_cons]
      by_cases he : e = c
      · subst he
        simp [hlatched, newRecord, activeCount]
      · simp [Ne.symm he, he, newRecord, activeCount]

theorem clearRecord_eq (s : State) (r : FaultRecord) : clearRecord s r =
    { r with cleared := r.cleared || (s.trips.latched.get r.code && conditionGone s r.code) } := by
  unfold clearRecord
  cases s.trips.latched.get r.code <;> cases conditionGone s r.code <;> simp

/-- The records of an unlatched code are ACTIVE no longer (R145). -/
theorem activeCount_clearRecord (s : State) (c : TripCode) (l : List FaultRecord) :
    activeCount c (l.map (clearRecord s)) =
      if s.trips.latched.get c && conditionGone s c then 0 else activeCount c l := by
  induction l with
  | nil => simp [activeCount]
  | cons r l ih =>
    rw [List.map_cons, activeCount_cons, activeCount_cons, ih, clearRecord_eq]
    by_cases hcode : r.code = c
    · subst hcode
      cases hgone : s.trips.latched.get r.code && conditionGone s r.code <;> simp
    · simp [hcode]

theorem clearTrips_onePerTrip {s : State} (h : onePerTrip s) : onePerTrip (clearTrips s) := by
  obtain ⟨hlength, hcount⟩ := h
  refine ⟨by simpa [clearTrips, refreshLine] using hlength, fun c => ?_⟩
  refine (activeCount_clearRecord s c _).trans ?_
  rw [hcount c, show (clearTrips s).trips.latched = marksKept s from rfl, marksKept_get]
  cases s.trips.latched.get c <;> cases conditionGone s c <;> rfl

theorem onePerTrip_driveKept : DriveKeeps onePerTrip where
  same _ _ e := onePerTrip_congr e.trips
  cold _ _ _ := ⟨Nat.zero_le 16, fun c => by cases c <;> rfl⟩
  warm _ := onePerTrip_congr rfl
  parked _ := onePerTrip_congr (by simp)
  expiry s h := onePerTrip_kept.expiry (onePerTrip_kept.countL1 (s.withStamp (s.stamp + 1)) h)
  countL1 := onePerTrip_kept.countL1
  countL2 := onePerTrip_kept.countL2
  grace := onePerTrip_kept.stepGrace
  pressure := onePerTrip_kept.steeringAtExpiry
  shortfall := onePerTrip_kept.stepShortfall
  measure payload := onePerTrip_kept.takeMeasure (measureOf payload)
  grant _ _ := onePerTrip_congr rfl
  demand _ _ := onePerTrip_congr (by simp)
  clear _ := clearTrips_onePerTrip
  acknowledge s h := by
    obtain ⟨hlength, hcount⟩ := h
    exact ⟨(List.length_filter_le _ _).trans hlength, fun c => (activeCount_acknowledged c _).trans (hcount c)⟩

/-! ### Figures (R134, R141) -/

/-- The detail that code `c` is raised with fits its two bytes (R134, Table 8-5). -/
def detailFits (c : TripCode) (d : Option Int) : Prop :=
  ∀ x, d = some x → (c = .dcLinkOvervolt → 0 ≤ x ∧ x ≤ 65535) ∧ (c ≠ .dcLinkOvervolt → carries x)

theorem detailFits_none (c : TripCode) : detailFits c none := nofun

/-- A code but DC_LINK_OVERVOLT has a signed detail. -/
theorem detailFits_carries {c : TripCode} {x : Int} (hc : c ≠ .dcLinkOvervolt) (h : carries x) : detailFits c (some x) := by
  rintro _ ⟨⟩
  exact ⟨fun hvolt => absurd hvolt hc, fun _ => h⟩

/-- The figures of every FAULT RECORD stay in their ranges, and so do those that a raise takes them from. -/
structure FiguresFit (s : State) : Prop where
  record : ∀ m, s.intake.measurement = some m → measurementSound m
  demand : s.intake.demand.pressure ≤ 300
  fallback : ∀ f, s.intake.fallback = some f → f.pressure ≤ 300
  grid : ∀ g, s.thermal.grid = some g → gridSound g
  faults : ∀ r ∈ s.trips.faults, recordSound r

section
variable {s : State}

theorem FiguresFit.congr {t : State} (h : FiguresFit s) (hrecord : t.intake.measurement = s.intake.measurement)
    (hdemand : t.intake.demand = s.intake.demand) (hfallback : t.intake.fallback = s.intake.fallback)
    (hgrid : t.thermal.grid = s.thermal.grid) (htrips : t.trips = s.trips) : FiguresFit t where
  record := hrecord ▸ h.record
  demand := hdemand ▸ h.demand
  fallback := hfallback ▸ h.fallback
  grid := hgrid ▸ h.grid
  faults := htrips ▸ h.faults

theorem FiguresFit.refSpeed (h : FiguresFit s) : refSpeedOr0 s.intake ≤ 7000 := by
  unfold refSpeedOr0
  split
  next m hm =>
    obtain ⟨-, hspeed, -⟩ := h.record m hm
    exact hspeed
  next => omega

theorem FiguresFit.pressure (h : FiguresFit s) : (demandInForce s.intake).pressure ≤ 300 := by
  unfold demandInForce
  split
  next f hf => exact h.fallback f hf
  next => exact h.demand

/-- A first latch takes its figures from the records and the grid (R141). -/
theorem newRecord_sound {c : TripCode} {d : Option Int} (h : FiguresFit s) (hd : detailFits c d) :
    recordSound (newRecord c d s) := by
  refine ⟨le_rfl, by simp [newRecord], h.refSpeed, fun x hx => ?_, hd⟩
  obtain ⟨g, hg, rfl⟩ := Option.map_eq_some_iff.mp hx
  obtain ⟨-, -, hlow, hhigh, -⟩ := h.grid g hg
  exact ⟨hlow, hhigh⟩

/-- The occurrences hold at 255 (R139). -/
theorem mergeRecord_sound {c : TripCode} {stamp : BitVec 32} {r : FaultRecord} (h : recordSound r) :
    recordSound (mergeRecord c stamp r) := by
  obtain ⟨hone, hmost, hfigures⟩ := id h
  unfold mergeRecord
  split
  · exact ⟨by simp only [saturate]; omega, Nat.min_le_right _ _, hfigures⟩
  · exact h

theorem mem_of_mem_makeRoom {r : FaultRecord} {l : List FaultRecord} (h : r ∈ makeRoom l) : r ∈ l := by
  unfold makeRoom at h
  split at h
  · exact h
  · exact List.mem_of_mem_eraseP h

theorem FiguresFit.raise {c : TripCode} {d : Option Int} (h : FiguresFit s) (hd : detailFits c d) :
    FiguresFit (raiseTrip c d s) where
  record := by simpa using h.record
  demand := by simpa using h.demand
  fallback := by simpa using h.fallback
  grid := by simpa using h.grid
  faults := by
    intro r hr
    cases hlatched : s.trips.latched.get c with
    | true =>
      rw [raiseTrip_latched hlatched] at hr
      obtain ⟨r', hr', rfl⟩ := List.mem_map.mp hr
      exact mergeRecord_sound (h.faults r' hr')
    | false =>
      rw [raiseTrip_unlatched hlatched] at hr
      rcases List.mem_append.mp hr with hr | hr
      · exact h.faults r (mem_of_mem_makeRoom hr)
      · rw [List.mem_singleton.mp hr]
        exact newRecord_sound h hd

theorem FiguresFit.judge {c : TripCode} {now : Bool} {d : Option Int} (h : FiguresFit s) (hd : detailFits c d) :
    FiguresFit (judgeCondition c now d s) := by
  have hmarked : FiguresFit (markPresent c now s) := h.congr rfl rfl rfl rfl rfl
  unfold judgeCondition
  split
  · exact hmarked.raise hd
  · exact hmarked

/-! ### The figures over an expiry (R142) -/

theorem countL1_figures (h : FiguresFit s) : FiguresFit (countL1 s) := by
  unfold countL1
  split_ifs
  · have hcounted : FiguresFit (markPresent .propLinkLost true (s.withIntake { s.intake with l1 := .stale, l1Count := 0 })) :=
      h.congr rfl rfl rfl rfl rfl
    exact hcounted.raise (detailFits_none _)
  · exact h.congr rfl rfl rfl rfl rfl
  · exact h

theorem stepGrace_figures (h : FiguresFit s) : FiguresFit (stepGrace s) := by
  have hcounted : FiguresFit (s.withIntake { s.intake with grace := min (s.intake.grace + 1) (l2Grace s.store.image) }) :=
    h.congr rfl rfl rfl rfl rfl
  exact hcounted.judge (detailFits_none _)

/-- The FALLBACK DEMAND takes the pressure of the DEMAND RECORD and keeps it (R36, R37). -/
theorem countL2_figures (h : FiguresFit s) : FiguresFit (countL2 s) := by
  unfold countL2
  split
  · exact h
  · split
    · refine ⟨h.record, h.demand, fun f hf => ?_, h.grid, h.faults⟩
      obtain rfl := Option.some.inj hf
      exact h.demand
    · exact h.congr rfl rfl rfl rfl rfl
  · have hlowered : FiguresFit (lowerSetpoint s) := by
      refine ⟨h.record, h.demand, fun f hf => ?_, h.grid, h.faults⟩
      obtain ⟨f', hf', rfl⟩ := Option.map_eq_some_iff.mp hf
      exact h.fallback f' hf'
    exact stepGrace_figures hlowered

theorem settlePayload_figures (h : FiguresFit s) : FiguresFit (settlePayload s) :=
  h.congr (by simp) (by simp) (by simp) (by simp) (by simp)

/-- The grid is formed within its ranges, and then judged (R91 to R93). -/
theorem formGrid_figures {g : Grid} (hg : gridFit g) (h : FiguresFit s) : FiguresFit (formGrid g s) := by
  have hsound := formBand_sound hg
  have hformed : FiguresFit (gridFormed g s) := by
    refine ⟨h.record, h.demand, h.fallback, ?_, h.faults⟩
    rintro _ ⟨⟩
    exact hsound
  have hhanded : FiguresFit (gridHandedOn g s) := by
    unfold gridHandedOn
    split
    · exact hformed.congr (by simp) (by simp) (by simp) (by simp) (by simp)
    · exact hformed
  rw [formGrid_eq]
  refine hhanded.judge (detailFits_carries nofun ?_)
  obtain ⟨-, -, hlow, hhigh, -⟩ := hsound
  constructor <;> omega

theorem thermalAtExpiry_figures (h : FiguresFit s) : FiguresFit (thermalAtExpiry s) := by
  have hgrid : FiguresFit (gridAtExpiry s) := by
    cases hseeded : s.thermal.grid with
    | none => rwa [gridAtExpiry_unseeded hseeded]
    | some g =>
      rw [gridAtExpiry_seeded hseeded]
      exact formGrid_figures (gridFit_step _ (h.grid g hseeded)) h
  exact hgrid.congr rfl rfl rfl rfl rfl

theorem steeringAtExpiry_figures (h : FiguresFit s) : FiguresFit (steeringAtExpiry s) := by
  have hcounted (b : Bool) (t : Traction) : FiguresFit (markPresent .steerPressureLow b (s.withTraction t)) :=
    h.congr rfl rfl rfl rfl rfl
  have hpressure := h.pressure
  unfold steeringAtExpiry
  dsimp only
  split
  · exact (hcounted _ _).raise (detailFits_carries nofun ⟨by omega, by omega⟩)
  · exact hcounted _ _

theorem stepShortfall_figures (h : FiguresFit s) : FiguresFit (stepShortfall s) := by
  have hcounted : FiguresFit (s.withPlanner { s.planner with shortfall := shortfallAfter s }) := h.congr rfl rfl rfl rfl rfl
  have hspeed := h.refSpeed
  exact hcounted.judge (detailFits_carries nofun ⟨by omega, by omega⟩)

theorem expireInterval_figures (h : FiguresFit s) : FiguresFit (expireInterval s) := by
  have hstamped : FiguresFit (s.withStamp (s.stamp + 1)) := h.congr rfl rfl rfl rfl rfl
  have hlinks : FiguresFit (countL2 (afterL1 s)) := countL2_figures (countL1_figures hstamped)
  have hthermal : FiguresFit (beforeThermal s) := settlePayload_figures (hlinks.congr rfl rfl rfl rfl rfl)
  have hsteered : FiguresFit (beforeTravel s) := steeringAtExpiry_figures (thermalAtExpiry_figures hthermal)
  have htravelled := hsteered.congr (t := travelPlan (beforeTravel s)) (by simp) (by simp) (by simp) (by simp) (by simp)
  have hshort : FiguresFit (stepShortfall (beforeShortfall s)) := stepShortfall_figures htravelled
  exact hshort.congr (t := storeAtExpiry (stepShortfall (beforeShortfall s))) (by simp) (by simp) (by simp) (by simp) (by simp)

/-! ### The figures over a MEASURE (R22 to R24) -/

section
variable {m : MeasurementRecord}

theorem intakeAtMeasure_figures (hm : measurementSound m) (h : FiguresFit s) : FiguresFit (intakeAtMeasure m s) := by
  have hrecorded : FiguresFit (markPresent .propLinkLost false (s.withIntake (intakeWithMeasure s.store.image m s.intake))) := by
    refine ⟨fun m' hm' => ?_, h.demand, h.fallback, h.grid, h.faults⟩
    obtain rfl := Option.some.inj hm'
    exact hm
  obtain ⟨-, -, -, -, -, -, -, hvolt, -⟩ := hm
  refine (hrecorded.judge ?_).judge (detailFits_carries nofun ?_)
  · rintro _ ⟨⟩
    exact ⟨fun _ => ⟨by omega, by omega⟩, fun hother => absurd rfl hother⟩
  · cases hl : m.inverterFault.left <;> cases hr : m.inverterFault.right <;> simp [inverterDetail, hl, hr, carries]

theorem wheelAtMeasure_figures (hm : measurementSound m) (w : Wheel) (h : FiguresFit s) :
    FiguresFit (wheelAtMeasure w m s) := by
  obtain ⟨-, -, -, hwinding, -⟩ := hm
  have hmotor (f : Motor → Motor) : FiguresFit (onMotor w f s) := h.congr rfl rfl rfl rfl rfl
  unfold wheelAtMeasure judgeMotor
  split
  · exact (hmotor _).judge (detailFits_carries (by cases w <;> nofun) (hwinding w).1)
  · exact hmotor _

theorem superviseWheel_figures {w : Wheel} {granted achieved : Int} (hachieved : carries achieved) (h : FiguresFit s) :
    FiguresFit (superviseWheel w granted achieved s) := by
  have hmarked : FiguresFit (excessMarked w granted achieved s) := h.congr rfl rfl rfl rfl rfl
  rw [superviseWheel_eq]
  split
  · exact hmarked.raise (detailFits_carries (by cases w <;> nofun) hachieved)
  · exact hmarked

theorem takeMeasure_figures (hm : measurementSound m) (h : FiguresFit s) : FiguresFit (takeMeasure m s) := by
  obtain ⟨-, hspeed, hachieved, -⟩ := id hm
  have htorque (w : Wheel) : carries (m.achieved.get w) := by
    have hbounds := hachieved w
    constructor <;> omega
  have hintake := intakeAtMeasure_figures hm h
  have hgrid : FiguresFit (gridAtMeasure m (intakeAtMeasure m s)) := by
    rw [gridAtMeasure_eq]
    exact formGrid_figures (gridFit_measured hm hintake.grid) hintake
  have hjudged : FiguresFit (judgeOverspeed m (thermalAtMeasure m (intakeAtMeasure m s))) :=
    (wheelAtMeasure_figures hm .right (wheelAtMeasure_figures hm .left hgrid)).judge
      (detailFits_carries nofun ⟨by omega, by omega⟩)
  unfold takeMeasure supervise
  split
  · exact hjudged
  · exact superviseWheel_figures (htorque .right) (superviseWheel_figures (htorque .left) hjudged)

end

/-! ### The figures over every command -/

theorem acceptDemand_figures {d : DemandRecord} (hd : d.pressure ≤ 300) (h : FiguresFit s) :
    FiguresFit (acceptDemand d s) := by
  refine ⟨?_, ?_, ?_, by simpa using h.grid, by simpa using h.faults⟩ <;> rw [acceptDemand_intake]
  · exact h.record
  · exact hd
  · exact nofun

theorem clearTrips_figures (h : FiguresFit s) : FiguresFit (clearTrips s) := by
  refine ⟨h.record, h.demand, h.fallback, h.grid, fun r hr => ?_⟩
  obtain ⟨r', hr', rfl⟩ := List.mem_map.mp hr
  rw [clearRecord_eq]
  exact h.faults r' hr'

end

/-- A reset leaves no record that a figure could be taken from. -/
theorem figuresFit_afterReset {t : State} (hintake : t.intake = .afterReset)
    (hgrid : ∀ g, t.thermal.grid = some g → gridSound g) (hfaults : ∀ r ∈ t.trips.faults, recordSound r) : FiguresFit t := by
  refine ⟨?_, ?_, ?_, hgrid, hfaults⟩ <;> rw [hintake]
  · rintro m ⟨⟩
  · exact Nat.zero_le 300
  · rintro f ⟨⟩

/-- A warm restart keeps the grid and the FAULT LIST (R108, R150). -/
theorem afterWarmRestart_figures {s : State} (h : FiguresFit s) : FiguresFit (afterWarmRestart s) := by
  refine figuresFit_afterReset rfl (fun g hg => ?_) h.faults
  have hthermal : (afterWarmRestart s).thermal = thermalAfterWarm s.thermal := rfl
  rw [hthermal] at hg
  obtain ⟨kept, hkept, rfl⟩ := Option.map_eq_some_iff.mp hg
  obtain ⟨hlow, hhigh, hcold, hhot, hband, hpower, hambient, hambient', hcarries, -⟩ := h.grid kept hkept
  exact ⟨hlow, hhigh, hcold, hhot, hband, hpower, hambient, hambient', hcarries, nofun⟩

theorem figuresFit_kept : DriveKeeps FiguresFit where
  same _ _ e h := h.congr e.record e.demand e.fallback e.grid e.trips
  cold _ _ _ := figuresFit_afterReset rfl nofun nofun
  warm _ := afterWarmRestart_figures
  parked _ h := h.congr (by simp) (by simp) (by simp) (by simp) (by simp)
  expiry _ := expireInterval_figures
  countL1 _ := countL1_figures
  countL2 _ := countL2_figures
  grace _ := stepGrace_figures
  pressure _ := steeringAtExpiry_figures
  shortfall _ := stepShortfall_figures
  measure payload _ := takeMeasure_figures (measureOf_sound payload)
  grant _ _ h := h.congr rfl rfl rfl rfl rfl
  demand payload _ := by
    obtain ⟨-, -, -, -, -, hpressure, -⟩ := demandOf_sound payload
    exact acceptDemand_figures hpressure
  clear _ := clearTrips_figures
  acknowledge _ h := ⟨h.record, h.demand, h.fallback, h.grid, fun r hr => h.faults r (List.mem_of_mem_filter hr)⟩

/-- Settles O49: which records the list holds, by `onePerTrip_driveKept`; their figures, by `figuresFit_kept`. -/
theorem stepKeepsTheFaultList : Obligations.StepKeepsTheFaultList := by
  rintro s t ⟨hlength, hcount, hrecords⟩ ⟨hdemand, hmeasured, hfallback, -⟩ ⟨hgrid, -⟩ e
  obtain ⟨-, -, -, -, -, hpressure, -⟩ := hdemand
  have hfigures : FiguresFit s := by
    refine ⟨hmeasured, hpressure, fun f hf => ?_, hgrid, hrecords⟩
    obtain ⟨-, -, -, hpressure, -⟩ := hfallback f hf
    exact hpressure
  obtain ⟨hlength', hcount'⟩ := onePerTrip_driveKept.commands.step s t ⟨hlength, hcount⟩ e
  exact ⟨hlength', hcount', (figuresFit_kept.commands.step s t hfigures e).faults⟩

end Sys2Proof.Proofs
end

section
/-! SUPPORT. A raise of a latched code (O45), the requests that L2 and L3 answer at once, TRIP_CLEAR (O35), FAULT_ACK, LOGOUT
and RESTART (O26). -/

namespace Sys2Proof.Proofs

open Sys2Proof.Machine Sys2Proof.Safety Sys2Proof.Claims

/-! ### A raise of a latched code (R139) -/

/-- Settles O45: the list is mapped record by record (`raiseTrip_latched`, `mergeRecord_eq`). -/
theorem raiseOfALatchedCodeMerges : Obligations.RaiseOfALatchedCodeMerges := by
  intro s c detail hlatched
  refine ⟨s.trips.faults.map (mergeRecord c s.stamp), raiseTrip_latched hlatched, List.length_map _, fun i r hr =>
    ⟨fun hactive => ?_, fun hother => ?_⟩⟩
  · rw [List.getElem?_map, hr, Option.map_some, mergeRecord_eq, if_pos hactive]
  · rw [List.getElem?_map, hr, Option.map_some, mergeRecord_eq, if_neg hother]

/-! ### Conditions gone (R145) -/

theorem motorHasCooled_iff (w : Wheel) (s : State) : motorHasCooled w s = true ↔
    ∃ m, s.intake.measurement = some m ∧ m.windingValid.get w = true ∧
      m.winding.get w < (motorTrip s.store.image : Int) - 20 := by
  unfold motorHasCooled
  split <;> simp_all

theorem gridHasCooled_iff (s : State) : gridHasCooled s = true ↔
    ∃ g, s.thermal.grid = some g ∧ g.effective < (gridTrip s.store.image : Int) - 50 := by
  unfold gridHasCooled
  split <;> simp_all

theorem voltageIsBack_iff (s : State) : voltageIsBack s = true ↔
    ∃ m, s.intake.measurement = some m ∧ m.voltage ≤ dcOv s.store.image := by
  unfold voltageIsBack
  split <;> simp_all

theorem invertersAreClear_iff (s : State) : invertersAreClear s = true ↔
    ∃ m, s.intake.measurement = some m ∧ m.inverterFault = ⟨false, false⟩ := by
  have hflags (f : Both Bool) : (!f.left && !f.right) = true ↔ f = ⟨false, false⟩ := by
    obtain ⟨l, r⟩ := f
    cases l <;> cases r <;> simp
  unfold invertersAreClear
  split <;> simp_all

theorem conditionGone_iff (s : State) (c : TripCode) : conditionGone s c = true ↔ gone s c := by
  cases c with
  | propLinkLost => exact decide_eq_true_iff
  | gridOvertemp => exact gridHasCooled_iff s
  | motorOvertempL => exact motorHasCooled_iff .left s
  | motorOvertempR => exact motorHasCooled_iff .right s
  | dcLinkOvervolt => exact voltageIsBack_iff s
  | inverterFault => exact invertersAreClear_iff s
  | chassisLinkLost => exact decide_eq_true_iff
  | steerPressureLow => exact decide_eq_true_iff
  | torqueExcessL => exact iff_of_true rfl trivial
  | torqueExcessR => exact iff_of_true rfl trivial
  | overspeed => exact iff_of_true rfl trivial
  | retardShortfall => exact iff_of_true rfl trivial

/-- A request without a payload that a port takes and its owner answers. -/
theorem bareRequest_taken {s t : State} {p : PortId} {a code : Byte} {handle : State → State × Option ReplyBody}
    {b : Option ReplyBody} (h : listens s p a) (hhandle : handle (heard p s) = (t, b)) :
    whileReleased (serveRequest p code [] handle) s = setReceive p (.replyPending a code b) t := by
  obtain ⟨hlow, haddressed⟩ := h
  rw [serveRequest_addressed hlow haddressed (Nat.zero_le _), takeSound_eq hhandle]

/-! ### TRIP_CLEAR (R144, R145) -/

theorem handleTripClear_refused {s : State} (h : ¬(10 ≤ s.intake.standstill ∧ s.intake.demand.throttle = 0)) :
    handleTripClear [] s = (s, some ⟨.refusedMode, tripMapBytes s⟩) := by
  simpa [handleTripClear, standstillConfirmed] using h

theorem handleTripClear_accepted {s : State} (hstandstill : 10 ≤ s.intake.standstill)
    (hthrottle : s.intake.demand.throttle = 0) :
    handleTripClear [] s = (clearTrips s, some ⟨.ok, tripMapBytes (clearTrips s)⟩) := by
  simp [handleTripClear, standstillConfirmed, hstandstill, hthrottle]

theorem clearTrips_latched (s : State) (c : TripCode) :
    (clearTrips s).trips.latched.get c = true ↔ s.trips.latched.get c = true ∧ ¬gone s c := by
  have hmarks : (clearTrips s).trips.latched = marksKept s := rfl
  rw [hmarks, marksKept_get, ← conditionGone_iff]
  simp

theorem clearRecord_gone {s : State} {r : FaultRecord} (h : s.trips.latched.get r.code = true ∧ gone s r.code) :
    clearRecord s r = { r with cleared := true } := if_pos (h.imp_right (conditionGone_iff s r.code).mpr)

theorem clearRecord_stays {s : State} {r : FaultRecord} (h : ¬(s.trips.latched.get r.code = true ∧ gone s r.code)) :
    clearRecord s r = r := if_neg fun hgone => h (hgone.imp_right (conditionGone_iff s r.code).mp)

/-- Each record is cleared, or stays, in its place. -/
theorem clearTrips_record {s : State} {i : Nat} {r : FaultRecord} (hr : s.trips.faults[i]? = some r) :
    (clearTrips s).trips.faults[i]? = some (clearRecord s r) := by
  have hfaults : (clearTrips s).trips.faults = s.trips.faults.map (clearRecord s) := rfl
  rw [hfaults, List.getElem?_map, hr, Option.map_some]

/-- Settles O35, by what `clearTrips` does to marks, records, level and line. -/
theorem tripClearUnlatchesWhatHasGone : Obligations.TripClearUnlatchesWhatHasGone := by
  intro s a hlistens
  refine ⟨fun hrefused => ?_, fun hstandstill hthrottle => ?_⟩
  · have hhandled : handleTripClear [] (heard .l2 s) = _ := handleTripClear_refused hrefused
    exact congrArg Host.Outcome.next (bareRequest_taken hlistens hhandled)
  · have hhandled : handleTripClear [] (heard .l2 s) = _ := handleTripClear_accepted hstandstill hthrottle
    refine ⟨_, congrArg Host.Outcome.next (bareRequest_taken hlistens hhandled), clearTrips_latched s,
      ⟨levelOf_eq_d _, levelOf_eq_none _⟩, lineAsserted_iff _ _, rfl, List.length_map _, fun i r hr => ?_, rfl⟩
    have hrecord := clearTrips_record (s := heard .l2 s) hr
    exact ⟨fun hgone => hrecord.trans (congrArg some (clearRecord_gone hgone)),
      fun hstays => hrecord.trans (congrArg some (clearRecord_stays hstays))⟩

/-! ### FAULT_ACK, LOGOUT and RESTART (R148, R173, R188) -/

theorem handleFaultAck_accepted {s : State} (h : 1 ≤ s.store.accessLevel) :
    handleFaultAck [] s = (s.withTrips { s.trips with faults := s.trips.faults.filter fun r => !r.cleared },
      some ⟨.ok, oneByte (s.trips.faults.filter fun r => !r.cleared).length⟩) := by
  simp [handleFaultAck, Nat.not_lt.mpr h]

theorem handleFaultAck_refused {s : State} (h : s.store.accessLevel = 0) :
    handleFaultAck [] s = (s, some (bare .refusedAccess)) := by simp [handleFaultAck, h]

/-- RESTART's checks in their order (R188). -/
theorem restartResult_checks (s : State) : restartResult [] s =
    if s.mode = .startup then .busy
    else if s.store.accessLevel < 2 then .refusedAccess
    else if s.store.programmer ≠ .idle then .busy
    else if s.mode = .parked ∧ 10 ≤ s.intake.standstill then .ok
    else .refusedMode := by
  simp only [restartResult, standstillConfirmed, decide_eq_true_eq, List.length_nil, ne_eq, not_true_eq_false, if_false,
    ite_not]

/-- Settles O26: each request by what its owner answers. -/
theorem faultAckLogoutAndRestart : Obligations.FaultAckLogoutAndRestart := by
  intro s a hlistens
  refine ⟨fun hlevel => ?_, fun hlevel => ?_, ?_, ?_⟩
  · have hhandled : handleFaultAck [] (heard .l3 s) = _ := handleFaultAck_accepted hlevel
    exact congrArg Host.Outcome.next (bareRequest_taken hlistens hhandled)
  · have hhandled : handleFaultAck [] (heard .l3 s) = _ := handleFaultAck_refused hlevel
    exact congrArg Host.Outcome.next (bareRequest_taken hlistens hhandled)
  · exact congrArg Host.Outcome.next (bareRequest_taken (handle := handleLogout []) hlistens rfl)
  · rw [← restartResult_checks s]
    exact congrArg Host.Outcome.next (bareRequest_taken (handle := handleRestart []) hlistens rfl)

end Sys2Proof.Proofs
end

section
/-! SUPPORT. The whole of an interval expiry (O7): trips by the raises of its blocks, the rest by what it leaves. -/

namespace Sys2Proof.Proofs

open Sys2Proof.Machine Sys2Proof.Safety Sys2Proof.Claims

/-! ### Trips (R40, R60, R61, R138, R139) -/

/-- The raises find the trips as the expiry found them, and the stamp stepped. -/
theorem expiryBase_frame (s : State) : (expiryBase s).trips = s.trips ∧ (expiryBase s).stamp = s.stamp + 1 := by
  unfold expiryBase
  split <;> exact ⟨rfl, rfl⟩

/-- The FAULT LIST is followed from the trips that an event finds. -/
theorem recordsFollow_congr {raisedNow : TripCode → Prop} {stamp : BitVec 32} {refSpeed : Nat}
    {detail : TripCode → Option Int} {s s' t : State} (htrips : s'.trips = s.trips)
    (h : recordsFollow raisedNow stamp refSpeed detail s' t) : recordsFollow raisedNow stamp refSpeed detail s t := by
  simpa only [recordsFollow, newlyLatched, htrips] using h

/-- A payload band that becomes 7 counts as an overload; the latches are the raises of the blocks. -/
theorem expireInterval_effect (s : State) : effectOfLatches
    ((expireInterval s).intake.payload ≠ s.intake.payload ∧ 290 ≤ (expireInterval s).intake.payload)
    s (expireInterval s) := by
  have heffect := (expireInterval_raised s).effect
  unfold expiryBase at heffect
  split at heffect
  next hover =>
    have hstamped : effectOfLatches True (s.withStamp (s.stamp + 1)) (expireInterval s) := effectOfLatches_overload heffect
    rw [← eq_true hover] at hstamped
    exact hstamped
  next hover =>
    rw [← eq_false hover] at heffect
    exact heffect

/-- A code judged at MEASURE alone keeps its mark (R40). -/
theorem expireInterval_judgedAtMeasure (s : State) {c : TripCode} (hc : c ∈ [TripCode.motorOvertempL, .motorOvertempR,
    .dcLinkOvervolt, .inverterFault, .torqueExcessL, .torqueExcessR, .overspeed]) :
    (expireInterval s).present.get c = s.present.get c := by
  have hother : c ≠ .gridOvertemp ∧ c ≠ .steerPressureLow ∧ c ≠ .retardShortfall ∧ c ≠ .chassisLinkLost ∧
      c ≠ .propLinkLost := by
    revert c
    decide
  obtain ⟨hgrid, hsteer, hshort, hchassis, hprop⟩ := hother
  rw [expireInterval_get hgrid hsteer hshort, countL2_get, if_neg fun h => hchassis h.1, afterL1_get,
    if_neg fun h => hprop h.1]

theorem expireInterval_trips (s : State) : tripsAtExpiry s (expireInterval s) := by
  obtain ⟨htrips, hstamp⟩ := expiryBase_frame s
  have hsince := expireInterval_raised s
  have hrecords := hsince.recordsFollow (mem_raisedByExpiry s)
  refine ⟨fun c => expireInterval_judgedAtMeasure s, fun c => ?_, expireInterval_effect s, ?_, fun hnone => ?_⟩
  · rw [hsince.latched c, htrips, mem_raisedByExpiry]
  · exact recordsFollow_congr htrips (hstamp ▸ hrecords)
  · refine (hsince.quiet (List.eq_nil_iff_forall_not_mem.mpr fun c hc => ?_)).trans htrips
    exact hnone c ((mem_raisedByExpiry s c).mp hc)

/-! ### What an expiry leaves (R142, R172, R174) -/

/-- The lockout counts down and the idle count up (R172, R174). -/
theorem expireInterval_store (s : State) : (expireInterval s).store = countIdle (countLockout s.store) := by
  simp [expireInterval_eq, storeAtExpiry, afterL1]

theorem countLockout_eq (t : Store) : countLockout t = { t with
    lockout := match t.lockout with
      | none => none
      | some n => if n ≤ 1 then none else some (n - 1) } := by
  obtain ⟨⟩ := t
  unfold countLockout
  split <;> simp_all

theorem countIdle_eq (t : Store) : countIdle t = { t with
    accessLevel := if t.accessLevel ≠ 0 ∧ serviceIdle t.image ≤ t.idleCount + 1 then 0 else t.accessLevel
    idleCount := if t.accessLevel = 0 ∨ serviceIdle t.image ≤ t.idleCount + 1 then 0 else t.idleCount + 1 } := by
  unfold countIdle
  by_cases hlevel : t.accessLevel = 0
  · simp [hlevel]
  · by_cases hidle : serviceIdle t.image ≤ t.idleCount + 1
    · simp [hlevel, hidle]
    · simp [hlevel, hidle]

/-- Between completions the engine keeps all but granted torques, where each of its other figures stands. -/
theorem engine_eq_onlyTorque {e e' : Engine} (h : e'.grant.sequence = e.grant.sequence ∧
    e'.grant.propelLimit = e.grant.propelLimit ∧ e'.grant.retardLimit = e.grant.retardLimit ∧
    e'.grant.speedLimit = e.grant.speedLimit ∧ e'.grant.boost = e.grant.boost ∧
    e'.grant.tractionReduced = e.grant.tractionReduced ∧ e'.grant.powerLimited = e.grant.powerLimited ∧
    e'.grant.speedLimited = e.grant.speedLimited ∧ e'.grant.regime = e.grant.regime ∧ e'.speedLimit = e.speedLimit ∧
    e'.source = e.source ∧ e'.retardFraction = e.retardFraction ∧ e'.pass = e.pass ∧ e'.excess = e.excess) :
    e' = onlyTorque e e'.grant.torque := by
  obtain ⟨⟨⟩⟩ := e'
  simp only at h
  obtain ⟨rfl, rfl, rfl, rfl, rfl, rfl, rfl, rfl, rfl, rfl, rfl, rfl, rfl, rfl⟩ := h
  rfl

theorem expireInterval_engine (s : State) :
    (expireInterval s).engine = onlyTorque s.engine (expireInterval s).engine.grant.torque :=
  engine_eq_onlyTorque (by simp [expireInterval_eq, afterL1])

/-- Settles O7: trips by `expireInterval_trips`, store and engine by their equations, the rest by the frame of an expiry. -/
theorem expiryStampAndStore : Obligations.ExpiryStampAndStore := by
  intro s hlow
  have hstore := expireInterval_store s
  rw [countIdle_eq, countLockout_eq] at hstore
  refine ⟨_, exec_expiry hlow, ?_, hstore, expireInterval_trips s, expireInterval_engine s, ?_⟩
  · simp [expireInterval_eq, afterL1]
  · simp [expireInterval_eq, afterL1]

end Sys2Proof.Proofs
end

section
/-! SUPPORT. What an accepted DEMAND hands on (O32): mode, line, torques, plan and a swap that waits, stage by stage. -/

namespace Sys2Proof.Proofs

open Sys2Proof.Machine Sys2Proof.Safety Sys2Proof.Claims

/-! ### Torque withdrawn for several reasons (R61) -/

/-- Positive torque is withdrawn where `p` holds. -/
def drawnWhere (p : Prop) [Decidable p] (t : Both Int) : Both Int := if p then noPositive t else t

theorem drawnWhere_drawnWhere {p q : Prop} [Decidable p] [Decidable q] (t : Both Int) :
    drawnWhere p (drawnWhere q t) = drawnWhere (q ∨ p) t := by
  unfold drawnWhere
  by_cases hp : p <;> by_cases hq : q <;> simp [hp, hq, noPositive_noPositive]

theorem drawnWhere_congr {p q : Prop} [Decidable p] [Decidable q] (h : p ↔ q) (t : Both Int) :
    drawnWhere p t = drawnWhere q t := by
  unfold drawnWhere
  exact if_congr h rfl rfl

theorem withdrawOnBrake_torque (s : State) :
    (withdrawOnBrake s).engine.grant.torque = drawnWhere (brakeSet s.intake = true) s.engine.grant.torque := by
  unfold withdrawOnBrake drawnWhere
  split
  · rw [withdrawPositive_engine, withoutPositive_eq]
  · rfl

theorem changeMode_drawn (m : Mode) (s : State) : (changeMode m s).engine.grant.torque =
    drawnWhere (s.mode = .drive ∧ m ≠ .drive) s.engine.grant.torque := by
  rw [changeMode_torque, withoutPositive_eq]
  rfl

/-! ### The held direction is judged (R28, R120, R132) -/

/-- The mode after the held direction has been judged (R132). -/
def modeJudged (d : Direction) (s : State) : Mode :=
  if (heldAfter d s.intake).1 = s.intake.direction then s.mode else modeByDirection s.mode (heldAfter d s.intake).1

/-- The plan after it: a change to REVERSE abandons an ACTIVE one (R120). -/
def planJudged (d : Direction) (s : State) : Planner :=
  if (heldAfter d s.intake).1 = .reverse ∧ s.intake.direction ≠ .reverse ∧ s.planner.state = .active then
    { clearedPlan s.planner with abandoned := min (s.planner.abandoned + 1) 65535 }
  else s.planner

/-- A direction that does not change is noted in its flag alone. -/
theorem judgeDirection_held {d : Direction} {s : State} (h : (heldAfter d s.intake).1 = s.intake.direction) :
    ∃ b, judgeDirection d s = s.withIntake { s.intake with directionHeld := b } := by
  unfold judgeDirection
  split_ifs with hsame hstill
  · exact ⟨false, rfl⟩
  · have hmoves : heldAfter d s.intake = (d, false) := by
      unfold heldAfter
      rw [if_neg hsame, if_pos ((atStandstill_iff _).mp hstill)]
    rw [hmoves] at h
    exact absurd h hsame
  · exact ⟨true, rfl⟩

/-- A direction that changes is the direction of the DEMAND, and is handed on. -/
theorem judgeDirection_handed {d : Direction} {s : State} (h : (heldAfter d s.intake).1 ≠ s.intake.direction) :
    (heldAfter d s.intake).1 = d ∧ judgeDirection d s = handDirection d s := by
  unfold heldAfter at h ⊢
  split_ifs at h ⊢ with hsame hstill
  · exact absurd rfl h
  · exact ⟨rfl, by rw [judgeDirection, if_neg hsame, if_pos ((atStandstill_iff _).mpr hstill)]⟩
  · exact absurd rfl h

theorem planDirection_planner (d : Direction) (s : State) : (planDirection d s).planner =
    if d = .reverse ∧ s.planner.state = .active then
      { clearedPlan s.planner with abandoned := min (s.planner.abandoned + 1) 65535 }
    else s.planner := by
  unfold planDirection
  split <;> rfl

section
variable (d : Direction) (s : State)

theorem judgeDirection_mode : (judgeDirection d s).mode = modeJudged d s := by
  unfold modeJudged
  split
  next h =>
    obtain ⟨b, e⟩ := judgeDirection_held h
    rw [e]
    rfl
  next h =>
    obtain ⟨hheld, e⟩ := judgeDirection_handed h
    rw [e, hheld]
    simp [handDirection]

theorem judgeDirection_tripOut : (judgeDirection d s).tripOut =
    if s.mode = modeJudged d s then s.tripOut else lineAsserted (modeJudged d s) s.trips.level := by
  unfold modeJudged
  by_cases h : (heldAfter d s.intake).1 = s.intake.direction
  · obtain ⟨b, e⟩ := judgeDirection_held h
    rw [e]
    simp [h]
  · obtain ⟨hheld, e⟩ := judgeDirection_handed h
    rw [e, if_neg h, hheld, handDirection]
    simp only [changeMode_tripOut, planDirection_frame]
    rfl

theorem judgeDirection_torque : (judgeDirection d s).engine.grant.torque =
    drawnWhere (s.mode = .drive ∧ modeJudged d s ≠ .drive) s.engine.grant.torque := by
  unfold modeJudged
  by_cases h : (heldAfter d s.intake).1 = s.intake.direction
  · obtain ⟨b, e⟩ := judgeDirection_held h
    rw [e]
    simp [h, drawnWhere]
  · obtain ⟨hheld, e⟩ := judgeDirection_handed h
    rw [e, if_neg h, hheld, handDirection]
    simp only [changeMode_drawn, planDirection_frame]
    rfl

theorem judgeDirection_planner : (judgeDirection d s).planner = planJudged d s := by
  unfold planJudged
  by_cases h : (heldAfter d s.intake).1 = s.intake.direction
  · obtain ⟨b, e⟩ := judgeDirection_held h
    have hstays : ¬((heldAfter d s.intake).1 = .reverse ∧ s.intake.direction ≠ .reverse ∧ s.planner.state = .active) :=
      fun hreverse => hreverse.2.1 (h ▸ hreverse.1)
    rw [e, if_neg hstays]
    rfl
  · obtain ⟨hheld, e⟩ := judgeDirection_handed h
    rw [hheld] at h
    have hplan : (handDirection d s).planner =
        (planDirection d (s.withIntake { s.intake with direction := d, directionHeld := false })).planner := by
      simp [handDirection]
    rw [e, hheld, hplan, planDirection_planner]
    refine if_congr ⟨?_, fun hall => ⟨hall.1, hall.2.2⟩⟩ rfl rfl
    rintro ⟨rfl, hactive⟩
    exact ⟨rfl, Ne.symm h, hactive⟩

end

/-! ### The mode (R131, R132) -/

theorem isMoving_iff (i : Intake) : isMoving i = true ↔ i.measurement.isSome = true ∧ 50 ≤ refSpeedOr0 i := by
  unfold isMoving refSpeedOr0
  split <;> simp_all

theorem modeByDirection_eq (m : Mode) (d : Direction) : modeByDirection m d =
    if m = .ready ∧ d ≠ .neutral then .drive else if m = .drive ∧ d = .neutral then .ready else m := by
  cases m <;> cases d <;> rfl

theorem modeByPark_eq (m : Mode) (park : Bool) (i : Intake) : modeByPark m park i =
    if m = .startup then .startup
    else if m = .parked then if park then .parked else if i.direction = .neutral then .ready else .drive
    else if park = true ∧ ¬isMoving i = true then .parked
    else m := by
  cases m <;> cases park <;> simp [modeByPark]
  all_goals cases isMoving i <;> simp

/-- The mode leaves for PARKED alone, by the park flag. -/
theorem modeByPark_leaves {m : Mode} {park : Bool} {i : Intake} (hparked : m ≠ .parked) (h : modeByPark m park i ≠ m) :
    modeByPark m park i = .parked ∧ park = true := by
  rw [modeByPark_eq] at h ⊢
  split_ifs at h ⊢ with hstart hpark
  · exact absurd hstart.symm h
  · exact ⟨rfl, hpark.1⟩
  · exact absurd rfl h

/-- A mode that the direction has changed is READY or DRIVE, and so was the mode before. -/
theorem modeJudged_changed {d : Direction} {s : State} (h : modeJudged d s ≠ s.mode) :
    s.mode = .ready ∧ modeJudged d s = .drive ∨ s.mode = .drive ∧ modeJudged d s = .ready := by
  unfold modeJudged at h ⊢
  split_ifs at h ⊢ with hheld
  · exact absurd rfl h
  · rw [modeByDirection_eq] at h ⊢
    split_ifs at h ⊢ with hready hdrive
    · exact .inl ⟨hready.1, rfl⟩
    · exact .inr ⟨hdrive.1, rfl⟩
    · exact absurd rfl h

/-! ### The stages of an accepted DEMAND -/

/-- The record stored, the reserve formed, and positive torque withdrawn by a brake flag (R26, R38, R61, R78). -/
def demandStored (d : DemandRecord) (s : State) : State :=
  withdrawOnBrake (formReserve (markPresent .chassisLinkLost false (s.withIntake (intakeWithDemand s.store.image d s.intake))))

/-- The direction judged and the payload settled (R28, R30). -/
def demandSettled (d : DemandRecord) (s : State) : State := settlePayload (judgeDirection d.direction (demandStored d s))

/-- Last comes the park flag (R131). -/
theorem acceptDemand_eq (d : DemandRecord) (s : State) : acceptDemand d s =
    changeMode (modeByPark (demandSettled d s).mode (demandSettled d s).intake.demand.park (demandSettled d s).intake)
      (demandSettled d s) := rfl

section
variable (d : DemandRecord) (s : State)

theorem demandStored_intake : (demandStored d s).intake = intakeWithDemand s.store.image d s.intake := by
  simp [demandStored]

theorem demandStored_frame : (demandStored d s).mode = s.mode ∧ (demandStored d s).tripOut = s.tripOut ∧
    (demandStored d s).trips = s.trips ∧ (demandStored d s).planner = s.planner ∧ (demandStored d s).store = s.store ∧
    (demandStored d s).thermal = s.thermal ∧ (demandStored d s).engine.pass = s.engine.pass := by
  simp [demandStored]

/-- The direction is judged as the DEMAND finds it. -/
theorem demandStored_held : heldAfter d.direction (demandStored d s).intake = heldAfter d.direction s.intake := by
  rw [demandStored_intake]
  rfl

theorem demandStored_modeJudged : modeJudged d.direction (demandStored d s) = modeJudged d.direction s := by
  obtain ⟨hmode, -⟩ := demandStored_frame d s
  have hdirection : (demandStored d s).intake.direction = s.intake.direction := by
    rw [demandStored_intake]
    rfl
  simp only [modeJudged, demandStored_held, hmode, hdirection]

theorem demandSettled_mode : (demandSettled d s).mode = modeJudged d.direction s := by
  rw [← demandStored_modeJudged, ← judgeDirection_mode]
  simp [demandSettled]

theorem demandSettled_intake : (demandSettled d s).intake = (acceptDemand d s).intake := by
  simp [acceptDemand_eq]

theorem acceptDemand_modeByPark : (acceptDemand d s).mode =
    modeByPark (modeJudged d.direction s) d.park (acceptDemand d s).intake := by
  have hpark : (demandSettled d s).intake.demand.park = d.park := by
    rw [demandSettled_intake, acceptDemand_intake]
  have hmode : (acceptDemand d s).mode =
      modeByPark (demandSettled d s).mode (demandSettled d s).intake.demand.park (demandSettled d s).intake :=
    changeMode_mode _ _
  rw [hmode, hpark, demandSettled_mode, demandSettled_intake]

/-- The mode of the statement. -/
theorem acceptDemand_mode : (acceptDemand d s).mode = modeAfterDemand s d := by
  have hmoving : isMoving (acceptDemand d s).intake = isMoving s.intake := by
    rw [acceptDemand_intake]
    rfl
  have hdirection : (acceptDemand d s).intake.direction = (heldAfter d.direction s.intake).1 := by
    rw [acceptDemand_intake]
  rw [acceptDemand_modeByPark, modeByPark_eq]
  simp only [hmoving, hdirection, modeJudged, modeByDirection_eq, isMoving_iff]
  rfl

end

section
variable {d : DemandRecord} {s : State}

/-- The park flag does not take the mode back to where the direction found it. -/
theorem modeJudged_of_kept (h : (acceptDemand d s).mode = s.mode) : modeJudged d.direction s = s.mode := by
  by_contra hchanged
  rw [acceptDemand_modeByPark] at h
  have hleaves {m : Mode} (hjudged : modeJudged d.direction s = m) (hm : m ≠ .parked) : s.mode = .parked := by
    obtain ⟨hparked, -⟩ := modeByPark_leaves (hjudged ▸ hm) (h.trans_ne (Ne.symm hchanged))
    exact h.symm.trans hparked
  rcases modeJudged_changed hchanged with ⟨hbefore, hjudged⟩ | ⟨hbefore, hjudged⟩ <;>
    exact absurd ((hleaves hjudged nofun).symm.trans hbefore) nofun

/-- A DEMAND that the direction takes out of DRIVE does not end there. -/
theorem acceptDemand_leavesDrive (hdrive : s.mode = .drive) (hjudged : modeJudged d.direction s ≠ .drive) :
    (acceptDemand d s).mode ≠ .drive := fun hback =>
  hjudged ((modeJudged_of_kept (hback.trans hdrive.symm)).trans hdrive)

/-- From DRIVE the park flag alone leaves. -/
theorem acceptDemand_parks (hjudged : modeJudged d.direction s = .drive) (hleaves : (acceptDemand d s).mode ≠ .drive) :
    d.park = true := by
  rw [acceptDemand_modeByPark] at hleaves
  obtain ⟨-, hpark⟩ := modeByPark_leaves (by rw [hjudged]; nofun) (hjudged.symm ▸ hleaves)
  exact hpark

theorem modeJudged_parked : modeJudged d.direction s = .parked ↔ s.mode = .parked := by
  by_cases hchanged : modeJudged d.direction s = s.mode
  · rw [hchanged]
  · rcases modeJudged_changed hchanged with ⟨hbefore, hjudged⟩ | ⟨hbefore, hjudged⟩ <;> simp [hbefore, hjudged]

theorem modeJudged_startup : modeJudged d.direction s = .startup ↔ s.mode = .startup := by
  rw [← judgeDirection_mode, judgeDirection_startup]

/-! ### The line (R137) -/

theorem acceptDemand_tripOut : (acceptDemand d s).tripOut =
    if modeJudged d.direction s = (acceptDemand d s).mode then
      if s.mode = modeJudged d.direction s then s.tripOut else lineAsserted (modeJudged d.direction s) s.trips.level
    else lineAsserted (acceptDemand d s).mode s.trips.level := by
  obtain ⟨hmode, hline, htrips, -⟩ := demandStored_frame d s
  have hsettled : (demandSettled d s).tripOut = (judgeDirection d.direction (demandStored d s)).tripOut := by
    simp [demandSettled]
  have hlevel : (demandSettled d s).trips = s.trips := by simp [demandSettled, htrips]
  have hpark : (acceptDemand d s).mode =
      modeByPark (demandSettled d s).mode (demandSettled d s).intake.demand.park (demandSettled d s).intake :=
    changeMode_mode _ _
  rw [hpark, acceptDemand_eq, changeMode_tripOut, hsettled, judgeDirection_tripOut, demandSettled_mode,
    demandStored_modeJudged, hmode, hline, htrips, hlevel]

/-- TRIP_OUT_N follows a change of mode, and no DEMAND leads to STARTUP. -/
theorem acceptDemand_tripOutFollows : ((acceptDemand d s).mode = s.mode → (acceptDemand d s).tripOut = s.tripOut) ∧
    ((acceptDemand d s).mode ≠ s.mode → ((acceptDemand d s).tripOut = true ↔ s.trips.level = .d)) := by
  refine ⟨fun hkept => ?_, fun hchanged => ?_⟩
  · have hjudged := modeJudged_of_kept hkept
    rw [acceptDemand_tripOut, if_pos (hjudged.trans hkept.symm), if_pos hjudged.symm]
  · have hrun : (acceptDemand d s).mode ≠ .startup := fun hstart => by
      have hbefore := hstart
      rw [acceptDemand_modeByPark, modeByPark_startup, modeJudged_startup] at hbefore
      exact hchanged (hstart.trans hbefore.symm)
    have hline : (acceptDemand d s).tripOut = lineAsserted (acceptDemand d s).mode s.trips.level := by
      rw [acceptDemand_tripOut]
      split
      next hjudged => rw [if_neg fun hsame => hchanged (hjudged.symm.trans hsame.symm), hjudged]
      next => rfl
    rw [hline, lineAsserted_iff]
    simp [hrun]

/-! ### Torques (R61) -/

theorem demandStored_torque : (demandStored d s).engine.grant.torque =
    drawnWhere ((d.park || d.service) = true) s.engine.grant.torque := by
  simp [demandStored, withdrawOnBrake_torque, brakeSet, demandInForce, intakeWithDemand, inForceOfDemand]

theorem judged_payload :
    (judgeDirection d.direction (demandStored d s)).intake.payload = s.intake.payload := by
  rw [judgeDirection_intake, demandStored_intake]
  rfl

theorem demandSettled_torque : (demandSettled d s).engine.grant.torque =
    drawnWhere ((acceptDemand d s).intake.payload ≠ s.intake.payload ∧ 290 ≤ (acceptDemand d s).intake.payload)
      (judgeDirection d.direction (demandStored d s)).engine.grant.torque := by
  have hsettled := settlePayload_torque (judgeDirection d.direction (demandStored d s))
  rw [judged_payload, ← demandSettled, demandSettled_intake] at hsettled
  exact hsettled

theorem acceptDemand_torque : (acceptDemand d s).engine.grant.torque =
    drawnWhere (d.park = true ∨ d.service = true ∨ (s.mode = .drive ∧ (acceptDemand d s).mode ≠ .drive) ∨
      ((acceptDemand d s).intake.payload ≠ s.intake.payload ∧ 290 ≤ (acceptDemand d s).intake.payload))
      s.engine.grant.torque := by
  obtain ⟨hmode, -⟩ := demandStored_frame d s
  have hpark : (acceptDemand d s).engine.grant.torque =
      drawnWhere (modeJudged d.direction s = .drive ∧ (acceptDemand d s).mode ≠ .drive)
        (demandSettled d s).engine.grant.torque := by
    rw [← demandSettled_mode]
    simp only [acceptDemand_eq, changeMode_drawn, changeMode_mode]
  rw [hpark, demandSettled_torque, judgeDirection_torque, demandStored_torque, demandStored_modeJudged, hmode,
    drawnWhere_drawnWhere, drawnWhere_drawnWhere, drawnWhere_drawnWhere]
  refine drawnWhere_congr ⟨?_, ?_⟩ _
  · rintro (hbrake | ⟨hdrive, hjudged⟩ | hover | ⟨hjudged, hleaves⟩)
    · exact ((Bool.or_eq_true _ _).mp hbrake).imp_right .inl
    · exact .inr (.inr (.inl ⟨hdrive, acceptDemand_leavesDrive hdrive hjudged⟩))
    · exact .inr (.inr (.inr hover))
    · exact .inl (acceptDemand_parks hjudged hleaves)
  · rintro (hpark | hservice | ⟨hdrive, hleaves⟩ | hover)
    · exact .inl ((Bool.or_eq_true _ _).mpr (.inl hpark))
    · exact .inl ((Bool.or_eq_true _ _).mpr (.inr hservice))
    · by_cases hjudged : modeJudged d.direction s = .drive
      · exact .inr (.inr (.inr ⟨hjudged, hleaves⟩))
      · exact .inr (.inl ⟨hdrive, hjudged⟩)
    · exact .inr (.inr (.inl hover))

/-! ### The plan (R120, R124) -/

theorem acceptDemand_planner : (acceptDemand d s).planner = (demandSettled d s).planner := by simp [acceptDemand_eq]

theorem judged_planner :
    (judgeDirection d.direction (demandStored d s)).planner = planJudged d.direction s := by
  obtain ⟨-, -, -, hplan, -⟩ := demandStored_frame d s
  have hdirection : (demandStored d s).intake.direction = s.intake.direction := by
    rw [demandStored_intake]
    rfl
  simp only [judgeDirection_planner, planJudged, demandStored_held, hplan, hdirection]

/-- A payload that stays is no notice to the plan (R124). -/
theorem settlePayload_unchanged (h : (settlePayload s).intake.payload = s.intake.payload) :
    (settlePayload s).planner = s.planner := by
  rcases settlePayload_cases s with e | ⟨hnew, torque, e⟩
  · rw [e]
  · refine absurd ?_ hnew
    rw [← h, e]
    simp [setTorque, payloadLatched]

/-- A new payload re-forms the head limit of an ACTIVE plan (R124). -/
theorem settlePayload_reforms {seg : Segment} {rest : List Segment} (hactive : s.planner.state = .active)
    (hqueue : s.planner.queue = seg :: rest) (h : (settlePayload s).intake.payload ≠ s.intake.payload) :
    (settlePayload s).planner = { s.planner with
      head := some (headLimitOf seg.target
        (sustainableSpeed s.store.image s.thermal.gd (settlePayload s).intake.payload seg.grade)) } := by
  rcases settlePayload_cases s with e | ⟨-, torque, e⟩
  · exact absurd (by rw [e]) h
  · rw [e, recomputeHead_active (s := payloadLatched s) hactive hqueue]
    rfl

theorem planJudged_stays (h : (acceptDemand d s).intake.direction = .reverse → s.intake.direction = .reverse) :
    planJudged d.direction s = s.planner := by
  rw [acceptDemand_intake] at h
  exact if_neg fun hall => hall.2.1 (h hall.1)

theorem planJudged_inactive (h : s.planner.state ≠ .active) : planJudged d.direction s = s.planner :=
  if_neg fun hall => h hall.2.2

/-- A plan that is not ACTIVE once the direction is judged stays as it then is. -/
theorem acceptDemand_inactive (h : (planJudged d.direction s).state ≠ .active) :
    (acceptDemand d s).planner = planJudged d.direction s := by
  rw [acceptDemand_planner, demandSettled, settlePayload_inactive (by rwa [judged_planner]), judged_planner]

theorem acceptDemand_keepsInactive (h : s.planner.state ≠ .active) : (acceptDemand d s).planner = s.planner :=
  (acceptDemand_inactive (by rwa [planJudged_inactive h])).trans (planJudged_inactive h)

theorem acceptDemand_abandons (hactive : s.planner.state = .active) (hreverse : (acceptDemand d s).intake.direction = .reverse)
    (hbefore : s.intake.direction ≠ .reverse) : (acceptDemand d s).planner = { s.planner with
      queue := [], state := .empty, progress := 0, head := none, abandoned := min (s.planner.abandoned + 1) 65535 } := by
  rw [acceptDemand_intake] at hreverse
  have hjudged : planJudged d.direction s =
      { clearedPlan s.planner with abandoned := min (s.planner.abandoned + 1) 65535 } :=
    if_pos ⟨hreverse, hbefore, hactive⟩
  rw [acceptDemand_inactive (by rw [hjudged]; nofun), hjudged]
  rfl

theorem acceptDemand_reforms {seg : Segment} {rest : List Segment} (hactive : s.planner.state = .active)
    (hstays : (acceptDemand d s).intake.direction = .reverse → s.intake.direction = .reverse)
    (hqueue : s.planner.queue = seg :: rest) (hnew : (acceptDemand d s).intake.payload ≠ s.intake.payload) :
    (acceptDemand d s).planner = { s.planner with
      head := some (headLimitOf seg.target
        (sustainableSpeed s.store.image s.thermal.gd (acceptDemand d s).intake.payload seg.grade)) } := by
  obtain ⟨-, -, -, -, hstore, hthermal, -⟩ := demandStored_frame d s
  obtain ⟨hjudgedStore, -⟩ := judgeDirection_store d.direction (demandStored d s)
  have hplan := (judged_planner (d := d)).trans (planJudged_stays hstays)
  have hreformed := settlePayload_reforms (s := judgeDirection d.direction (demandStored d s)) (seg := seg) (rest := rest)
    (by rw [hplan, hactive]) (by rw [hplan, hqueue]) (by rwa [judged_payload, ← demandSettled, demandSettled_intake])
  have hjudgedThermal : (judgeDirection d.direction (demandStored d s)).thermal = s.thermal := by simp [hthermal]
  rw [hplan, hjudgedStore, hstore, hjudgedThermal, ← demandSettled, demandSettled_intake] at hreformed
  rw [acceptDemand_planner, hreformed]

theorem acceptDemand_keepsPlanner
    (hstays : (acceptDemand d s).intake.direction = .reverse → s.intake.direction = .reverse)
    (hsame : (acceptDemand d s).intake.payload = s.intake.payload) : (acceptDemand d s).planner = s.planner := by
  rw [acceptDemand_planner, demandSettled, settlePayload_unchanged, judged_planner, planJudged_stays hstays]
  rw [judged_payload, ← demandSettled, demandSettled_intake, hsame]

end

/-! ### A swap that waits (R182) -/

section
variable {s : State}

/-- An entry to PARKED tries the swap once mode, line and torques have been set. -/
theorem changeMode_enters (h : s.mode ≠ .parked) : ∃ v, changeMode .parked s = trySwap v ∧ v.store = s.store ∧
    v.mode = .parked ∧ v.engine.pass = s.engine.pass := by
  unfold changeMode
  rw [if_neg h]
  dsimp only
  rw [if_pos rfl]
  refine ⟨_, rfl, ?_, ?_, ?_⟩ <;> split <;> simp

/-- A change of mode touches no more of the store than a swap does. -/
theorem changeMode_store (m : Mode) (s : State) : (changeMode m s).store = { s.store with
    programmer := (changeMode m s).store.programmer, stage := (changeMode m s).store.stage
    image := (changeMode m s).store.image } := by
  by_cases hunparked : m = .parked → s.mode = .parked
  · rw [(changeMode_unparked hunparked).1]
  · obtain ⟨rfl, hmode⟩ := Classical.not_imp.mp hunparked
    obtain ⟨v, e, hstore, -⟩ := changeMode_enters hmode
    obtain ⟨programmer, stage, image, reserve, hswap⟩ := trySwap_eq v
    rw [e, hswap, ← hstore]

theorem changeMode_waits {m : Mode}
    (h : s.mode = .parked ∨ m ≠ .parked ∨ s.store.programmer ≠ .swapPending ∨ s.engine.pass ≠ none) :
    (changeMode m s).store = s.store := by
  by_cases hunparked : m = .parked → s.mode = .parked
  · exact (changeMode_unparked hunparked).1
  · obtain ⟨rfl, hmode⟩ := Classical.not_imp.mp hunparked
    obtain ⟨v, e, hstore, -, hpass⟩ := changeMode_enters hmode
    rcases h with hparked | henters | hidle | hbusy
    · exact absurd hparked hmode
    · exact absurd rfl henters
    · rw [e, trySwap_none (hstore ▸ hidle), hstore]
    · rw [e, trySwap_waits fun hready => hbusy (hpass ▸ hready.2), hstore]

theorem changeMode_swaps {st : StagedRow} (hmode : s.mode ≠ .parked) (hpending : s.store.programmer = .swapPending)
    (hstage : s.store.stage = some st) (hpass : s.engine.pass = none) (hrow : st.row < 23) :
    swapped st s (changeMode .parked s) := by
  obtain ⟨v, e, hstore, hparked, hfree⟩ := changeMode_enters hmode
  rw [e, trySwap_made (hstore ▸ hpending) hparked (hfree.trans hpass) (hstore ▸ hstage)]
  exact swapRow_swapped hrow (by rw [swapRow_store, hstore])

end

section
variable {d : DemandRecord} {s : State}

theorem demandSettled_frame : (demandSettled d s).store = s.store ∧ (demandSettled d s).engine.pass = s.engine.pass := by
  obtain ⟨-, -, -, -, hstore, -, hpass⟩ := demandStored_frame d s
  obtain ⟨hjudgedStore, -⟩ := judgeDirection_store d.direction (demandStored d s)
  exact ⟨by simp [demandSettled, hjudgedStore, hstore], by simp [demandSettled, hpass]⟩

/-- The last change of mode, by the mode it leads to. -/
theorem acceptDemand_changes : acceptDemand d s = changeMode (acceptDemand d s).mode (demandSettled d s) := by
  rw [acceptDemand_eq, changeMode_mode]

theorem acceptDemand_swaps {st : StagedRow} (hbefore : s.mode ≠ .parked) (hafter : (acceptDemand d s).mode = .parked)
    (hpending : s.store.programmer = .swapPending) (hstage : s.store.stage = some st) (hrow : st.row < 23)
    (hpass : s.engine.pass = none) : swapped st s (acceptDemand d s) := by
  obtain ⟨hstore, hsame⟩ := demandSettled_frame (d := d) (s := s)
  have hmode : (demandSettled d s).mode ≠ .parked := by rwa [demandSettled_mode, ne_eq, modeJudged_parked]
  have hswapped := changeMode_swaps hmode (hstore ▸ hpending) (hstore ▸ hstage) (hsame.trans hpass) hrow
  rw [acceptDemand_changes, hafter]
  simpa only [swapped, hstore] using hswapped

theorem acceptDemand_store : (acceptDemand d s).store = { s.store with
    programmer := (acceptDemand d s).store.programmer, stage := (acceptDemand d s).store.stage
    image := (acceptDemand d s).store.image } := by
  obtain ⟨hstore, -⟩ := demandSettled_frame (d := d) (s := s)
  have hchanged := changeMode_store (acceptDemand d s).mode (demandSettled d s)
  rwa [← acceptDemand_changes, hstore] at hchanged

theorem acceptDemand_keepsStore (h : s.mode = .parked ∨ (acceptDemand d s).mode ≠ .parked ∨
    s.store.programmer ≠ .swapPending ∨ s.engine.pass ≠ none) : (acceptDemand d s).store = s.store := by
  obtain ⟨hstore, hpass⟩ := demandSettled_frame (d := d) (s := s)
  rw [← modeJudged_parked (d := d), ← demandSettled_mode, ← hstore, ← hpass] at h
  rw [acceptDemand_changes, changeMode_waits h, hstore]

/-! ### The statement -/

theorem acceptDemand_engine : (acceptDemand d s).engine = onlyTorque s.engine (acceptDemand d s).engine.grant.torque :=
  engine_eq_onlyTorque (by simp)

end

/-- Settles O32, clause by clause: mode, line, torques, plan and store of `acceptDemand`. -/
theorem demandHandsOn : Obligations.DemandHandsOn := by
  intro s a payload hlistens hlength
  have hexec := exec_demand hlistens hlength
  have hmode := acceptDemand_mode (demandOf payload) (heard .l2 s)
  obtain ⟨hkept, hchanged⟩ := acceptDemand_tripOutFollows (d := demandOf payload) (s := heard .l2 s)
  have hengine := acceptDemand_engine (d := demandOf payload) (s := heard .l2 s)
  rw [acceptDemand_torque] at hengine
  have habandons := acceptDemand_abandons (d := demandOf payload) (s := heard .l2 s)
  have hreforms (seg : Segment) (rest : List Segment) :=
    acceptDemand_reforms (d := demandOf payload) (s := heard .l2 s) (seg := seg) (rest := rest)
  have hplanner := acceptDemand_keepsPlanner (d := demandOf payload) (s := heard .l2 s)
  have hinactive := acceptDemand_keepsInactive (d := demandOf payload) (s := heard .l2 s)
  have hswaps (st : StagedRow) := acceptDemand_swaps (d := demandOf payload) (s := heard .l2 s) (st := st)
  have hstore := acceptDemand_store (d := demandOf payload) (s := heard .l2 s)
  have hstores := acceptDemand_keepsStore (d := demandOf payload) (s := heard .l2 s)
  generalize acceptDemand (demandOf payload) (heard .l2 s) = u at *
  exact ⟨_, hexec, hmode, hkept, hchanged, hengine, habandons, hreforms, hplanner, hinactive,
    hswaps, hstore, hstores⟩

end Sys2Proof.Proofs
end

section
/-! SUPPORT. Events on the line of a port (O18, O19, O20), unknown codes and replies sent (O21): each writes the port alone, with
the counter of its cause stepped. -/

namespace Sys2Proof.Proofs

open Sys2Proof.Machine Sys2Proof.Safety Sys2Proof.Claims

/-- With RESET_N high the outcome of a command is its effect. -/
theorem next_released {f : State → State} {s t : State} (hlow : s.resetLow = false) (h : f s = t) :
    (.next (whileReleased f s) : Host.Outcome State Fault Refusal) = .next t :=
  congrArg Host.Outcome.next ((whileReleased_high hlow).trans h)

/-! ### Writes of a port -/

theorem setReceive_eq (p : PortId) (r : Receive) (s : State) :
    setReceive p r s = s.withPort p ⟨r, (s.port p).counters⟩ := rfl

theorem countOn_eq (p : PortId) (f : Counters → Counters) (s : State) :
    countOn p f s = s.withPort p ⟨(s.port p).receive, f (s.port p).counters⟩ := rfl

/-- A port that counts and then goes into no other state than it was in. -/
theorem countOn_of_receive {p : PortId} {r : Receive} {f : Counters → Counters} {s : State} (h : (s.port p).receive = r) :
    countOn p f s = s.withPort p ⟨r, f (s.port p).counters⟩ := by
  rw [countOn_eq, h]

/-! ### MARKER CHARACTERS (R153, R154, R155, R158) -/

theorem stationAddress_eq (p : PortId) (s : State) : stationAddress p s = ownAddress p s.store.image := by
  cases p <;> rfl

theorem takeMarker_eq (p : PortId) (a : Byte) (s : State) :
    takeMarker p a s = s.withPort p (startsFrame p (ownAddress p s.store.image) a (s.port p).counters) := by
  unfold takeMarker startsFrame
  rw [stationAddress_eq]
  split_ifs
  · rfl
  · rfl
  · exact setReceive_countOn p _ _ s

/-- A marker taken after a count: one write of the port. -/
theorem takeMarker_countOn (p : PortId) (a : Byte) (f : Counters → Counters) (s : State) :
    takeMarker p a (countOn p f s) =
      s.withPort p (startsFrame p (ownAddress p s.store.image) a (f (s.port p).counters)) := by
  rw [takeMarker_eq, countOn_eq, State.withPort_withPort, State.withPort_store, State.withPort_same]

theorem awaitsRestart_false {p : PortId} {s : State} (h : p = .l3 → s.restartDue = false) : awaitsRestart p s = false := by
  cases p
  · rfl
  · rfl
  · exact h rfl

/-- Settles O18, by the receive state that the marker finds. -/
theorem markerStartsAFrame : Obligations.MarkerStartsAFrame := by
  intro s p a hlow hfree
  refine next_released hlow ?_
  simp only [onMarker, awaitsRestart_false hfree, Bool.false_eq_true, if_false]
  cases (s.port p).receive with
  | idle => exact takeMarker_eq p a s
  | ignoring => exact takeMarker_eq p a s
  | addressed _ => exact takeMarker_countOn p a countFraming s
  | replyPending _ _ _ => exact takeMarker_countOn p a countSuperseded s
  | replying _ => exact (s.withPort_port p).symm

/-! ### Frames abandoned (R154, R155, R156) -/

/-- A framing error in any receive state but the two that the table of R154 names apart is counted. -/
theorem onFramingError_eq (p : PortId) (s : State) : onFramingError p s = s.withPort p
    (match (s.port p).receive with
      | .addressed _ => ⟨.ignoring, countFraming (s.port p).counters⟩
      | .replying _ => s.port p
      | r => ⟨r, countFraming (s.port p).counters⟩) := by
  unfold onFramingError
  cases h : (s.port p).receive with
  | addressed _ => exact setReceive_countOn p _ _ s
  | replying _ => exact (s.withPort_port p).symm
  | idle => exact countOn_of_receive h
  | ignoring => exact countOn_of_receive h
  | replyPending _ _ _ => exact countOn_of_receive h

theorem onGap_eq (p : PortId) (s : State) : onGap p s = s.withPort p
    (match (s.port p).receive with
      | .addressed _ => ⟨.idle, countGap (s.port p).counters⟩
      | .ignoring => ⟨.idle, (s.port p).counters⟩
      | _ => s.port p) := by
  unfold onGap
  cases (s.port p).receive with
  | addressed _ => exact setReceive_countOn p _ _ s
  | ignoring => rfl
  | idle => exact (s.withPort_port p).symm
  | replying _ => exact (s.withPort_port p).symm
  | replyPending _ _ _ => exact (s.withPort_port p).symm

theorem onLength_tooLong {p : PortId} {a n : Byte} {s : State} (ha : (s.port p).receive = .addressed a) (hn : 48 < n.toNat) :
    onLength p n s = s.withPort p ⟨.ignoring, countLength (s.port p).counters⟩ := by
  simp [onLength, ha, maxPayload, hn, abandonOnLength, setReceive_countOn]

theorem onCheckFailure_fails {p : PortId} {a code check : Byte} {payload : List Byte} {s : State}
    (ha : (s.port p).receive = .addressed a) (hlength : payload.length ≤ 48) (hsum : frameSum a code payload check ≠ 0) :
    onCheckFailure p code payload check s = s.withPort p ⟨.idle, countCheck (s.port p).counters⟩ := by
  simp only [onCheckFailure, ha]
  exact (if_neg (Nat.not_lt.mpr hlength)).trans ((if_neg hsum).trans (setReceive_countOn p _ _ s))

/-- Settles O19: each error by what it does to the port. -/
theorem frameErrorsAreCountedOnce : Obligations.FrameErrorsAreCountedOnce := by
  intro s p hlow
  exact ⟨next_released hlow (onFramingError_eq p s), next_released hlow (onGap_eq p s),
    fun a n ha hn => next_released hlow (onLength_tooLong ha hn),
    fun a code check payload ha hlength hsum => next_released hlow (onCheckFailure_fails ha hlength hsum)⟩

/-! ### Breaks (R159, R160) -/

theorem onShortBreak_eq (p : PortId) (s : State) : onShortBreak p s = s.withPort p
    (match (s.port p).receive with
      | .replying _ => s.port p
      | .replyPending a c b => ⟨.replyPending a c b, countFraming (s.port p).counters⟩
      | _ => ⟨.idle, countFraming (s.port p).counters⟩) := by
  unfold onShortBreak
  cases h : (s.port p).receive with
  | replying _ => exact (s.withPort_port p).symm
  | replyPending _ _ _ => exact countOn_of_receive h
  | idle => exact setReceive_countOn p _ _ s
  | ignoring => exact setReceive_countOn p _ _ s
  | addressed _ => exact setReceive_countOn p _ _ s

theorem onLongBreak_replying {p : PortId} {r : Reply} {s : State} (h : (s.port p).receive = .replying r) :
    onLongBreak p s = s := by simp [onLongBreak, h]

theorem onLongBreak_resyncs {p : PortId} {s : State} (h : ∀ r, (s.port p).receive ≠ .replying r) : onLongBreak p s =
    match (generalizing := false) p with
      | .l1 => { s with portL1 := resetPort, heldMeasure := none }
      | .l2 => { s with portL2 := resetPort }
      | .l3 => { s with portL3 := resetPort, store := { s.store with accessLevel := 0 } } := by
  unfold onLongBreak
  split
  next r hr => exact absurd hr (h r)
  next => cases p <;> rfl

/-- Settles O20: a break by the receive state that it finds, and on a long one by the port. -/
theorem breaksResynchroniseThePort : Obligations.BreaksResynchroniseThePort := by
  intro s p hlow
  exact ⟨next_released hlow (onShortBreak_eq p s), fun ⟨_, hr⟩ => next_released hlow (onLongBreak_replying hr),
    fun hsilent => next_released hlow (onLongBreak_resyncs hsilent)⟩

/-! ### Requests answered from the state as it stands (R156, R157) -/

/-- A frame that a port takes and whose owner answers `b` without a change of its own leaves the port owing `b`. -/
theorem request_owes {s : State} {p : PortId} {a code : Byte} {payload : List Byte}
    {handle : State → State × Option ReplyBody} {b : Option ReplyBody} (h : listens s p a) (hlength : payload.length ≤ 48)
    (hhandle : handle (heard p s) = (heard p s, b)) :
    whileReleased (serveRequest p code payload handle) s = owes s p a code b := by
  obtain ⟨hlow, haddressed⟩ := h
  rw [serveRequest_addressed hlow haddressed hlength, takeSound_eq hhandle]
  cases p <;> rfl

/-- A code that the port does not list is answered UNKNOWN (R156). -/
theorem exec_unknownRequest {s : State} {p : PortId} {a code : Byte} {payload : List Byte} (h : listens s p a)
    (hcode : code ∉ listedCodes p) (hlength : payload.length ≤ 48) :
    exec (.unknownRequest p code payload) s = .next (replied s p a code .unknown []) := by
  have hunlisted : isListed p code = false := by simpa [isListed] using hcode
  obtain ⟨hlow, -⟩ := id h
  refine next_released hlow ?_
  simp only [hunlisted, Bool.false_eq_true, if_false]
  exact (whileReleased_high hlow).symm.trans (request_owes (handle := answerUnknown) h hlength rfl)

/-! ### Replies sent (R154, R157, R188) -/

theorem beginReply_formed {p : PortId} {a code : Byte} {b : ReplyBody} {s : State}
    (h : (s.port p).receive = .replyPending a code (some b)) :
    beginReply p s = s.withPort p ⟨.replying ⟨a, code, b⟩, (s.port p).counters⟩ := by
  simp [beginReply, h, setReceive_eq]

theorem completeReply_ordinary {p : PortId} {r : Reply} {s : State} (h : (s.port p).receive = .replying r)
    (hother : ¬(p = .l3 ∧ r.code = 0x3A ∧ r.body.result = .ok)) :
    completeReply p s = s.withPort p ⟨.idle, (s.port p).counters⟩ := by
  simp only [completeReply, h]
  exact if_neg hother

/-- After the last character of an accepted RESTART's reply the warm restart is due (R188). -/
theorem completeReply_restart {r : Reply} {s : State} (h : s.portL3.receive = .replying r) (hcode : r.code = 0x3A)
    (hresult : r.body.result = .ok) :
    completeReply .l3 s = { s with portL3 := ⟨.idle, s.portL3.counters⟩, restartDue := true } := by
  have hport : (s.port .l3).receive = .replying r := h
  unfold completeReply
  rw [hport]
  exact if_pos ⟨rfl, hcode, hresult⟩

/-- While the warm restart is due L3 loses a MARKER CHARACTER (R184, log 12). -/
theorem onMarker_awaitsRestart {s : State} (a : Byte) (h : s.restartDue = true) : onMarker .l3 a s = s := by
  simp [onMarker, awaitsRestart, h]

/-- Settles O21, clause by clause. -/
theorem unknownCodesAndRepliesSent : Obligations.UnknownCodesAndRepliesSent := by
  refine ⟨fun s p a code payload h hcode hlength => ?_, fun s p a code b hlow h => ?_, fun s p r hlow h hother => ?_,
    fun s r hlow h hcode hresult => ?_, fun s a hdue => ?_⟩
  · rw [exec_unknownRequest h hcode hlength]
    cases p <;> rfl
  · exact next_released hlow (beginReply_formed h)
  · exact next_released hlow (completeReply_ordinary h hother)
  · exact next_released hlow (completeReply_restart h hcode hresult)
  · refine congrArg Host.Outcome.next ?_
    unfold whileReleased
    rw [onMarker_awaitsRestart a hdue, ite_self]

end Sys2Proof.Proofs
end

section
/-! SUPPORT. Reads (O23), and requests of a length that the catalogue does not give (O22): each is what its owner answers. -/

namespace Sys2Proof.Proofs

open Sys2Proof.Machine Sys2Proof.Safety Sys2Proof.Claims

/-! ### Reads (R116, R147, R162, R163, R175, R185, R186, R187) -/

/-- A read whose owner answers `r` with `bytes` from the state in which its own frame is counted. -/
theorem read_replied {s : State} {p : PortId} {a code : Byte} {payload : List Byte}
    {handle : State → State × Option ReplyBody} {r : Result} {bytes : List Byte} (h : listens s p a)
    (hlength : payload.length ≤ 48) (hhandle : handle (heard p s) = (heard p s, some ⟨r, bytes⟩)) :
    (.next (whileReleased (serveRequest p code payload handle) s) : Host.Outcome State Fault Refusal) =
      .next (replied s p a code r bytes) :=
  congrArg Host.Outcome.next (request_owes h hlength hhandle)

/-- The LINK_STATUS payload of a port that has counted the frame asking for it (R162). -/
theorem linkStatusBytes_heard (p : PortId) (s : State) : linkStatusBytes p (heard p s) =
    counterBytes { (s.port p).counters with goodFrames := stepped (s.port p).counters.goodFrames } ++
      oneByte s.intake.l1.code ++ oneByte s.intake.l2.code ++ oneByte s.mode.code ++ oneByte s.trips.level.code := by
  cases p <;> rfl

theorem handlePlanRead_startup {s : State} (payload : List Byte) (h : s.mode = .startup) :
    handlePlanRead payload s = (s, some (bare .refusedMode)) := if_pos h

theorem handlePlanRead_running {s : State} (h : s.mode ≠ .startup) :
    handlePlanRead [] s = (s, some ⟨.ok, planReadBytes s.planner⟩) := if_neg h

theorem exec_planRead_startup {s : State} {a : Byte} {payload : List Byte} (h : listens s .l2 a)
    (hlength : payload.length ≤ 48) (hstartup : s.mode = .startup) :
    exec (.planRead payload) s = .next (replied s .l2 a 0x24 .refusedMode []) :=
  read_replied h hlength (handlePlanRead_startup payload hstartup)

theorem exec_planRead {s : State} {a : Byte} (h : listens s .l2 a) : exec (.planRead []) s =
    .next (if s.mode = .startup then replied s .l2 a 0x24 .refusedMode []
      else replied s .l2 a 0x24 .ok (planReadBytes s.planner)) := by
  split_ifs with hstartup
  · exact exec_planRead_startup h (Nat.zero_le _) hstartup
  · exact read_replied h (Nat.zero_le _) (handlePlanRead_running (s := heard .l2 s) hstartup)

/-- A read of a number within its range, and of one above it. -/
theorem answerNumber {s : State} {p : PortId} {a code n : Byte} {top : Nat} {body : State → ReplyBody} {bytes : List Byte}
    (h : listens s p a) (hbody : body (heard p s) = if top < n.toNat then bare .range else ⟨.ok, bytes⟩) :
    (.next (whileReleased (serveRequest p code [n] (answerRead 1 [n] body)) s) : Host.Outcome State Fault Refusal) =
      .next (if n.toNat ≤ top then replied s p a code .ok bytes else replied s p a code .range []) := by
  have hanswer : answerRead 1 [n] body (heard p s) = (heard p s, some (body (heard p s))) := rfl
  rw [hbody] at hanswer
  split_ifs with hn
  · rw [if_neg (Nat.not_lt.mpr hn)] at hanswer
    exact read_replied h (Nat.le_add_left 1 47) hanswer
  · rw [if_pos (Nat.not_le.mp hn)] at hanswer
    exact read_replied h (Nat.le_add_left 1 47) hanswer

theorem exec_faultRead {s : State} {p : PortId} {a n : Byte} (hp : p ≠ .l1) (h : listens s p a) :
    exec (.faultRead p [n]) s = .next (if n.toNat ≤ 15 then replied s p a 0x26 .ok (faultReadBytes n.toNat s.trips)
      else replied s p a 0x26 .range []) := by
  cases p with
  | l1 => exact absurd rfl hp
  | l2 => exact answerNumber (body := faultReadReply [n]) h rfl
  | l3 => exact answerNumber (body := faultReadReply [n]) h rfl

theorem exec_modelRead {s : State} {a : Byte} (n : Byte) (h : listens s .l3 a) : exec (.modelRead [n]) s =
    .next (if n = 0 then replied s .l3 a 0x38 .ok (modelPage0 s)
      else if n = 1 then replied s .l3 a 0x38 .ok (modelPage1 s)
      else replied s .l3 a 0x38 .range []) := by
  have hone : [n].length ≤ 48 := Nat.le_add_left 1 47
  have hanswer : answerRead 1 [n] (modelReadReply [n]) (heard .l3 s) =
      (heard .l3 s, some (if n = 0 then ⟨.ok, modelPage0 s⟩ else if n = 1 then ⟨.ok, modelPage1 s⟩ else bare .range)) :=
    rfl
  split_ifs at hanswer ⊢
  · exact read_replied h hone hanswer
  · exact read_replied h hone hanswer
  · exact read_replied h hone hanswer

/-- Settles O23, read by read. -/
theorem readsChangeNothing : Obligations.ReadsChangeNothing := by
  intro s a
  refine ⟨fun h => ?_, fun p h => ?_, exec_planRead, fun payload => exec_planRead_startup, fun p n => exec_faultRead,
    fun h => ⟨fun n => ?_, ?_, ?_, fun n => exec_modelRead n h, ?_⟩⟩
  · exact read_replied h (Nat.zero_le _) rfl
  · rw [← linkStatusBytes_heard]
    exact read_replied h (Nat.zero_le _) rfl
  · exact answerNumber (body := rowReadReply [n]) h rfl
  · exact read_replied h (Nat.zero_le _) rfl
  · exact read_replied h (Nat.zero_le _) rfl
  · exact read_replied h (Nat.zero_le _) rfl

/-! ### The owner of a code (R156) -/

/-- The block that a listed code is handed to, by port and code. -/
def ownerOf (p : PortId) (code : Byte) (payload : List Byte) : State → State × Option ReplyBody :=
  if code = 0x10 then handleMeasure payload
  else if code = 0x11 then answerRead 0 payload grantReply
  else if code = 0x1F then answerRead 0 payload fun t => ⟨.ok, linkStatusBytes p t⟩
  else if code = 0x20 then handleDemand payload
  else if code = 0x21 then handleAppend payload
  else if code = 0x22 then handleStart payload
  else if code = 0x23 then handleClear payload
  else if code = 0x24 then handlePlanRead payload
  else if code = 0x25 then handleTripClear payload
  else if code = 0x26 then answerRead 1 payload (faultReadReply payload)
  else if code = 0x30 then handleAccess payload
  else if code = 0x31 then handleLogout payload
  else if code = 0x32 then answerRead 1 payload (rowReadReply payload)
  else if code = 0x33 then handleStage payload
  else if code = 0x34 then handleCommit payload
  else if code = 0x35 then answerRead 0 payload fun t => ⟨.ok, storeStatusBytes t.store⟩
  else if code = 0x36 then handleFaultAck payload
  else if code = 0x37 then answerRead 0 payload fun t => ⟨.ok, countersReadBytes t⟩
  else if code = 0x38 then answerRead 1 payload (modelReadReply payload)
  else if code = 0x39 then answerRead 0 payload fun t => ⟨.ok, identBytes t.store.image⟩
  else handleRestart payload

/-- The request that a listed code spells is served by its owner. -/
theorem exec_requestOf {p : PortId} {code : Byte} (payload : List Byte) (s : State) (h : code ∈ listedCodes p) :
    exec (requestOf p code payload) s =
      .next (whileReleased (serveRequest p code payload (ownerOf p code payload)) s) := by
  cases p <;> simp only [listedCodes, List.mem_cons, List.not_mem_nil, or_false] at h
  case l1 => rcases h with rfl | rfl | rfl <;> rfl
  case l2 => rcases h with rfl | rfl | rfl | rfl | rfl | rfl | rfl | rfl <;> rfl
  case l3 => rcases h with rfl | rfl | rfl | rfl | rfl | rfl | rfl | rfl | rfl | rfl | rfl | rfl | rfl <;> rfl

/-! ### Wrong lengths (R22, R26, R111, R112, R144, R147, R148, R170, R173, R175, R176, R178, R185 to R188) -/

theorem answerRead_wrongLength {n : Nat} {payload : List Byte} (body : State → ReplyBody) (s : State)
    (h : payload.length ≠ n) : answerRead n payload body s = (s, some (bare .length)) := by simp [answerRead, h]

theorem handleAppend_wrongLength {payload : List Byte} {s : State} (hmode : s.mode ≠ .startup)
    (h : ¬(payload.length % 7 = 0 ∧ 7 ≤ payload.length ∧ payload.length ≤ 42)) :
    handleAppend payload s = (s, planReply .length s) := by
  have hjudge : judgeAppend payload s.planner = (.length, []) := if_pos (by omega)
  simp [handleAppend, hmode, hjudge]

theorem handleStart_wrongLength {payload : List Byte} {s : State} (hmode : s.mode ≠ .startup) (h : payload.length ≠ 0) :
    handleStart payload s = (s, planReply .length s) := (if_neg hmode).trans (if_pos h)

theorem handleClear_wrongLength {payload : List Byte} {s : State} (hmode : s.mode ≠ .startup) (h : payload.length ≠ 0) :
    handleClear payload s = (s, planReply .length s) := (if_neg hmode).trans (if_pos h)

theorem handlePlanRead_wrongLength {payload : List Byte} {s : State} (hmode : s.mode ≠ .startup) (h : payload.length ≠ 0) :
    handlePlanRead payload s = (s, some (bare .length)) := (if_neg hmode).trans (if_pos h)

theorem handleStage_wrongLength {payload : List Byte} (s : State)
    (h : ¬(payload.length % 2 = 0 ∧ 4 ≤ payload.length ∧ payload.length ≤ 18)) :
    handleStage payload s = (s, some (bare .length)) := by
  have hfits : stageLengthFits payload.length = false := by simpa [stageLengthFits, and_assoc] using h
  simp [handleStage, stageResult, hfits]

theorem handleRestart_wrongLength {payload : List Byte} (s : State) (h : payload.length ≠ 0) :
    handleRestart payload s = (s, some (bare .length)) := congrArg (fun r => (s, some (bare r))) (if_pos h)

/-- What the reply to a request of a wrong length carries all the same (R111, R157). -/
def carriedOnLength (code : Byte) (s : State) : List Byte :=
  if code = 0x21 ∨ code = 0x22 ∨ code = 0x23 then planSummary s.planner
  else if code = 0x25 then tripMapBytes s
  else []

theorem carriedOnLength_heard (p : PortId) (code : Byte) (s : State) :
    carriedOnLength code (heard p s) = carriedOnLength code s := by cases p <;> rfl

/-- The owner of `code` on port `p` refuses LENGTH, with nothing changed, a payload of a length that the catalogue does not
give. -/
def RefusesLength (p : PortId) (code : Byte) : Prop :=
  ∀ (payload : List Byte) (s : State), ¬cataloguedLength code payload.length →
    (code ∈ [0x21, 0x22, 0x23, 0x24] → s.mode ≠ .startup) →
    ownerOf p code payload s = (s, some ⟨.length, carriedOnLength code s⟩)

theorem ne_zero_of_uncatalogued {code : Byte} {n : Nat} (h : ¬cataloguedLength code n)
    (hcode : code ∈ [0x11, 0x1F, 0x22, 0x23, 0x24, 0x25, 0x31, 0x35, 0x36, 0x37, 0x39, 0x3A]) : n ≠ 0 :=
  fun hn => h (.inr (.inr (.inr (.inr (.inr (.inr ⟨hcode, hn⟩))))))

theorem ne_one_of_uncatalogued {code : Byte} {n : Nat} (h : ¬cataloguedLength code n)
    (hcode : code ∈ [0x26, 0x32, 0x34, 0x38]) : n ≠ 1 :=
  fun hn => h (.inr (.inr (.inr (.inr (.inr (.inl ⟨hcode, hn⟩))))))

theorem linkStatus_refusesLength (p : PortId) : RefusesLength p 0x1F := fun _ s h _ =>
  answerRead_wrongLength (fun t => ⟨.ok, linkStatusBytes p t⟩) s (ne_zero_of_uncatalogued h (by decide))

theorem faultRead_refusesLength (p : PortId) : RefusesLength p 0x26 := fun _ s h _ =>
  answerRead_wrongLength _ s (ne_one_of_uncatalogued h (by decide))

theorem listedL1_refusesLength {code : Byte} (h : code ∈ listedCodes .l1) : RefusesLength .l1 code := by
  simp only [listedCodes, List.mem_cons, List.not_mem_nil, or_false] at h
  rcases h with rfl | rfl | rfl
  · exact fun _ s h _ => if_neg fun hn => h (.inl ⟨rfl, hn⟩)
  · exact fun _ s h _ => answerRead_wrongLength grantReply s (ne_zero_of_uncatalogued h (by decide))
  · exact linkStatus_refusesLength .l1

theorem listedL2_refusesLength {code : Byte} (h : code ∈ listedCodes .l2) : RefusesLength .l2 code := by
  simp only [listedCodes, List.mem_cons, List.not_mem_nil, or_false] at h
  rcases h with rfl | rfl | rfl | rfl | rfl | rfl | rfl | rfl
  · exact linkStatus_refusesLength .l2
  · exact fun _ s h _ => if_neg fun hn => h (.inr (.inl ⟨rfl, hn⟩))
  · exact fun _ s h hmode => handleAppend_wrongLength (hmode (by decide)) fun hn => h (.inr (.inr (.inl ⟨rfl, hn⟩)))
  · exact fun _ s h hmode => handleStart_wrongLength (hmode (by decide)) (ne_zero_of_uncatalogued h (by decide))
  · exact fun _ s h hmode => handleClear_wrongLength (hmode (by decide)) (ne_zero_of_uncatalogued h (by decide))
  · exact fun _ s h hmode => handlePlanRead_wrongLength (hmode (by decide)) (ne_zero_of_uncatalogued h (by decide))
  · exact fun _ s h _ => if_pos (ne_zero_of_uncatalogued h (by decide))
  · exact faultRead_refusesLength .l2

theorem listedL3_refusesLength {code : Byte} (h : code ∈ listedCodes .l3) : RefusesLength .l3 code := by
  simp only [listedCodes, List.mem_cons, List.not_mem_nil, or_false] at h
  rcases h with rfl | rfl | rfl | rfl | rfl | rfl | rfl | rfl | rfl | rfl | rfl | rfl | rfl
  · exact linkStatus_refusesLength .l3
  · exact faultRead_refusesLength .l3
  · exact fun _ s h _ => if_pos fun hn => h (.inr (.inr (.inr (.inl ⟨rfl, hn⟩))))
  · exact fun _ s h _ => if_pos (ne_zero_of_uncatalogued h (by decide))
  · exact fun _ s h _ => answerRead_wrongLength _ s (ne_one_of_uncatalogued h (by decide))
  · exact fun _ s h _ => handleStage_wrongLength s fun hn => h (.inr (.inr (.inr (.inr (.inl ⟨rfl, hn⟩)))))
  · exact fun _ s h _ => if_pos (ne_one_of_uncatalogued h (by decide))
  · exact fun _ s h _ => answerRead_wrongLength (fun t => ⟨.ok, storeStatusBytes t.store⟩) s
      (ne_zero_of_uncatalogued h (by decide))
  · exact fun _ s h _ => if_pos (ne_zero_of_uncatalogued h (by decide))
  · exact fun _ s h _ => answerRead_wrongLength (fun t => ⟨.ok, countersReadBytes t⟩) s
      (ne_zero_of_uncatalogued h (by decide))
  · exact fun _ s h _ => answerRead_wrongLength _ s (ne_one_of_uncatalogued h (by decide))
  · exact fun _ s h _ => answerRead_wrongLength (fun t => ⟨.ok, identBytes t.store.image⟩) s
      (ne_zero_of_uncatalogued h (by decide))
  · exact fun _ s h _ => handleRestart_wrongLength s (ne_zero_of_uncatalogued h (by decide))

theorem listed_refusesLength {p : PortId} {code : Byte} (h : code ∈ listedCodes p) : RefusesLength p code :=
  match p with
  | .l1 => listedL1_refusesLength h
  | .l2 => listedL2_refusesLength h
  | .l3 => listedL3_refusesLength h

/-- Settles O22: a frame that is taken is refused by its owner; the other two cases are those of every request. -/
theorem wrongLengthsAreRefused : Obligations.WrongLengthsAreRefused := by
  intro s p code payload hlow hcode
  rw [exec_requestOf payload s hcode]
  refine ⟨fun a ha hfits hwrong hmode => ?_, fun a ha hlong => ?_, fun hother => ?_⟩
  · have hheard : (heard p s).mode = s.mode := by cases p <;> rfl
    have hrefused := listed_refusesLength hcode payload (heard p s) hwrong (by rwa [hheard])
    rw [carriedOnLength_heard] at hrefused
    exact read_replied ⟨hlow, ha⟩ hfits hrefused
  · exact congrArg Host.Outcome.next (serveRequest_tooLong hlow ha hlong)
  · exact congrArg Host.Outcome.next (serveRequest_notAddressed hother)

end Sys2Proof.Proofs
end

section
/-! SUPPORT. The lengths of the reply payloads (O24), and bytes read back where they stand (R152, R164): words, figures, flags,
maps. -/

namespace Sys2Proof.Proofs

open Sys2Proof.Machine Sys2Proof.Safety Sys2Proof.Claims

/-! ### Lengths (R162, Tables 8-2 and 8-4 to 8-8) -/

@[simp] theorem speedBytes_length (x : Option Nat) : (speedBytes x).length = 2 := rfl

@[simp] theorem figureBytes_length (x : Option Int) : (figureBytes x).length = 2 := rfl

@[simp] theorem bandByte_length (x : Option Nat) : (bandByte x).length = 1 := rfl

@[simp] theorem map24Bytes_length (n : Nat) : (map24Bytes n).length = 3 := rfl

@[simp] theorem counterBytes_length (c : Counters) : (counterBytes c).length = 14 := rfl

@[simp] theorem faultBytes_length (r : FaultRecord) : (faultBytes r).length = 17 := rfl

@[simp] theorem motorBytes_length (m : Motor) : (motorBytes m).length = 8 := rfl

@[simp] theorem planSummary_length (p : Planner) : (planSummary p).length = 5 := rfl

@[simp] theorem headBytes_length (queue : List Segment) : (headBytes queue).length = 7 := by cases queue <;> rfl

theorem planReadBytes_length (p : Planner) : (planReadBytes p).length = 20 := by simp [planReadBytes]

/-- FAULT_READ carries two records at most (R147). -/
theorem faultReadBytes_length (start : Nat) (t : Trips) :
    (faultReadBytes start t).length = 2 + 17 * min 2 (t.faults.length - start) := by
  have hrecords (l : List FaultRecord) : (l.flatMap faultBytes).length = 17 * l.length := by
    simp [List.length_flatMap, Nat.mul_comm]
  simp only [faultReadBytes, List.length_append, oneByte_length, hrecords, List.length_take, List.length_drop]

@[simp] theorem shownEntries_length (r : Nat) (row : Row) : (shownEntries r row).length = 8 := by
  unfold shownEntries
  split <;> simp

theorem replyFrame_length (r : Reply) : (replyFrame r).length = r.body.payload.length + 5 := by
  simp only [replyFrame, List.length_append, List.length_cons, List.length_nil, oneByte_length]
  omega

theorem rowReadBytes_length (r : Nat) (t : Store) : (rowReadBytes r t).length = 18 := by
  simp [rowReadBytes]

@[simp] theorem measurementBytes_length (m : MeasurementRecord) : (measurementBytes m).length = 23 := by
  simp [measurementBytes]

theorem modelPage1_length (s : State) : (modelPage1 s).length = 25 := by
  unfold modelPage1
  split
  · rfl
  · simp

theorem decimalBytes_length_le (n : Nat) : (decimalBytes n).length ≤ 2 := by
  unfold decimalBytes
  split <;> simp

theorem identBytes_length_le (im : Image) : (identBytes im).length ≤ 48 := by
  have hcount := decimalBytes_length_le (limpCount im)
  simp [identBytes, textBytes]
  omega

theorem grantBytes_length (g : GrantRecord) (level : TripLevel) (mode : Mode) : (grantBytes g level mode).length = 18 := by
  simp [grantBytes]

theorem linkStatusBytes_length (p : PortId) (s : State) : (linkStatusBytes p s).length = 18 := by
  simp [linkStatusBytes]

theorem statusBytes_length (s : State) : (statusBytes s).length = 23 := by simp [statusBytes]

theorem storeStatusBytes_length (t : Store) : (storeStatusBytes t).length = 12 := by
  simp [storeStatusBytes]

theorem countersReadBytes_length (s : State) : (countersReadBytes s).length = 42 := by simp [countersReadBytes]

theorem modelPage0_length (s : State) : (modelPage0 s).length = 46 := by simp [modelPage0]

/-- Settles O24, layout by layout. -/
theorem repliesHaveTheirLengths : Obligations.RepliesHaveTheirLengths := fun s =>
  ⟨grantBytes_length s.engine.grant, fun p => linkStatusBytes_length p s, statusBytes_length s, planSummary_length s.planner,
    planReadBytes_length s.planner, rfl, faultBytes_length, fun n => faultReadBytes_length n s.trips,
    fun r => rowReadBytes_length r s.store, storeStatusBytes_length s.store, countersReadBytes_length s,
    modelPage0_length s, modelPage1_length s, identBytes_length_le s.store.image⟩

/-! ### Bytes where they stand -/

/-- The bytes `xs` stand in `b` from offset `i` on. -/
abbrev StandsAt (b : List Byte) (i : Nat) (xs : List Byte) : Prop := (b.drop i).take xs.length = xs

theorem StandsAt.read {b xs : List Byte} {i j : Nat} (h : StandsAt b i xs) (hj : j < xs.length) :
    byteAt b (i + j) = byteAt xs j := by
  conv_rhs => rw [← h]
  simp [byteAt, hj]

/-- What stands within a part of the bytes stands in the whole. -/
theorem StandsAt.trans {b xs ys : List Byte} {i j : Nat} (hxs : StandsAt b i xs) (hys : StandsAt xs j ys) :
    StandsAt b (i + j) ys := by
  have hroom : min ys.length (xs.length - j) = ys.length := by
    have hlength := congrArg List.length hys
    rwa [List.length_take, List.length_drop] at hlength
  calc (b.drop (i + j)).take ys.length
      = (((b.drop i).take xs.length).drop j).take ys.length := by
        rw [List.drop_take, List.drop_drop, List.take_take, hroom]
    _ = (xs.drop j).take ys.length := by rw [hxs]
    _ = ys := hys

/-- A field of a layout stands at the sum of the lengths of the fields before it. -/
theorem StandsAt.field {b xs : List Byte} {fields : List (List Byte)} {i : Nat} (hb : b = fields.flatten) (k : Nat)
    (hk : fields[k]? = some xs) (hi : ((fields.take k).map List.length).sum = i := by simp) :
    StandsAt b i xs := by
  obtain ⟨hlt, hxs⟩ := List.getElem?_eq_some_iff.mp hk
  have hsplit : b = (fields.take k).flatten ++ (xs ++ (fields.drop (k + 1)).flatten) := by
    rw [hb, ← List.flatten_cons, ← hxs, ← List.drop_eq_getElem_cons hlt, ← List.flatten_append, List.take_append_drop]
  have hlength : (fields.take k).flatten.length = i := by rw [List.length_flatten, hi]
  rw [StandsAt, hsplit, ← hlength, List.drop_left, List.take_left]

/-- A block of a sequence of blocks of `n` bytes each. -/
theorem StandsAt.block {α : Type} {f : α → List Byte} {n : Nat} (hf : ∀ x, (f x).length = n) {l : List α} {i : Nat} {x : α}
    (h : l[i]? = some x) : StandsAt (l.flatMap f) (n * i) (f x) := by
  have hlt := (List.getElem?_eq_some_iff.mp h).1
  refine .field List.flatMap_def i (by simp [h]) ?_
  simp [← List.map_take, Function.comp_def, hf, Nat.min_eq_left hlt.le, Nat.mul_comm]

theorem StandsAt.word {b : List Byte} {i : Nat} {w : Word} (h : StandsAt b i (wordBytes w)) : wordAt b i = w := by
  have hhigh : byteAt b i = w.extractLsb' 8 8 := h.read (j := 0) Nat.two_pos
  have hlow : byteAt b (i + 1) = w.extractLsb' 0 8 := h.read (j := 1) Nat.one_lt_two
  rw [wordAt, hhigh, hlow, word_halves]

theorem StandsAt.unsigned {b : List Byte} {i n : Nat} (h : StandsAt b i (unsignedBytes n)) (hn : n ≤ 65535) :
    unsignedAt b i = n := by
  rw [unsignedAt, StandsAt.word h, toNat_ofNat_16 hn]

theorem StandsAt.signed {b : List Byte} {i : Nat} {x : Int} (h : StandsAt b i (signedBytes x)) (hx : carries x) :
    signedAt b i = x := by
  obtain ⟨hlow, hhigh⟩ := hx
  rw [signedAt, StandsAt.word h, toInt_ofInt_16 hlow hhigh]

/-- A figure of 16 bits that is sent as a signed one reads back unsigned. -/
theorem StandsAt.signedAsUnsigned {b : List Byte} {i : Nat} {x : Int} (h : StandsAt b i (signedBytes x)) (hlow : 0 ≤ x)
    (hhigh : x ≤ 65535) : (unsignedAt b i : Int) = x := by
  rw [unsignedAt, StandsAt.word h, BitVec.toNat_ofInt]
  omega

theorem StandsAt.long {b : List Byte} {i : Nat} {w : BitVec 32} (h : StandsAt b i (longBytes w)) : longAt b i = w := by
  have hhigh : StandsAt b i (wordBytes (w.extractLsb' 16 16)) :=
    h.trans (j := 0) rfl
  have hlow : StandsAt b (i + 2) (wordBytes (w.extractLsb' 0 16)) := h.trans (j := 2) rfl
  rw [longAt, hhigh.word, hlow.word, long_halves]

theorem StandsAt.one {b : List Byte} {i n : Nat} (h : StandsAt b i (oneByte n)) : byteAt b i = BitVec.ofNat 8 n :=
  h.read (j := 0) Nat.one_pos

theorem StandsAt.figure {b : List Byte} {i n : Nat} (h : StandsAt b i (oneByte n)) (hn : n ≤ 255) :
    (byteAt b i).toNat = n := by
  rw [h.one, BitVec.toNat_ofNat]
  omega

/-! ### Bits of a byte (R164) -/

theorem bitsByte_lt (bits : List Bool) : bitsByte bits < 2 ^ bits.length := by
  induction bits with
  | nil => decide
  | cons b rest ih =>
    have hb := b.toNat_le
    rw [bitsByte, List.length_cons, Nat.pow_succ]
    omega

/-- The bits of a figure formed from bits are those bits. -/
theorem testBit_bitsByte (bits : List Bool) (i : Nat) : (bitsByte bits).testBit i = bits.getD i false := by
  induction bits generalizing i with
  | nil => simp [bitsByte]
  | cons b rest ih =>
    cases i with
    | zero => cases b <;> simp [bitsByte, Nat.testBit_zero]
    | succ i =>
      have hhalf : (b.toNat + 2 * bitsByte rest) / 2 = bitsByte rest := by
        have hb := b.toNat_le
        omega
      rw [bitsByte, Nat.testBit_succ, hhalf, ih, List.getD_cons_succ]

theorem getLsbD_ofNat_bitsByte {w : Nat} {bits : List Bool} (hbits : bits.length ≤ w) (i : Nat) :
    (BitVec.ofNat w (bitsByte bits)).getLsbD i = bits.getD i false := by
  rw [BitVec.getLsbD_ofNat, testBit_bitsByte]
  by_cases hi : i < w
  · simp [hi]
  · simp [hi, show bits.length ≤ i by omega]

/-- A byte of flags read back: the flags in their order, the bits not named clear. -/
theorem StandsAt.flags {b : List Byte} {i : Nat} {bits : List Bool} (h : StandsAt b i (oneByte (bitsByte bits)))
    (hbits : bits.length ≤ 8 := by simp) :
    (List.range 8).map (fun j => (byteAt b i).getLsbD j) = bits ++ List.replicate (8 - bits.length) false := by
  refine List.ext_getElem (by simp; omega) fun j hj hj' => ?_
  rw [List.getElem_map, List.getElem_range, h.one, getLsbD_ofNat_bitsByte hbits, List.getElem_append]
  split
  next hnamed => exact List.getD_eq_getElem _ _ hnamed
  next hunnamed => simp [Nat.not_lt.mp hunnamed]

/-- A map of 24 bits in three bytes read back, bit by bit. -/
theorem StandsAt.map24 {b : List Byte} {i n r : Nat} (h : StandsAt b i (map24Bytes n)) (hr : r < 24) :
    (byteAt b (i + 2 - r / 8)).getLsbD (r % 8) = n.testBit r := by
  have htop : byteAt b i = BitVec.ofNat 8 (n / 2 ^ 16) := h.read (j := 0) (Nat.zero_lt_succ 2)
  have hmid : byteAt b (i + 1) = (BitVec.ofNat 16 (n % 2 ^ 16)).extractLsb' 8 8 := h.read (j := 1) (Nat.one_lt_succ_succ 1)
  have hlow : byteAt b (i + 2) = (BitVec.ofNat 16 (n % 2 ^ 16)).extractLsb' 0 8 := h.read (j := 2) (Nat.lt_succ_self 2)
  have hword (k : Nat) (hk : k < 16) : (BitVec.ofNat 16 (n % 2 ^ 16)).getLsbD k = n.testBit k := by
    rw [BitVec.getLsbD_ofNat, Nat.testBit_mod_two_pow, decide_eq_true hk, Bool.true_and, Bool.true_and]
  have hthird : r / 8 = 0 ∨ r / 8 = 1 ∨ r / 8 = 2 := by omega
  have hbit : r % 8 < 8 := Nat.mod_lt r (Nat.succ_pos 7)
  rcases hthird with hthird | hthird | hthird
  · have hr : 0 + r % 8 = r := by omega
    rw [hthird, Nat.sub_zero, hlow, BitVec.getLsbD_extractLsb', hword _ (by omega), decide_eq_true hbit, Bool.true_and, hr]
  · have hr : 8 + r % 8 = r := by omega
    rw [hthird, show i + 2 - 1 = i + 1 from rfl, hmid, BitVec.getLsbD_extractLsb', hword _ (by omega),
      decide_eq_true hbit, Bool.true_and, hr]
  · have hr : r % 8 + 16 = r := by omega
    rw [hthird, Nat.add_sub_cancel, htop, BitVec.getLsbD_ofNat, Nat.testBit_div_two_pow, decide_eq_true hbit,
      Bool.true_and, hr]

end Sys2Proof.Proofs
end

section
/-! SUPPORT. Every record and payload of a reply read back (O25): each is laid out field by field, and a field is read where it
stands. -/

namespace Sys2Proof.Proofs

open Sys2Proof.Machine Sys2Proof.Safety Sys2Proof.Claims

/-! ### Codes of enumerated fields (R164) -/

theorem Result.code_le (r : Result) : r.code ≤ 9 := by cases r <;> decide

theorem Mode.code_le (m : Mode) : m.code ≤ 3 := by cases m <;> decide

theorem TripLevel.code_le (l : TripLevel) : l.code ≤ 2 := by cases l <;> decide

theorem Regime.code_le (r : Regime) : r.code ≤ 2 := by cases r <;> decide

theorem LimitSource.code_le (x : LimitSource) : x.code ≤ 5 := by cases x <;> decide

theorem Freshness.code_le (f : Freshness) : f.code ≤ 2 := by cases f <;> decide

theorem PlanState.code_le (p : PlanState) : p.code ≤ 2 := by cases p <;> decide

theorem HoldState.code_le (h : HoldState) : h.code ≤ 3 := by cases h <;> decide

theorem BoostState.code_le (b : BoostState) : b.code ≤ 2 := by cases b <;> decide

theorem Programmer.code_le (p : Programmer) : p.code ≤ 2 := by cases p <;> decide

theorem TripCode.number_lt (c : TripCode) : c.number < 12 := by cases c <;> decide

/-! ### The reply frame (R152) -/

/-- A sum of bytes, from any byte on. -/
theorem foldl_add_eq (p : List Byte) (x : Byte) : p.foldl (· + ·) x = x + byteSum p := by
  induction p generalizing x with
  | nil => simp [byteSum]
  | cons b rest ih =>
    have hrest : byteSum (b :: rest) = 0 + b + byteSum rest := ih (0 + b)
    rw [List.foldl_cons, ih, hrest, show 0 + b = b from BitVec.zero_add b, BitVec.add_assoc]

/-- The CHECK BYTE makes the sum of a frame 0 (R152). -/
theorem byteSum_checkByte (p : List Byte) : byteSum (p ++ [checkByte p]) = 0 := by
  have hsum : byteSum (p ++ [checkByte p]) = byteSum p + checkByte p := List.foldl_append
  exact hsum.trans (BitVec.add_right_neg _)

theorem replyFrame_eq (r : Reply) : replyFrame r =
    [[r.address], [r.code], oneByte r.body.result.code, oneByte r.body.payload.length, r.body.payload,
      [checkByte ([r.address, r.code] ++ oneByte r.body.result.code ++ oneByte r.body.payload.length ++
        r.body.payload)]].flatten := by simp [replyFrame]

theorem replyFrame_reads {r : Reply} (hlength : r.body.payload.length ≤ 48) : frameReads r := by
  have hb := replyFrame_eq r
  have haddress : StandsAt (replyFrame r) 0 [r.address] := .field hb 0 rfl
  have hcode : StandsAt (replyFrame r) 1 [r.code] := .field hb 1 rfl
  have hresult : StandsAt (replyFrame r) 2 (oneByte r.body.result.code) := .field hb 2 rfl
  have hcount : StandsAt (replyFrame r) 3 (oneByte r.body.payload.length) := .field hb 3 rfl
  have hpayload : StandsAt (replyFrame r) 4 r.body.payload := .field hb 4 rfl
  have hcode_le := Result.code_le r.body.result
  exact ⟨replyFrame_length r, haddress.read (j := 0) Nat.one_pos, hcode.read (j := 0) Nat.one_pos, hresult.figure (by omega),
    hcount.figure (by omega), hpayload, byteSum_checkByte _⟩

/-! ### The GRANT RECORD (Table 8-2) -/

theorem grantBytes_eq (g : GrantRecord) (level : TripLevel) (mode : Mode) : grantBytes g level mode =
    [wordBytes g.sequence, signedBytes g.torque.left, signedBytes g.torque.right, unsignedBytes g.propelLimit.left,
      unsignedBytes g.propelLimit.right, unsignedBytes g.retardLimit.left, unsignedBytes g.retardLimit.right,
      unsignedBytes g.speedLimit,
      oneByte (bitsByte [g.boost.left, g.boost.right, g.tractionReduced.left, g.tractionReduced.right, g.powerLimited,
        g.speedLimited]),
      oneByte (g.regime.code + 4 * level.code + 16 * mode.code)].flatten := by simp [grantBytes]

theorem grantBytes_reads {g : GrantRecord} (level : TripLevel) (mode : Mode)
    (hranges : ∀ w, -1600 ≤ g.torque.get w ∧ g.torque.get w ≤ 1600 ∧ g.propelLimit.get w ≤ 1600 ∧ g.retardLimit.get w ≤ 1600)
    (hspeed : g.speedLimit ≤ 7000) : grantReads g level mode := by
  have hb := grantBytes_eq g level mode
  obtain ⟨htorqueL, htorqueL', hpropelL, hretardL⟩ := hranges .left
  obtain ⟨htorqueR, htorqueR', hpropelR, hretardR⟩ := hranges .right
  simp only [Both.get] at htorqueL htorqueL' hpropelL hretardL htorqueR htorqueR' hpropelR hretardR
  have hregime := Regime.code_le g.regime
  have hlevel := TripLevel.code_le level
  have hmode := Mode.code_le mode
  have hlast : (byteAt (grantBytes g level mode) 17).toNat = g.regime.code + 4 * level.code + 16 * mode.code :=
    (StandsAt.field hb 9 rfl).figure (by omega)
  refine ⟨(StandsAt.field hb 0 rfl).word, (StandsAt.field hb 1 rfl).signed (by omega),
    (StandsAt.field hb 2 rfl).signed (by omega),
    (StandsAt.field hb 3 rfl).unsigned (by omega), (StandsAt.field hb 4 rfl).unsigned (by omega),
    (StandsAt.field hb 5 rfl).unsigned (by omega), (StandsAt.field hb 6 rfl).unsigned (by omega),
    (StandsAt.field hb 7 rfl).unsigned (by omega), (StandsAt.field hb 8 rfl).flags, ?_, ?_, ?_⟩
  all_goals omega

/-- What holds of an absent value's stand-in and of every present value holds of what is sent. -/
theorem getD_holds {α : Type} {P : α → Prop} {o : Option α} {d : α} (hd : P d) (h : ∀ x, o = some x → P x) :
    P (o.getD d) := by
  cases o with
  | none => exact hd
  | some x => exact h x rfl

/-! ### The counters (R161) -/

theorem counterBytes_eq (c : Counters) : counterBytes c =
    [unsignedBytes c.goodFrames, unsignedBytes c.checkFailures, unsignedBytes c.framingErrors, unsignedBytes c.gapTimeouts,
      unsignedBytes c.lengthErrors, unsignedBytes c.misaddressed, unsignedBytes c.superseded].flatten := by
  simp [counterBytes]

theorem counterBytes_read {x : Port} (h : portSound x) : countersRead x.counters := by
  have hb := counterBytes_eq x.counters
  obtain ⟨hgood, hcheck, hframing, hgap, hlength, hmis, hsuper⟩ := h
  have hall : (List.range 7).map (fun i => unsignedAt (counterBytes x.counters) (2 * i)) =
      [unsignedAt (counterBytes x.counters) 0, unsignedAt (counterBytes x.counters) 2,
        unsignedAt (counterBytes x.counters) 4, unsignedAt (counterBytes x.counters) 6,
        unsignedAt (counterBytes x.counters) 8, unsignedAt (counterBytes x.counters) 10,
        unsignedAt (counterBytes x.counters) 12] := rfl
  rw [countersRead, hall, (StandsAt.field hb 0 rfl).unsigned hgood, (StandsAt.field hb 1 rfl).unsigned hcheck,
    (StandsAt.field hb 2 rfl).unsigned hframing, (StandsAt.field hb 3 rfl).unsigned hgap,
    (StandsAt.field hb 4 rfl).unsigned hlength, (StandsAt.field hb 5 rfl).unsigned hmis,
    (StandsAt.field hb 6 rfl).unsigned hsuper]

/-! ### FAULT RECORDS (Table 8-5, R147) -/

theorem faultBytes_eq (r : FaultRecord) : faultBytes r =
    [oneByte r.code.number, oneByte (bitsByte [r.code.classD, r.cleared, r.detail.isSome, r.gridTemp.isSome]),
      longBytes r.first, longBytes r.last, oneByte r.occurrences, unsignedBytes r.refSpeed, signedBytes (r.gridTemp.getD 0),
      signedBytes (r.detail.getD 0)].flatten := by simp [faultBytes]

theorem faultBytes_reads {r : FaultRecord} (h : recordSound r) : recordReads r := by
  have hb := faultBytes_eq r
  obtain ⟨-, hoccurrences, hspeed, hgrid, hdetail⟩ := h
  have hnumber := TripCode.number_lt r.code
  have htemp : carries (r.gridTemp.getD 0) := getD_holds ⟨by omega, by omega⟩ fun x hx => by
    obtain ⟨hlow, hhigh⟩ := hgrid x hx
    exact ⟨by omega, by omega⟩
  have hvoltage (hcode : r.code = .dcLinkOvervolt) : 0 ≤ r.detail.getD 0 ∧ r.detail.getD 0 ≤ 65535 :=
    getD_holds (P := fun x : Int => 0 ≤ x ∧ x ≤ 65535) ⟨by omega, by omega⟩ fun x hx => (hdetail x hx).1 hcode
  have hsigned (hcode : r.code ≠ .dcLinkOvervolt) : carries (r.detail.getD 0) :=
    getD_holds ⟨by omega, by omega⟩ fun x hx => (hdetail x hx).2 hcode
  exact ⟨(StandsAt.field hb 0 rfl).figure (by omega), (StandsAt.field hb 1 rfl).flags, (StandsAt.field hb 2 rfl).long,
    (StandsAt.field hb 3 rfl).long, (StandsAt.field hb 4 rfl).figure hoccurrences,
    (StandsAt.field hb 5 rfl).unsigned (by omega), (StandsAt.field hb 6 rfl).signed htemp,
    fun hcode => (StandsAt.field hb 7 rfl).signedAsUnsigned (hvoltage hcode).1 (hvoltage hcode).2,
    fun hcode => (StandsAt.field hb 7 rfl).signed (hsigned hcode)⟩

theorem faultReadBytes_eq (start : Nat) (t : Trips) : faultReadBytes start t =
    [oneByte t.faults.length, oneByte t.overflow, ((t.faults.drop start).take 2).flatMap faultBytes].flatten := by
  simp [faultReadBytes]

theorem faultReadBytes_read {t : Trips} (start : Nat) (hcount : t.faults.length ≤ 16) (hoverflow : t.overflow ≤ 255) :
    faultsRead start t := by
  have hb := faultReadBytes_eq start t
  refine ⟨(StandsAt.field hb 0 rfl).figure (by omega), (StandsAt.field hb 1 rfl).figure hoverflow,
    faultReadBytes_length start t, fun i r hi hr => ?_⟩
  have hrecord : ((t.faults.drop start).take 2)[i]? = some r := by
    rw [List.getElem?_take_of_lt hi, List.getElem?_drop, hr]
  have hrecords : StandsAt (faultReadBytes start t) 2 (((t.faults.drop start).take 2).flatMap faultBytes) := .field hb 2 rfl
  exact hrecords.trans (.block faultBytes_length hrecord)

/-! ### The latched-trip map (R136, R164) -/

theorem tripMap_bit (m : TripMarks) (c : TripCode) : (allCodes.map m.get).getD c.number false = m.get c := by
  cases c <;> rfl

theorem tripMap_lt (m : TripMarks) : tripMap m < 4096 := by
  have hlt := bitsByte_lt (allCodes.map m.get)
  have hlength : (allCodes.map m.get).length = 12 := List.length_map m.get
  rwa [hlength] at hlt

/-- The latched-trip map read back: bit n is the mark of code n, bits 12 to 15 are 0. -/
theorem StandsAt.tripMap {b : List Byte} {i : Nat} {m : TripMarks} (h : StandsAt b i (unsignedBytes (tripMap m))) :
    (∀ c : TripCode, (wordAt b i).getLsbD c.number = m.get c) ∧ unsignedAt b i < 4096 := by
  have hlt := tripMap_lt m
  refine ⟨fun c => ?_, ?_⟩
  · rw [StandsAt.word h, ← tripMap_bit m c]
    exact getLsbD_ofNat_bitsByte (w := 16) (bits := allCodes.map m.get) (by simp [allCodes]) _
  · rw [h.unsigned (by omega)]
    exact hlt

theorem tripMapBytes_reads (s : State) : mapReads s :=
  StandsAt.tripMap (b := tripMapBytes s) (i := 0) (m := s.trips.latched) rfl

/-! ### The plan (Tables 8-3 and 8-6) -/

theorem headSpeed_le {p : Planner} (h : planSound p) : (p.head.map fun x => x.speed).getD 65535 ≤ 65535 := by
  obtain ⟨-, -, hstate, -, -⟩ := h
  unfold planStateSound at hstate
  split at hstate
  · simp [hstate]
  · simp [hstate]
  · obtain ⟨seg, rest, x, -, -, hx, -, hspeed, -⟩ := hstate
    simp only [hx, Option.map_some, Option.getD_some]
    omega

theorem progress_lt {p : Planner} (h : planSound p) : p.progress < 2 ^ 32 := by
  obtain ⟨-, hqueue, hstate, -, -⟩ := h
  unfold planStateSound at hstate
  split at hstate
  · omega
  · omega
  · obtain ⟨seg, rest, x, hseg, hprogress, -⟩ := hstate
    obtain ⟨-, hlength, -⟩ := hqueue seg (by simp [hseg])
    omega

theorem planReadBytes_eq (p : Planner) : planReadBytes p =
    [oneByte p.state.code, oneByte p.queue.length, speedBytes (p.head.map fun x => x.speed),
      oneByte (bitsByte [(p.head.map fun x => x.derated).getD false, (p.head.map fun x => x.infeasible).getD false]),
      headBytes p.queue, longBytes (BitVec.ofNat 32 p.progress), unsignedBytes p.completed,
      unsignedBytes p.abandoned].flatten := by simp [planReadBytes, planSummary]

theorem segmentBytes_eq (seg : Segment) : segmentBytes seg =
    [unsignedBytes seg.length, signedBytes seg.grade, unsignedBytes seg.target, oneByte seg.surface.code].flatten := by
  simp [segmentBytes]

/-- A HEAD read back where it stands (Table 8-3). -/
theorem segmentBytes_read {b : List Byte} {i : Nat} {seg : Segment} (h : StandsAt b i (segmentBytes seg))
    (hsound : segmentSound seg) :
    unsignedAt b i = seg.length ∧ signedAt b (i + 2) = seg.grade ∧ unsignedAt b (i + 4) = seg.target ∧
    byteAt b (i + 6) = BitVec.ofNat 8 seg.surface.code := by
  have hb := segmentBytes_eq seg
  obtain ⟨-, hlength, hgrade, hgrade', -, htarget⟩ := hsound
  exact ⟨(h.trans (j := 0) (.field hb 0 rfl)).unsigned (by omega),
    (h.trans (.field hb 1 rfl)).signed ⟨by omega, by omega⟩, (h.trans (.field hb 2 rfl)).unsigned (by omega),
    (h.trans (.field hb 3 rfl)).one⟩

theorem planReadBytes_read {p : Planner} (h : planSound p) : planReads p := by
  have hb := planReadBytes_eq p
  have hspeed := headSpeed_le h
  have hprogress := progress_lt h
  have hstate := PlanState.code_le p.state
  have hhead : StandsAt (planReadBytes p) 5 (headBytes p.queue) := .field hb 4 rfl
  have hlong : longAt (planReadBytes p) 12 = BitVec.ofNat 32 p.progress := (StandsAt.field hb 5 rfl).long
  obtain ⟨hcount, hsegments, -, hcompleted, habandoned⟩ := h
  refine ⟨?_, (StandsAt.field hb 0 rfl).figure (by omega), (StandsAt.field hb 1 rfl).figure (by omega),
    (StandsAt.field hb 2 rfl).unsigned hspeed, (StandsAt.field hb 3 rfl).flags, fun hempty => ?_,
    fun seg rest hqueue => ?_, ?_,
    (StandsAt.field hb 6 rfl).unsigned hcompleted, (StandsAt.field hb 7 rfl).unsigned habandoned⟩
  · simp only [planReadBytes, List.append_assoc]
    exact (List.take_left' (planSummary_length p)).symm
  · rw [hempty] at hhead
    exact hhead
  · rw [hqueue] at hhead
    obtain ⟨hlength, hgrade, htarget, hsurface⟩ := segmentBytes_read hhead (hsegments seg (by simp [hqueue]))
    refine ⟨hlength, hgrade, htarget, hsurface.trans ?_⟩
    cases seg.surface <;> rfl
  · rw [hlong, BitVec.toNat_ofNat, Nat.mod_eq_of_lt hprogress]

/-! ### ROW_READ (Table 8-7, R15, R175) -/

theorem rowReadBytes_eq (r : Nat) (t : Store) : rowReadBytes r t =
    [oneByte r, oneByte (bitsByte [rowIsLimp t.image r, decide (pendingRow t = some r)]),
      (shownEntries r (imageRow t.image r)).flatMap wordBytes].flatten := by simp [rowReadBytes]

/-- The entries shown of a row: entries 0 to 3 of row 22 are 0 (R15, R175). -/
theorem shownEntries_getElem? (r : Nat) (row : Row) {e : Nat} (he : e < 8) :
    (shownEntries r row)[e]? = some (if r = 22 ∧ e < 4 then 0 else rowEntry row e) := by
  unfold shownEntries
  rw [row_toList]
  split
  next hr => interval_cases e <;> simp [hr]
  next hr => simp [hr, he]

/-- The row whose swap waits is the staged one while the programmer is SWAP_PENDING (R182, R185). -/
theorem pendingRow_eq_some (t : Store) (r : Nat) :
    pendingRow t = some r ↔ t.programmer = .swapPending ∧ ∃ st, t.stage = some st ∧ st.row = r := by
  unfold pendingRow
  split <;> simp_all

theorem pendingRow_getD (t : Store) : (pendingRow t).getD 255 =
    if t.programmer = .swapPending then (t.stage.map fun st => st.row).getD 255 else 255 := by
  unfold pendingRow
  split
  next hswap hstage => simp [hswap, hstage]
  next hother =>
    cases hstage : t.stage with
    | none => simp
    | some st => exact (if_neg fun hswap => hother st hswap hstage).symm

theorem rowReadBytes_read {r : Nat} (hr : r < 23) (t : Store) : rowReads r t := by
  have hb := rowReadBytes_eq r t
  have hflags := (StandsAt.field hb 1 rfl : StandsAt _ 1 _).one
  refine ⟨(StandsAt.field hb 0 rfl).figure (by omega), fun i => ?_, fun e he => ?_⟩
  · rw [hflags, getLsbD_ofNat_bitsByte (by simp)]
    match i with
    | 0 => simp
    | 1 => simp [pendingRow_eq_some]
    | i + 2 => simp
  · have hentries : StandsAt (rowReadBytes r t) 2 ((shownEntries r (imageRow t.image r)).flatMap wordBytes) := .field hb 2 rfl
    exact (hentries.trans (.block wordBytes_length (shownEntries_getElem? r _ he))).word

/-! ### STORE_STATUS (Table 8-7, R185) -/

theorem storeStatusBytes_eq (t : Store) : storeStatusBytes t =
    [oneByte t.programmer.code, bandByte (t.stage.map fun st => st.row), bandByte (pendingRow t),
      map24Bytes (rowMap (isSuspect t)), map24Bytes (limpMap t.image), unsignedBytes t.writeFail,
      oneByte (bitsByte [storeFault t])].flatten := by simp [storeStatusBytes]

theorem rowMap_testBit (f : Nat → Bool) (r : Nat) : (rowMap f).testBit r = (decide (r < 23) && f r) := by
  rw [rowMap, testBit_bitsByte, List.getD_eq_getElem?_getD, List.getElem?_map]
  by_cases hr : r < 23 <;> simp [hr]

theorem stagedRow_le {t : Store} (h : programmerSound t) : (t.stage.map fun st => st.row).getD 255 ≤ 255 := by
  refine getD_holds (P := (· ≤ 255)) (Nat.le_refl 255) fun r hr => ?_
  obtain ⟨st, hst, rfl⟩ := Option.map_eq_some_iff.mp hr
  have hrow := h.1 st hst
  omega

theorem storeStatusBytes_read {t : Store} (h : programmerSound t) (hfail : t.writeFail ≤ 65535) : storeStatusReads t := by
  have hb := storeStatusBytes_eq t
  have hcode := Programmer.code_le t.programmer
  have hstaged := stagedRow_le h
  have hpending : (pendingRow t).getD 255 ≤ 255 := by
    rw [pendingRow_getD]
    split_ifs
    · exact hstaged
    · exact Nat.le_refl 255
  have hfault := (StandsAt.field hb 6 rfl : StandsAt _ 11 _).one
  refine ⟨(StandsAt.field hb 0 rfl).figure (by omega), (StandsAt.field hb 1 rfl).figure hstaged, ?_, fun r hr => ?_,
    fun r hr => ?_, (StandsAt.field hb 5 rfl).unsigned hfail, fun i => ?_⟩
  · rw [← pendingRow_getD]
    exact (StandsAt.field hb 2 rfl).figure hpending
  · rw [← rowMap_testBit]
    exact (StandsAt.field hb 3 rfl : StandsAt _ 3 _).map24 hr
  · rw [← rowMap_testBit]
    exact (StandsAt.field hb 4 rfl : StandsAt _ 6 _).map24 hr
  · rw [hfault, getLsbD_ofNat_bitsByte (by simp)]
    cases i with
    | zero => simp [storeFault]
    | succ i => simp

/-! ### MODEL_READ page 0 (Table 8-8, R186) -/

theorem motorBytes_eq (m : Motor) : motorBytes m =
    [oneByte (16 * m.hold.code + m.holdCount), figureBytes m.temp, oneByte (16 * m.boost.state.code + m.band.getD 15),
      unsignedBytes m.md, unsignedBytes m.boost.count].flatten := by simp [motorBytes]

theorem motorBytes_read {b : List Byte} {i : Nat} {m : Motor} (h : StandsAt b i (motorBytes m)) (hmotor : motorSound m)
    (hmd : m.md ≤ 1000) : motorReads b i m := by
  have hb := motorBytes_eq m
  have hhold := HoldState.code_le m.hold
  have hboost := BoostState.code_le m.boost.state
  obtain ⟨-, -, -, -, hcount, htemp, hband, -, htimer, -⟩ := hmotor
  have hband_le : m.band.getD 15 ≤ 15 := getD_holds (P := (· ≤ 15)) (Nat.le_refl 15) fun x hx =>
    (motorBandNow_le (hband.symm.trans hx)).trans (by omega)
  have htemp_carries : carries (m.temp.getD (-32768)) := getD_holds ⟨by omega, by omega⟩ fun x hx => by
    obtain ⟨hlow, hhigh⟩ := htemp x hx
    exact ⟨by omega, by omega⟩
  have hfirst : (byteAt b i).toNat = 16 * m.hold.code + m.holdCount :=
    (h.trans (j := 0) (.field hb 0 rfl)).figure (by omega)
  have hfourth : (byteAt b (i + 3)).toNat = 16 * m.boost.state.code + m.band.getD 15 :=
    (h.trans (.field hb 2 rfl)).figure (by omega)
  refine ⟨by omega, by omega, (h.trans (.field hb 1 rfl)).signed htemp_carries, by omega, by omega,
    (h.trans (.field hb 3 rfl)).unsigned (by omega), (h.trans (.field hb 4 rfl)).unsigned (by omega)⟩

theorem modelPage0_eq (s : State) : modelPage0 s =
    [figureBytes (s.thermal.grid.map fun g => g.g), figureBytes (s.thermal.grid.map fun g => g.effective),
      bandByte (s.thermal.grid.map fun g => g.band), unsignedBytes s.thermal.gd, motorBytes s.thermal.motor.left,
      motorBytes s.thermal.motor.right, unsignedBytes s.traction.tf.left, unsignedBytes s.traction.tf.right,
      unsignedBytes s.intake.standstill, longBytes (BitVec.ofNat 32 s.planner.progress),
      speedBytes (s.intake.fallback.map fun f => f.setpoint), oneByte (16 * s.engine.excess.left + s.engine.excess.right),
      oneByte s.traction.pressureCount, unsignedBytes s.planner.shortfall, unsignedBytes s.engine.speedLimit,
      oneByte s.engine.source.code, longBytes s.stamp].flatten := by simp [modelPage0]

/-- The figures of the grid that replies carry, absent while G is UNSEEDED. -/
theorem gridFigures_bounds {t : Thermal} (h : thermalSound t) :
    carries ((t.grid.map fun g => g.g).getD (-32768)) ∧ carries ((t.grid.map fun g => g.effective).getD (-32768)) ∧
    (t.grid.map fun g => g.band).getD 255 ≤ 255 := by
  obtain ⟨hgrid, -⟩ := h
  cases hg : t.grid with
  | none => simp [carries]
  | some g =>
    obtain ⟨hlow, hhigh, hcool, hhot, hband, -⟩ := hgrid g hg
    have hseven : gridBandOf g.effective ≤ 7 := List.length_filter_le _ _
    simp only [Option.map_some, Option.getD_some, carries]
    omega

theorem setpoint_le {i : Intake} (h : intakeSound i) : (i.fallback.map fun f => f.setpoint).getD 65535 ≤ 65535 := by
  obtain ⟨-, -, hfallback, -⟩ := h
  refine getD_holds (P := (· ≤ 65535)) (Nat.le_refl 65535) fun v hv => ?_
  obtain ⟨f, hf, rfl⟩ := Option.map_eq_some_iff.mp hv
  obtain ⟨-, -, -, -, -, hsetpoint⟩ := hfallback f hf
  omega

/-- The standstill counter and the payload within their ranges. -/
theorem intakeFigures_bounds {i : Intake} (h : intakeSound i) : i.standstill ≤ 65535 ∧ i.payload ≤ 400 := by
  obtain ⟨-, -, -, -, -, -, -, -, -, hstandstill, hpayload⟩ := h
  exact ⟨hstandstill, hpayload⟩

theorem modelPage0_reads {s : State} (hintake : intakeSound s.intake) (hthermal : thermalSound s.thermal)
    (hderates : deratesSound s.thermal) (hplan : planSound s.planner) (hgrant : grantRanges s.engine)
    (hcounters : countersSound s) : pageZeroReads s := by
  have hb := modelPage0_eq s
  obtain ⟨hg, heffective, hband⟩ := gridFigures_bounds hthermal
  obtain ⟨-, -, hmotors⟩ := hthermal
  obtain ⟨hgd, hmd⟩ := hderates
  obtain ⟨hstandstill, -⟩ := intakeFigures_bounds hintake
  obtain ⟨-, -, -, -, hspeed, -⟩ := hgrant
  obtain ⟨-, -, -, -, -, hexcess, hpressure, htf, -, -, -, -, hcounts⟩ := hcounters
  obtain ⟨-, -, -, hshortfall, -⟩ := hcounts
  have hprogress := progress_lt hplan
  have hsource := LimitSource.code_le s.engine.source
  have hexcessL : s.engine.excess.left ≤ 5 := hexcess .left
  have hexcessR : s.engine.excess.right ≤ 5 := hexcess .right
  have htfL : s.traction.tf.left ≤ 1000 := (htf .left).2
  have htfR : s.traction.tf.right ≤ 1000 := (htf .right).2
  have hlong : longAt (modelPage0 s) 29 = BitVec.ofNat 32 s.planner.progress := (StandsAt.field hb 9 rfl).long
  have hboth : (byteAt (modelPage0 s) 35).toNat = 16 * s.engine.excess.left + s.engine.excess.right :=
    (StandsAt.field hb 11 rfl).figure (by omega)
  refine ⟨(StandsAt.field hb 0 rfl).signed hg, (StandsAt.field hb 1 rfl).signed heffective,
    (StandsAt.field hb 2 rfl).figure hband, (StandsAt.field hb 3 rfl).unsigned (by omega),
    motorBytes_read (.field hb 4 rfl) (hmotors .left) (hmd .left),
    motorBytes_read (.field hb 5 rfl) (hmotors .right) (hmd .right), (StandsAt.field hb 6 rfl).unsigned (by omega),
    (StandsAt.field hb 7 rfl).unsigned (by omega), (StandsAt.field hb 8 rfl).unsigned hstandstill, ?_,
    (StandsAt.field hb 10 rfl).unsigned (setpoint_le hintake), by omega, by omega,
    (StandsAt.field hb 12 rfl).figure (by omega), (StandsAt.field hb 13 rfl).unsigned (by omega),
    (StandsAt.field hb 14 rfl).unsigned (by omega), (StandsAt.field hb 15 rfl).figure (by omega),
    (StandsAt.field hb 16 rfl).long⟩
  rw [hlong, BitVec.toNat_ofNat, Nat.mod_eq_of_lt hprogress]

/-! ### MODEL_READ page 1 (Tables 8-1 and 8-7, R23, R24, R186) -/

theorem measurementBytes_eq (m : MeasurementRecord) : measurementBytes m =
    [signedBytes m.wheelSpeed.left, signedBytes m.wheelSpeed.right, unsignedBytes m.refSpeed, signedBytes m.achieved.left,
      signedBytes m.achieved.right, signedBytes m.winding.left, signedBytes m.winding.right, unsignedBytes m.gridPower,
      signedBytes m.gridSensor, unsignedBytes m.voltage, signedBytes m.ambient,
      oneByte (bitsByte [m.blower, m.inverterFault.left, m.inverterFault.right])].flatten := by simp [measurementBytes]

theorem clamp_eq_self {low high x : Int} (hlow : low ≤ x) (hhigh : x ≤ high) : max low (min high x) = x := by omega

theorem mark_eq_decide {b : Bool} {P : Prop} [Decidable P] (h : b = true ↔ P) : decide P = b := by
  cases b <;> simp_all

/-- A stored record within its bounds is what its own bytes are stored as (R23, R24). -/
theorem measureOf_standsAt {p : List Byte} {m : MeasurementRecord} (h : StandsAt p 0 (measurementBytes m))
    (hsound : measurementSound m) : measureOf p = m := by
  have hb := measurementBytes_eq m
  obtain ⟨hspeed, href, hachieved, hwinding, hpower, hsensor, hsensorValid, hvoltage, hambient, hambient'⟩ := hsound
  obtain ⟨hspeedL, hspeedL'⟩ := hspeed .left
  obtain ⟨hspeedR, hspeedR'⟩ := hspeed .right
  obtain ⟨hachievedL, hachievedL'⟩ := hachieved .left
  obtain ⟨hachievedR, hachievedR'⟩ := hachieved .right
  obtain ⟨hwindingL, hvalidL⟩ := hwinding .left
  obtain ⟨hwindingR, hvalidR⟩ := hwinding .right
  simp only [Both.get] at hspeedL hspeedL' hspeedR hspeedR' hwindingL hvalidL hwindingR hvalidR
  simp only [Both.get] at hachievedL hachievedL' hachievedR hachievedR'
  have hflags : byteAt p 22 = _ := (h.trans (.field hb 11 rfl) : StandsAt p (0 + 22) _).one
  have hflag (j : Nat) : (byteAt p 22).getLsbD j = [m.blower, m.inverterFault.left, m.inverterFault.right].getD j false := by
    rw [hflags, getLsbD_ofNat_bitsByte (by simp)]
  have hwheelL : signedAt p 0 = _ := (h.trans (j := 0) (.field hb 0 rfl)).signed ⟨by omega, by omega⟩
  have hwheelR : signedAt p 2 = _ := (h.trans (j := 2) (.field hb 1 rfl)).signed ⟨by omega, by omega⟩
  have hrefSpeed : unsignedAt p 4 = _ := (h.trans (j := 4) (.field hb 2 rfl)).unsigned (by omega)
  have htorqueL : signedAt p 6 = _ := (h.trans (j := 6) (.field hb 3 rfl)).signed ⟨by omega, by omega⟩
  have htorqueR : signedAt p 8 = _ := (h.trans (j := 8) (.field hb 4 rfl)).signed ⟨by omega, by omega⟩
  have htempL : signedAt p 10 = _ := (h.trans (j := 10) (.field hb 5 rfl)).signed hwindingL
  have htempR : signedAt p 12 = _ := (h.trans (j := 12) (.field hb 6 rfl)).signed hwindingR
  have hgridPower : unsignedAt p 14 = _ := (h.trans (j := 14) (.field hb 7 rfl)).unsigned (by omega)
  have hgridTemp : signedAt p 16 = _ := (h.trans (j := 16) (.field hb 8 rfl)).signed hsensor
  have hvolts : unsignedAt p 18 = _ := (h.trans (j := 18) (.field hb 9 rfl)).unsigned hvoltage
  have hair : signedAt p 20 = _ := (h.trans (j := 20) (.field hb 10 rfl)).signed ⟨by omega, by omega⟩
  simp only [measureOf, hwheelL, hwheelR, hrefSpeed, htorqueL, htorqueR, htempL, htempR, hgridPower, hgridTemp, hvolts, hair,
    hflag, clamp_eq_self hspeedL hspeedL', clamp_eq_self hspeedR hspeedR',
    clamp_eq_self hachievedL hachievedL', clamp_eq_self hachievedR hachievedR',
    clamp_eq_self hambient hambient', Nat.min_eq_right href, Nat.min_eq_right hpower, mark_eq_decide hvalidL,
    mark_eq_decide hvalidR, mark_eq_decide hsensorValid]
  rfl

theorem modelPage1_present {s : State} {m : MeasurementRecord} (h : s.intake.measurement = some m) : modelPage1 s =
    [[1], measurementBytes m, oneByte (bitsByte [m.windingValid.left, m.windingValid.right, m.gridSensorValid])].flatten := by
  simp [modelPage1, h]

theorem modelPage1_reads {s : State} (h : intakeSound s.intake) : pageOneReads s := by
  obtain ⟨-, hmeasurement, -⟩ := h
  refine ⟨fun hnone => by simp [modelPage1, hnone], fun m hm => ?_⟩
  have hb := modelPage1_present hm
  have hrecord : StandsAt (modelPage1 s) 1 (measurementBytes m) := .field hb 1 rfl
  refine ⟨(StandsAt.field hb 0 rfl).read (j := 0) Nat.one_pos, measureOf_standsAt ?_ (hmeasurement m hm),
    (StandsAt.field hb 2 rfl).flags⟩
  rwa [StandsAt, List.drop_zero]

/-! ### The CHASSIS STATUS RECORD (Table 8-4) -/

theorem statusBytes_eq (s : State) : statusBytes s =
    [oneByte s.mode.code, oneByte s.trips.level.code, unsignedBytes (tripMap s.trips.latched),
      unsignedBytes s.engine.speedLimit, oneByte s.engine.source.code,
      unsignedBytes (s.engine.grant.retardLimit.left + s.engine.grant.retardLimit.right),
      figureBytes (s.thermal.grid.map fun g => g.effective), bandByte (s.thermal.grid.map fun g => g.band),
      oneByte s.planner.state.code, oneByte s.planner.queue.length, speedBytes (s.planner.head.map fun h => h.speed),
      oneByte (bitsByte [(s.planner.head.map fun h => h.derated).getD false,
        (s.planner.head.map fun h => h.infeasible).getD false, overloadHold s.intake, s.intake.directionHeld,
        envelopeLimp s.store.image]),
      unsignedBytes s.intake.payload, oneByte (payloadBand s.intake), unsignedBytes s.traction.reserve,
      oneByte s.intake.l1.code].flatten := by simp [statusBytes]

theorem overloadHold_eq (i : Intake) : overloadHold i = decide (290 ≤ i.payload) :=
  decide_eq_decide.mpr (payloadBand_overload i)

theorem statusBytes_read {s : State} (hintake : intakeSound s.intake) (hthermal : thermalSound s.thermal)
    (hplan : planSound s.planner) (hgrant : grantRanges s.engine) (hcounters : countersSound s) : statusReads s := by
  have hb := statusBytes_eq s
  obtain ⟨-, heffective, hband⟩ := gridFigures_bounds hthermal
  obtain ⟨-, hpayload⟩ := intakeFigures_bounds hintake
  have hhead := headSpeed_le hplan
  obtain ⟨hqueue, -⟩ := hplan
  obtain ⟨hlimits, -, -, -, hspeed, -⟩ := hgrant
  have hretardL : s.engine.grant.retardLimit.left ≤ 1600 := (hlimits .left).2
  have hretardR : s.engine.grant.retardLimit.right ≤ 1600 := (hlimits .right).2
  obtain ⟨-, -, -, -, -, -, -, -, hreserve, -⟩ := hcounters
  have hmode := Mode.code_le s.mode
  have hlevel := TripLevel.code_le s.trips.level
  have hsource := LimitSource.code_le s.engine.source
  have hstate := PlanState.code_le s.planner.state
  have hfresh := Freshness.code_le s.intake.l1
  have hseven := payloadBand_le s.intake
  have hmap : StandsAt (statusBytes s) 2 (unsignedBytes (tripMap s.trips.latched)) := .field hb 2 rfl
  refine ⟨(StandsAt.field hb 0 rfl).figure (by omega), (StandsAt.field hb 1 rfl).figure (by omega), hmap.tripMap.1,
    hmap.tripMap.2, (StandsAt.field hb 3 rfl).unsigned (by omega), (StandsAt.field hb 4 rfl).figure (by omega),
    (StandsAt.field hb 5 rfl).unsigned (by omega), (StandsAt.field hb 6 rfl).signed heffective,
    (StandsAt.field hb 7 rfl).figure hband, (StandsAt.field hb 8 rfl).figure (by omega),
    (StandsAt.field hb 9 rfl).figure (by omega), (StandsAt.field hb 10 rfl).unsigned hhead, ?_,
    (StandsAt.field hb 12 rfl).unsigned (by omega), (StandsAt.field hb 13 rfl).figure (hseven.trans (by omega)),
    (StandsAt.field hb 14 rfl).unsigned (by omega), (StandsAt.field hb 15 rfl).figure (by omega)⟩
  rw [← overloadHold_eq]
  exact (StandsAt.field hb 11 rfl).flags

/-! ### The IDENT_READ text (R187) -/

theorem identBytes_read (im : Image) : identReads im := by
  have hletter := Config.revisionLetter.isLt
  refine ⟨65 + Config.revisionLetter.val, Nat.le_add_right 65 _, by omega, ?_⟩
  rfl

/-- The counters of every port read back. -/
theorem portCounters_read {s : State} (h : countersSound s) (p : PortId) : countersRead (s.port p).counters := by
  obtain ⟨hL1, hL2, hL3, -⟩ := h
  cases p with
  | l1 => exact counterBytes_read hL1
  | l2 => exact counterBytes_read hL2
  | l3 => exact counterBytes_read hL3

theorem codes_follow : codesFollow := by
  unfold codesFollow
  decide

/-- Settles O25, record by record. -/
theorem recordsReadBack : Obligations.RecordsReadBack := by
  refine ⟨codes_follow, fun r => replyFrame_reads, fun g level mode => grantBytes_reads level mode,
    fun r => faultBytes_reads, identBytes_read,
    fun s hintake hthermal hderates hplan hgrant hcounters hfaults hprogrammer => ?_⟩
  obtain ⟨-, -, -, hoverflow, hfail, -⟩ := id hcounters
  exact ⟨statusBytes_read hintake hthermal hplan hgrant hcounters, planReadBytes_read hplan,
    fun r hr => rowReadBytes_read hr s.store, storeStatusBytes_read hprogrammer hfail,
    modelPage0_reads hintake hthermal hderates hplan hgrant hcounters, modelPage1_reads hintake, tripMapBytes_reads s,
    fun n _ => faultReadBytes_read n hfaults.1 hoverflow, portCounters_read hcounters⟩

end Sys2Proof.Proofs
end

section
/-! SUPPORT. Frames and the line read back (O58): requests from their frames, characters from their eleven bits, the line item by
item. -/

namespace Sys2Proof.Proofs

open Sys2Proof.Machine Sys2Proof.Safety Sys2Proof.Claims

/-! ### Requests from their frames (R152, R156) -/

/-- A well-formed request is what its port, code and payload spell, whatever the command. -/
theorem spellsItself (c : Instr) : Laws.SpellsItself.Statement c := by
  cases c with
  | unknownRequest p code payload => exact Laws.SpellsItself.unknownRequest p code payload
  | measure payload => exact Laws.SpellsItself.measure payload
  | grantRead payload => exact Laws.SpellsItself.grantRead payload
  | linkStatus p payload => exact Laws.SpellsItself.linkStatus p payload
  | demand payload => exact Laws.SpellsItself.demand payload
  | planAppend payload => exact Laws.SpellsItself.planAppend payload
  | planStart payload => exact Laws.SpellsItself.planStart payload
  | planClear payload => exact Laws.SpellsItself.planClear payload
  | planRead payload => exact Laws.SpellsItself.planRead payload
  | tripClear payload => exact Laws.SpellsItself.tripClear payload
  | faultRead p payload => exact Laws.SpellsItself.faultRead p payload
  | faultAck payload => exact Laws.SpellsItself.faultAck payload
  | access payload => exact Laws.SpellsItself.access payload
  | logout payload => exact Laws.SpellsItself.logout payload
  | rowRead payload => exact Laws.SpellsItself.rowRead payload
  | rowStage payload => exact Laws.SpellsItself.rowStage payload
  | rowCommit payload => exact Laws.SpellsItself.rowCommit payload
  | storeStatus payload => exact Laws.SpellsItself.storeStatus payload
  | countersRead payload => exact Laws.SpellsItself.countersRead payload
  | modelRead payload => exact Laws.SpellsItself.modelRead payload
  | identRead payload => exact Laws.SpellsItself.identRead payload
  | restart payload => exact Laws.SpellsItself.restart payload
  | _ => exact Laws.SpellsItself.of_noFrame rfl

/-- A request as a port, a code and a payload of at most 48 bytes, with the command that these spell. -/
theorem request_spelled {p : PortId} {code : Byte} {payload : List Byte} {c : Instr} (hwf : WellFormed c = true)
    (hframe : frameOf c = some (p, code, payload)) : requestOf p code payload = c ∧ payload.length ≤ 48 :=
  spellsItself c hwf p code payload hframe

theorem requestCharacters_eq (a code : Byte) (payload : List Byte) : requestCharacters a code payload =
    code :: BitVec.ofNat 8 payload.length ::
      (payload ++ [checkByte (a :: code :: BitVec.ofNat 8 payload.length :: payload)]) := rfl

theorem lengthByte_toNat {payload : List Byte} (h : payload.length ≤ 48) :
    (BitVec.ofNat 8 payload.length).toNat = payload.length := by
  rw [BitVec.toNat_ofNat]
  omega

/-- A whole sound frame spells its request. -/
theorem decodeFrame_requestCharacters {p : PortId} {a code : Byte} {payload : List Byte} (h : payload.length ≤ 48) :
    decodeFrame p a (requestCharacters a code payload) = some (requestOf p code payload) := by
  have hlength := lengthByte_toNat h
  have hsum : byteSum (a :: requestCharacters a code payload) = 0 :=
    byteSum_checkByte (a :: code :: BitVec.ofNat 8 payload.length :: payload)
  rw [requestCharacters_eq] at hsum ⊢
  unfold decodeFrame
  simp only [hlength, maxPayload, Nat.not_lt.mpr h, hsum, List.length_append, List.length_singleton, ne_eq,
    not_true_eq_false, if_true, if_false, List.take_left']

/-- A frame that stops short of its CHECK BYTE is not complete (R152). -/
theorem decodeFrame_incomplete {p : PortId} {a code : Byte} {payload done rest : List Byte} (h : payload.length ≤ 48)
    (hsplit : done ++ rest = requestCharacters a code payload) (hrest : rest ≠ []) : decodeFrame p a done = none := by
  rw [requestCharacters_eq] at hsplit
  have hlength := lengthByte_toNat h
  match done with
  | [] => rfl
  | [_] => rfl
  | x :: y :: collected =>
    simp only [List.cons_append, List.cons.injEq] at hsplit
    obtain ⟨rfl, rfl, hcollected⟩ := hsplit
    have hcount := congrArg List.length hcollected
    have hmissing := List.length_pos_of_ne_nil hrest
    simp only [List.length_append, List.length_singleton] at hcount
    have hshort : collected.length ≠ payload.length + 1 := by omega
    simp [decodeFrame, hlength, maxPayload, Nat.not_lt.mpr h, hshort]

theorem decodeFrame_encodeFrame {p : PortId} {a code : Byte} {payload characters : List Byte} {c : Instr}
    (hwf : WellFormed c = true) (hframe : frameOf c = some (p, code, payload)) (hencode : encodeFrame a c = some characters) :
    decodeFrame p a characters = some c := by
  obtain ⟨hspells, hlength⟩ := request_spelled hwf hframe
  rw [encodeFrame, hframe] at hencode
  obtain rfl := Option.some.inj hencode
  exact (decodeFrame_requestCharacters hlength).trans (congrArg some hspells)

/-! ### Characters (R151) -/

theorem lineLevel_eq_mark (bit : Bool) : lineLevel bit = .mark ↔ bit = true := by cases bit <;> decide

theorem writeCharacter_hasItsBits (marker : Bool) (b : Byte) : hasItsBits marker b (writeCharacter marker b) := by
  refine ⟨rfl, fun i hi => ?_, lineLevel_eq_mark marker, rfl⟩
  rw [← lineLevel_eq_mark]
  interval_cases i <;> rfl

/-- Eight bits of the line as they stand are the byte whose bits they carry. -/
theorem dataByte_eq {bits : Character} {b : Byte} (h : ∀ (i : Nat) (h : i < 8), bits[i + 1] = .mark ↔ b.getLsbD i = true) :
    dataByte bits = b := by
  refine BitVec.eq_of_getLsbD_eq fun i hi => ?_
  have hlength : (((bits.toList.drop 1).take 8).map bitOf).length ≤ 8 := by simp
  have hbit : (((bits.toList.drop 1).take 8).map bitOf).getD i false = bitOf (bits[i + 1]'(by omega)) := by
    simp [List.getD_eq_getElem?_getD, hi]
  rw [dataByte, getLsbD_ofNat_bitsByte hlength, hbit, Bool.eq_iff_iff, ← h i hi]
  exact decide_eq_true_iff

theorem level_eq_space {l : Level} (h : l ≠ .mark) : l = .space := by
  cases l with
  | space => rfl
  | mark => exact absurd rfl h

/-- A character with its stop bit at mark is taken by its marker bit. -/
theorem readCharacter_stopped {marker : Bool} {b : Byte} {bits : Character} (h : hasItsBits marker b bits) :
    readCharacter bits = some (if marker then .marker b else .data b) := by
  obtain ⟨hstart, hdata, hmarker, hstop⟩ := h
  have hstarts : bits[0] ≠ .mark := by simp [hstart]
  rw [readCharacter, if_neg hstarts, if_pos hstop, dataByte_eq hdata]
  simp only [hmarker]

theorem readCharacter_isTakenFor (bits : Character) : isTakenFor bits := by
  refine ⟨fun marker b => readCharacter_stopped, fun hstart hstop => ⟨fun hall => ?_, fun hsome => ?_⟩, fun hmark => if_pos hmark⟩
  all_goals
    have hstarts : bits[0] ≠ .mark := by simp [hstart]
    have hstops : bits[10] ≠ .mark := by simp [hstop]
    rw [readCharacter, if_neg hstarts, if_neg hstops]
  · exact if_pos (List.all_eq_true.mpr fun l hl => decide_eq_true (hall l hl))
  · obtain ⟨l, hl, hmark⟩ := hsome
    exact if_neg fun hall => by
      have hspace := List.all_eq_true.mp hall l hl
      simp [hmark] at hspace

theorem readCharacter_writeCharacter (marker : Bool) (b : Byte) :
    readCharacter (writeCharacter marker b) = some (if marker then .marker b else .data b) :=
  readCharacter_stopped (writeCharacter_hasItsBits marker b)

/-! ### The line item by item (R151, R154, R155, R159, R160) -/

theorem gapCommand_eq (p : PortId) (n : Nat) : gapCommand p n = if 33 < n then some (.gapTimeout p) else none := rfl

theorem breakCommand_eq (p : PortId) (n : Nat) :
    breakCommand p n = if n < 11 then none else if n < 33 then some (.shortBreak p) else some (.longBreak p) := rfl

section
variable {p : PortId} {bits : Character} {frame : Option Collected}

theorem hearItem_marker {a : Byte} (h : readCharacter bits = some (.marker a)) :
    hearItem p (.character bits) frame = (some (.markerCharacter p a), some (a, [])) := by simp [hearItem, hearCharacter, h]

theorem hearItem_data {b : Byte} (h : readCharacter bits = some (.data b)) :
    hearItem p (.character bits) frame = hearData p b frame := by simp [hearItem, hearCharacter, h]

theorem hearItem_framingError (h : readCharacter bits = some .framingError) :
    hearItem p (.character bits) frame = (some (.framingError p), none) := by simp [hearItem, hearCharacter, h]

theorem hearItem_heldAtSpace (h : readCharacter bits = some .heldAtSpace) :
    hearItem p (.character bits) frame = (none, frame) := by simp [hearItem, hearCharacter, h]

end

theorem hearData_incomplete {p : PortId} {a b : Byte} {bytes : List Byte} (h : decodeFrame p a (bytes ++ [b]) = none) :
    hearData p b (some (a, bytes)) = (none, some (a, bytes ++ [b])) := by simp [hearData, h]

theorem hearData_completes {p : PortId} {a b : Byte} {bytes : List Byte} {c : Instr}
    (h : decodeFrame p a (bytes ++ [b]) = some c) : hearData p b (some (a, bytes)) = (some c, none) := by simp [hearData, h]

theorem items_spell (p : PortId) (frame : Option Collected) : itemsSpell p frame := by
  refine ⟨fun c a => hearItem_marker, fun c => hearItem_framingError, fun c => hearItem_heldAtSpace,
    fun c b h hnone => ?_, fun c b a bytes i h hcollecting => ⟨fun hdecode => ?_, fun hdecode => ?_⟩, fun n hn => ?_,
    fun n hn => ?_, fun n hn => ?_, fun n hlow hhigh => ?_, fun n hn => ?_⟩
  · rw [hearItem_data h, hnone]
    rfl
  · rw [hearItem_data h, hcollecting]
    exact hearData_incomplete hdecode
  · rw [hearItem_data h, hcollecting]
    exact hearData_completes hdecode
  · simp [hearItem, gapCommand_eq, Nat.not_lt.mpr hn]
  · simp [hearItem, gapCommand_eq, hn]
  · simp [hearItem, breakCommand_eq, hn]
  · simp [hearItem, breakCommand_eq, Nat.not_lt.mpr hlow, hhigh]
  · simp [hearItem, breakCommand_eq, show ¬n < 11 by omega, Nat.not_lt.mpr hn]

/-! ### The line of a whole frame (R151, R152) -/

theorem frameCharacters_cons (a : Byte) (rest : List Byte) :
    frameCharacters (a :: rest) = writeCharacter true a :: rest.map (writeCharacter false) := rfl

/-- The data characters still to come of a request's frame complete it with its last one. -/
theorem commandsOf_dataCharacters {p : PortId} {a code : Byte} {payload : List Byte} (h : payload.length ≤ 48)
    (rest done : List Byte) (hsplit : done ++ rest = requestCharacters a code payload) (hrest : rest ≠ []) :
    commandsOf p (some (a, done)) (rest.map (LineItem.character ∘ writeCharacter false)) =
      [requestOf p code payload] := by
  induction rest generalizing done with
  | nil => exact absurd rfl hrest
  | cons b later ih =>
    have hread : readCharacter (writeCharacter false b) = some (.data b) := readCharacter_writeCharacter false b
    have hnext : (done ++ [b]) ++ later = requestCharacters a code payload := by rw [← hsplit, List.append_assoc]; rfl
    rw [List.map_cons, Function.comp_apply, commandsOf, hearItem_data hread]
    by_cases hlast : later = []
    · have hwhole : decodeFrame p a (done ++ [b]) = some (requestOf p code payload) := by
        rw [hlast, List.append_nil] at hnext
        rw [hnext, decodeFrame_requestCharacters h]
      simp only [hearData_completes hwhole, hlast]
      rfl
    · simp only [hearData_incomplete (decodeFrame_incomplete h hnext hlast)]
      exact ih (done ++ [b]) hnext hlast

theorem commandsOf_requestLine {p : PortId} {a code : Byte} {payload : List Byte} {c : Instr} {line : List LineItem}
    (frame : Option Collected) (hwf : WellFormed c = true) (hframe : frameOf c = some (p, code, payload))
    (hline : requestLine a c = some line) : commandsOf p frame line = [.markerCharacter p a, c] := by
  obtain ⟨hspells, hlength⟩ := request_spelled hwf hframe
  simp only [requestLine, encodeFrame, hframe, Option.map_some, Option.some.injEq] at hline
  subst hline
  have hread : readCharacter (writeCharacter true a) = some (.marker a) := readCharacter_writeCharacter true a
  rw [frameCharacters_cons, List.map_cons, commandsOf, hearItem_marker hread, List.map_map]
  have hcharacters : requestCharacters a code payload ≠ [] := by
    rw [requestCharacters_eq]
    exact List.cons_ne_nil _ _
  have hdata := commandsOf_dataCharacters (p := p) hlength _ [] (List.nil_append _) hcharacters
  simp only [hdata, hspells, Option.toList_some, List.singleton_append]

theorem replyLine_reads (r : Reply) : ∃ rest, replyFrame r = r.address :: rest ∧
    (replyLine r).map readCharacter = some (.marker r.address) :: rest.map fun b => some (.data b) := by
  obtain ⟨rest, hrest⟩ : ∃ rest, replyFrame r = r.address :: rest := ⟨_, rfl⟩
  refine ⟨rest, hrest, ?_⟩
  have hdata : readCharacter ∘ writeCharacter false = fun b => some (.data b) :=
    funext fun b => readCharacter_writeCharacter false b
  have hmarker : readCharacter (writeCharacter true r.address) = some (.marker r.address) :=
    readCharacter_writeCharacter true r.address
  rw [replyLine, hrest, frameCharacters_cons, List.map_cons, hmarker, List.map_map, hdata]

/-- Settles O58, clause by clause. -/
theorem framesReadBack : Obligations.FramesReadBack :=
  ⟨fun _ _ _ _ _ _ hwf hframe hencode => decodeFrame_encodeFrame hwf hframe hencode, writeCharacter_hasItsBits,
    readCharacter_isTakenFor, items_spell, fun _ _ _ _ => rfl,
    fun _ _ _ _ _ _ frame hwf hframe hline => commandsOf_requestLine frame hwf hframe hline, replyLine_reads⟩

end Sys2Proof.Proofs
end

section
/-! SUPPORT. ACCESS (O27), ROW_STAGE (O28) and ROW_COMMIT (O29): each check in its order, and what an accepted request
stores. -/

namespace Sys2Proof.Proofs

open Sys2Proof.Machine Sys2Proof.Safety Sys2Proof.Claims

/-! ### Requests that change the store (R156, R157) -/

/-- A request that L3 takes, and that its owner answers with the store `t`, changes store and port alone. -/
theorem request_stored {s : State} {a code : Byte} {payload : List Byte} {handle : State → State × Option ReplyBody}
    {r : Result} {bytes : List Byte} {t : Store} (h : listens s .l3 a) (hlength : payload.length ≤ 48)
    (hhandle : handle (heard .l3 s) = ((heard .l3 s).withStore t, some ⟨r, bytes⟩)) :
    (.next (whileReleased (serveRequest .l3 code payload handle) s) : Host.Outcome State Fault Refusal) =
      .next { replied s .l3 a code r bytes with store := t } := by
  obtain ⟨hlow, haddressed⟩ := h
  rw [serveRequest_addressed hlow haddressed hlength, takeSound_eq hhandle]
  rfl

/-- The write level of a row by the list of the rows of level 1 (Table 1-1). -/
theorem writeLevel_eq (r : Nat) : writeLevel r = if r ∈ [12, 15, 16] then 1 else 2 := by simp [writeLevel]

/-! ### ACCESS (R170, R171, R172) -/

/-- A byte that is no level, in figures. -/
theorem noLevel_iff (level : Byte) : (level.toNat ≠ 1 ∧ level.toNat ≠ 2) ↔ (level ≠ 1 ∧ level ≠ 2) := by
  simp only [ne_eq, ← BitVec.toNat_inj]
  rfl

/-- The checks of ACCESS in their order (R170). -/
theorem handleAccess_checks (level c0 c1 c2 c3 : Byte) (s : State) : handleAccess [level, c0, c1, c2, c3] s =
    if level ≠ 1 ∧ level ≠ 2 then (s, some (bare .range))
    else if s.store.lockout.isSome then (s, some (bare .lockedOut))
    else if rowIsLimp s.store.image 22 then testTruck s
    else testCode level.toNat ((c0 ++ c1) ++ (c2 ++ c3)) s := by
  simp only [← noLevel_iff]
  rfl

theorem handleAccess_range {level : Byte} (c0 c1 c2 c3 : Byte) (s : State) (h1 : level ≠ 1) (h2 : level ≠ 2) :
    handleAccess [level, c0, c1, c2, c3] s = (s, some (bare .range)) := by
  rw [handleAccess_checks, if_pos ⟨h1, h2⟩]

/-- An ACCESS for a level is LOCKED_OUT during a lockout, and is judged on the truck or on the code without one. -/
theorem handleAccess_level {level : Byte} (c0 c1 c2 c3 : Byte) (s : State) (h : level = 1 ∨ level = 2) :
    handleAccess [level, c0, c1, c2, c3] s =
      if s.store.lockout.isSome then (s, some (bare .lockedOut))
      else if rowIsLimp s.store.image 22 then testTruck s
      else testCode level.toNat ((c0 ++ c1) ++ (c2 ++ c3)) s := by
  rw [handleAccess_checks, if_neg fun hno => h.elim hno.1 hno.2]

theorem handleAccess_truck {level : Byte} (c0 c1 c2 c3 : Byte) {s : State} (h : level = 1 ∨ level = 2)
    (hopen : s.store.lockout = none) (hlimp : rowIsLimp s.store.image 22 = true) :
    handleAccess [level, c0, c1, c2, c3] s = testTruck s := by
  simp [handleAccess_level _ _ _ _ _ h, hopen, hlimp]

theorem handleAccess_code {level : Byte} (c0 c1 c2 c3 : Byte) {s : State} (h : level = 1 ∨ level = 2)
    (hopen : s.store.lockout = none) (hnv : rowIsLimp s.store.image 22 = false) :
    handleAccess [level, c0, c1, c2, c3] s = testCode level.toNat ((c0 ++ c1) ++ (c2 ++ c3)) s := by
  simp [handleAccess_level _ _ _ _ _ h, hopen, hnv]

theorem testTruck_granted {s : State} (h : s.mode = .parked ∧ 10 ≤ s.intake.standstill) :
    testTruck s = (s.withStore (grantAccess 2 s.store), some ⟨.ok, [2]⟩) := by
  rw [testTruck, if_pos (by simpa [standstillConfirmed] using h)]
  rfl

theorem testTruck_refused {s : State} (h : ¬(s.mode = .parked ∧ 10 ≤ s.intake.standstill)) :
    testTruck s = (s, some (bare .refusedAccess)) := by
  rw [testTruck, if_neg (by simpa [standstillConfirmed] using h)]

theorem testCode_granted {level : Byte} {code : BitVec 32} {s : State} (h : code = accessCode s.store.image level.toNat) :
    testCode level.toNat code s = (s.withStore (grantAccess level.toNat s.store), some ⟨.ok, [level]⟩) := by
  have hreply : accessReply (s.withStore (grantAccess level.toNat s.store)) = some ⟨.ok, [level]⟩ := by
    simp [accessReply, oneByte, grantAccess]
  rw [testCode, if_pos h]
  exact congrArg (Prod.mk _) hreply

theorem testCode_refused {level : Nat} {code : BitVec 32} {s : State} (h : code ≠ accessCode s.store.image level) :
    testCode level code s = (s.withStore (failAccess s.store), some (bare .refusedAccess)) := by
  rw [testCode, if_neg h]

/-- Two values put one after the other agree where both do. -/
theorem bitVec_append_eq_iff {v w : Nat} (x x' : BitVec v) (y y' : BitVec w) : x ++ y = x' ++ y' ↔ (x, y) = (x', y') := by
  refine ⟨fun h => ?_, fun h => ?_⟩
  · have hhigh := congrArg (BitVec.extractLsb' w v) h
    have hlow := congrArg (BitVec.extractLsb' 0 w) h
    rw [BitVec.extractLsb'_append_eq_left, BitVec.extractLsb'_append_eq_left] at hhigh
    rw [BitVec.extractLsb'_append_eq_right, BitVec.extractLsb'_append_eq_right] at hlow
    rw [hhigh, hlow]
  · obtain ⟨rfl, rfl⟩ := Prod.mk.inj h
    rfl

/-- The code of a level, high entry first (R15). -/
theorem code_agrees_iff (im : Image) {level : Byte} (h : level = 1 ∨ level = 2) (x y : Word) :
    x ++ y = accessCode im level.toNat ↔
      (x, y) = if level = 1 then (rowEntry (imageRow im 22) 0, rowEntry (imageRow im 22) 1)
        else (rowEntry (imageRow im 22) 2, rowEntry (imageRow im 22) 3) := by
  rcases h with rfl | rfl
  · exact bitVec_append_eq_iff ..
  · exact bitVec_append_eq_iff ..

theorem failAccess_third {t : Store} (h : 2 ≤ t.failures) :
    failAccess t = { t with accessLevel := 0, failures := 0, lockout := some (lockoutLength t.image) } :=
  if_pos (Nat.succ_le_succ h)

theorem failAccess_counted {t : Store} (h : ¬2 ≤ t.failures) :
    failAccess t = { t with accessLevel := 0, failures := t.failures + 1 } :=
  if_neg fun hthird => h (Nat.le_of_succ_le_succ hthird)

/-- Settles O27: the checks in their order, then the truck or the code. -/
theorem accessJudgesTheCode : Obligations.AccessJudgesTheCode := by
  intro s a level c0 c1 c2 c3 h
  have hfits : [level, c0, c1, c2, c3].length ≤ 48 := Nat.le_add_left 5 43
  refine ⟨fun h1 h2 => read_replied h hfits (handleAccess_range c0 c1 c2 c3 _ h1 h2), fun hlevel => ?_⟩
  refine ⟨fun hlocked => ?_, fun hopen hlimp => ?_, fun hopen hnv => ?_⟩
  · exact read_replied h hfits ((handleAccess_level c0 c1 c2 c3 (heard .l3 s) hlevel).trans (if_pos hlocked))
  · have hjudged := handleAccess_truck c0 c1 c2 c3 (s := heard .l3 s) hlevel hopen hlimp
    split_ifs with htruck
    · exact request_stored h hfits (hjudged.trans (testTruck_granted htruck))
    · exact read_replied h hfits (hjudged.trans (testTruck_refused htruck))
  · intro row code
    have hjudged := handleAccess_code c0 c1 c2 c3 (s := heard .l3 s) hlevel hopen hnv
    have hagrees : _ ↔ (c0 ++ c1, c2 ++ c3) = code := code_agrees_iff s.store.image hlevel (c0 ++ c1) (c2 ++ c3)
    split_ifs with hcode hthird
    · exact request_stored h hfits (hjudged.trans (testCode_granted (hagrees.mpr hcode)))
    all_goals have hrefused := hjudged.trans (testCode_refused (s := heard .l3 s) (mt hagrees.mp hcode))
    · rw [failAccess_third (t := (heard .l3 s).store) hthird] at hrefused
      exact request_stored h hfits hrefused
    · rw [failAccess_counted (t := (heard .l3 s).store) hthird] at hrefused
      exact request_stored h hfits hrefused

/-! ### ROW_STAGE (R176, R177) -/

/-- The payload of a ROW_STAGE: row, start entry, values (Table 8-7). -/
def stagePayload (row e : Byte) (values : List Word) : List Byte := row :: e :: values.flatMap wordBytes

theorem stagePayload_length (row e : Byte) (values : List Word) :
    (stagePayload row e values).length = 2 * values.length + 2 := by
  simp only [stagePayload, List.length_cons, flatMap_wordBytes_length]

/-- The checks of ROW_STAGE in their order, for one to eight values (R176). -/
theorem stageResult_checks (row e : Byte) {values : List Word} (h1 : 1 ≤ values.length) (h8 : values.length ≤ 8)
    (s : State) : stageResult (stagePayload row e values) s =
      if s.mode = .startup ∨ s.store.programmer ≠ .idle then .busy
      else if 22 < row.toNat ∨ 7 < e.toNat then .range
      else if s.store.accessLevel < writeLevel row.toNat then .refusedAccess
      else .ok := by
  have hfits : stageLengthFits (stagePayload row e values).length = true := by
    simp only [stageLengthFits, stagePayload_length, Bool.and_eq_true, decide_eq_true_eq]
    omega
  rw [stageResult, if_neg (not_not.mpr hfits)]
  rfl

theorem handleStage_refused {payload : List Byte} {s : State} {r : Result} (h : stageResult payload s = r) (hr : r ≠ .ok) :
    handleStage payload s = (s, some (bare r)) := by
  unfold handleStage
  split
  next hok => exact absurd (h.symm.trans hok) hr
  next => rw [h]

theorem handleStage_accepted {row e : Byte} {values : List Word} {s : State}
    (h : stageResult (stagePayload row e values) s = .ok) : handleStage (stagePayload row e values) s =
      (s.withStore (stageValues row.toNat e.toNat values s.store), some (bare .ok)) := by
  have hread : readValues (((stagePayload row e values).length - 2) / 2) ((stagePayload row e values).drop 2) = values := by
    rw [stagePayload_length, Nat.add_sub_cancel, Nat.mul_div_cancel_left _ Nat.two_pos]
    exact readValues_flatMap values
  rw [handleStage, h]
  simp only [hread]
  rfl

/-- What a place of a vector reads, with `d` outside it, after one place has been written. -/
theorem getD_setIfInBounds {α : Type} {n : Nat} (xs : Vector α n) {r : Nat} (hr : r < n) (x d : α) (q : Nat) :
    (xs.setIfInBounds r x)[q]?.getD d = if q = r then x else xs[q]?.getD d := by
  by_cases hq : q = r
  · subst hq
    simp [hr]
  · simp [hq, Ne.symm hq]

theorem rowEntry_set (row : Row) {i : Nat} (hi : i < 8) (v : Word) (e : Nat) :
    rowEntry (row.setIfInBounds i v) e = if e = i then v else rowEntry row e := getD_setIfInBounds row hi v 0 e

/-- An entry that no value goes to is kept (R177). -/
theorem writeWrapped_kept (values : List Word) (e : Nat) (row : Row) {i : Nat}
    (h : ∀ j, j < values.length → (e + j) % 8 ≠ i) : rowEntry (writeWrapped values e row) i = rowEntry row i := by
  induction values generalizing e row with
  | nil => rfl
  | cons v rest ih =>
    have hfirst : i ≠ e % 8 := (h 0 (Nat.zero_lt_succ _)).symm
    have hrest : ∀ j, j < rest.length → (e + 1 + j) % 8 ≠ i := fun j hj => by
      simpa [Nat.add_assoc, Nat.add_comm 1 j] using h (j + 1) (Nat.succ_lt_succ hj)
    rw [writeWrapped, ih _ _ hrest, rowEntry_set _ (Nat.mod_lt _ (by decide)), if_neg hfirst]

/-- Of eight values at most, none overwrites another: value j stands at entry (e + j) mod 8 (R177). -/
theorem writeWrapped_written {values : List Word} (h8 : values.length ≤ 8) (e : Nat) (row : Row) {j : Nat}
    (hj : j < values.length) : rowEntry (writeWrapped values e row) ((e + j) % 8) = values.getD j 0 := by
  induction values generalizing e row j with
  | nil => exact absurd hj (Nat.not_lt_zero j)
  | cons v rest ih =>
    rw [List.length_cons] at h8 hj
    cases j with
    | zero =>
      have hlater : ∀ k, k < rest.length → (e + 1 + k) % 8 ≠ (e + 0) % 8 := by omega
      rw [writeWrapped, writeWrapped_kept _ _ _ hlater, rowEntry_set _ (Nat.mod_lt _ (by decide))]
      exact if_pos rfl
    | succ j =>
      have hnext := ih (by omega) (e + 1) (row.setIfInBounds (e % 8) v) (j := j) (by omega)
      rwa [Nat.add_assoc, Nat.add_comm 1 j] at hnext

theorem stageBase_own {r : Nat} {t : Store} {st : StagedRow} (hst : t.stage = some st) (hrow : st.row = r) :
    stageBase r t = st.entries := by simp [stageBase, hst, hrow]

theorem stageBase_image {r : Nat} {t : Store} (h : ∀ st, t.stage = some st → st.row ≠ r) :
    stageBase r t = imageRow t.image r := by
  unfold stageBase
  split
  next st hst => exact if_neg (h st hst)
  next => rfl

theorem exec_rowStage_refused {s : State} {a row e : Byte} {values : List Word} {r : Result} (h : listens s .l3 a)
    (h8 : values.length ≤ 8) (hresult : stageResult (stagePayload row e values) s = r) (hr : r ≠ .ok) :
    exec (.rowStage (stagePayload row e values)) s = .next (replied s .l3 a 0x33 r []) :=
  read_replied h (by rw [stagePayload_length]; omega) (handleStage_refused (s := heard .l3 s) hresult hr)

/-- Settles O28: the checks in their order, then the values entry by entry. -/
theorem rowStageFillsTheBuffer : Obligations.RowStageFillsTheBuffer := by
  intro s a row e values h h1 h8
  have hchecks := stageResult_checks row e h1 h8 s
  refine ⟨fun hbusy => ?_, fun hmode hidle => ?_⟩
  · exact exec_rowStage_refused h h8 (hchecks.trans (if_pos hbusy)) (by decide)
  have hfree : ¬(s.mode = .startup ∨ s.store.programmer ≠ .idle) := fun hbusy => hbusy.elim hmode fun hb => hb hidle
  rw [if_neg hfree] at hchecks
  refine ⟨fun hrange => ?_, fun hrow he haccess => ?_, fun hrow he haccess => ?_⟩
  · exact exec_rowStage_refused h h8 (hchecks.trans (if_pos hrange)) (by decide)
  all_goals
    rw [if_neg (by omega : ¬(22 < row.toNat ∨ 7 < e.toNat)), writeLevel_eq] at hchecks
  · exact exec_rowStage_refused h h8 (hchecks.trans (if_pos haccess)) (by decide)
  · have haccepted : stageResult (stagePayload row e values) (heard .l3 s) = .ok :=
      hchecks.trans (if_neg (Nat.not_lt.mpr haccess))
    have hfits : (stagePayload row e values).length ≤ 48 := by
      rw [stagePayload_length]
      omega
    refine ⟨writeWrapped values e.toNat (stageBase row.toNat s.store),
      request_stored h hfits (handleStage_accepted haccepted), fun j hj => writeWrapped_written h8 _ _ hj,
      fun i _ hi => ⟨fun st hst hown => ?_, fun hother => ?_⟩⟩
    · rw [writeWrapped_kept _ _ _ hi, stageBase_own hst hown]
    · rw [writeWrapped_kept _ _ _ hi, stageBase_image hother]

/-! ### ROW_COMMIT (R178, R179, R180) -/

/-- The pair rule at commit, entry by entry (R179). -/
theorem commitPairAgrees_iff (im : Image) (r : Nat) (row : Row) : commitPairAgrees im r row = true ↔ pairHolds im r row := by
  unfold commitPairAgrees pairHolds
  split_ifs with hcont hpeak
  · simp [pairAgrees_iff, param, hcont, Nat.not_le.mpr hcont]
  · simp [pairAgrees_iff, param, hcont, hpeak, Nat.not_lt.mp hcont]
  · simp [hcont, hpeak]

theorem commitRangePasses_iff (im : Image) (r : Nat) (row : Row) :
    commitRangePasses im r row = true ↔ rangePasses r row = true ∧ pairHolds im r row := by
  rw [commitRangePasses, Bool.and_eq_true, commitPairAgrees_iff]

theorem commitResult_notStaged {r : Nat} {s : State} (h : ∀ st, s.store.stage = some st → st.row ≠ r) :
    commitResult r s = .notStaged := by
  unfold commitResult
  split
  next => rfl
  next st hst => exact if_pos (h st hst)

/-- The checks of ROW_COMMIT from the fourth on, in their order (R178). -/
theorem commitResult_checks {s : State} {st : StagedRow} (hst : s.store.stage = some st) : commitResult st.row s =
    if s.store.accessLevel < (if st.row ∈ [12, 15, 16] then 1 else 2) then .refusedAccess
    else if ¬(s.mode = .parked ∧ 10 ≤ s.intake.standstill) then .refusedMode
    else if ¬commitRangePasses s.store.image st.row st.entries = true then .range
    else if s.store.programmer ≠ .idle then .busy
    else .ok := by
  simp [commitResult, hst, writeLevel_eq, standstillConfirmed]

theorem exec_rowCommit_startup {s : State} {a row : Byte} (h : listens s .l3 a) (hmode : s.mode = .startup) :
    exec (.rowCommit [row]) s = .next (replied s .l3 a 0x34 .busy []) :=
  read_replied h (Nat.le_add_left 1 47) (if_pos hmode)

theorem exec_rowCommit_refused {s : State} {a row : Byte} {r : Result} (h : listens s .l3 a) (hmode : s.mode ≠ .startup)
    (hresult : commitResult row.toNat s = r) (hr : r ≠ .ok) :
    exec (.rowCommit [row]) s = .next (replied s .l3 a 0x34 r []) := by
  have hheard : commitResult row.toNat (heard .l3 s) = r := hresult
  have hhandle : handleCommit [row] (heard .l3 s) = (heard .l3 s, some (bare r)) := by
    rw [← hheard] at hr ⊢
    refine (if_neg hmode).trans ?_
    split
    next hok => exact absurd hok hr
    next => rfl
  exact read_replied h (Nat.le_add_left 1 47) hhandle

theorem exec_rowCommit_accepted {s : State} {a row : Byte} (h : listens s .l3 a) (hmode : s.mode ≠ .startup)
    (hresult : commitResult row.toNat s = .ok) : exec (.rowCommit [row]) s = .next
      { replied s .l3 a 0x34 .ok [] with store := { s.store with idleCount := 0, programmer := .programming } } := by
  have hheard : commitResult row.toNat (heard .l3 s) = .ok := hresult
  have hhandle : handleCommit [row] (heard .l3 s) =
      ((heard .l3 s).withStore { (heard .l3 s).store with programmer := .programming }, some (bare .ok)) := by
    refine (if_neg hmode).trans ?_
    split
    next => rfl
    next hno => exact absurd hheard hno
  exact request_stored h (Nat.le_add_left 1 47) hhandle

/-- Settles O29, check by check. -/
theorem rowCommitIsJudgedInOrder : Obligations.RowCommitIsJudgedInOrder := by
  intro s a row h
  refine ⟨exec_rowCommit_startup h, fun hmode hnone => ?_, fun st hmode hst hrow => ?_⟩
  · exact exec_rowCommit_refused h hmode (commitResult_notStaged hnone) (by decide)
  have hchecks := commitResult_checks hst
  rw [hrow] at hchecks ⊢
  refine ⟨fun haccess => ?_, fun haccess => ?_⟩
  · exact exec_rowCommit_refused h hmode (hchecks.trans (if_pos haccess)) (by decide)
  rw [if_neg (Nat.not_lt.mpr haccess)] at hchecks
  refine ⟨fun htruck => ?_, fun hparked hstill => ?_⟩
  · exact exec_rowCommit_refused h hmode (hchecks.trans (if_pos htruck)) (by decide)
  rw [if_neg (not_not.mpr ⟨hparked, hstill⟩)] at hchecks
  have hpasses := commitRangePasses_iff s.store.image row.toNat st.entries
  refine ⟨fun hrange => ?_, fun hrange hpair => ?_⟩
  · exact exec_rowCommit_refused h hmode (hchecks.trans (if_pos (mt hpasses.mp hrange))) (by decide)
  rw [if_neg (not_not.mpr (hpasses.mpr ⟨hrange, hpair⟩))] at hchecks
  refine ⟨fun hbusy => ?_, fun hidle => ?_⟩
  · exact exec_rowCommit_refused h hmode (hchecks.trans (if_pos hbusy)) (by decide)
  · exact exec_rowCommit_accepted h hmode (hchecks.trans (if_neg (not_not.mpr hidle)))

end Sys2Proof.Proofs
end

section
/-! SUPPORT. PROGRAM_VERIFY (O30): what the read back leaves in the store, and the swap that follows it. WARM_RESTART
(O6). -/

namespace Sys2Proof.Proofs

open Sys2Proof.Machine Sys2Proof.Safety Sys2Proof.Claims

/-! ### The store after the read back (R181) -/

theorem verifyStore_equal {st : StagedRow} {cells : NvRow} (t : Store) (h : cells.entries = st.entries) :
    verifyStore st cells t = { t with
      nv := t.nv.setIfInBounds st.row cells
      programmer := .swapPending, suspect := t.suspect.setIfInBounds st.row false } := if_pos h

theorem verifyStore_different {st : StagedRow} {cells : NvRow} (t : Store) (h : cells.entries ≠ st.entries) :
    verifyStore st cells t = { t with
      nv := t.nv.setIfInBounds st.row cells
      programmer := .idle, suspect := t.suspect.setIfInBounds st.row true, writeFail := stepped t.writeFail } := if_neg h

theorem verifyStore_nv (st : StagedRow) (cells : NvRow) (t : Store) :
    (verifyStore st cells t).nv = t.nv.setIfInBounds st.row cells := by
  unfold verifyStore
  dsimp only
  split <;> rfl

theorem verifyStore_suspect (st : StagedRow) (cells : NvRow) (t : Store) :
    (verifyStore st cells t).suspect = t.suspect.setIfInBounds st.row (decide (cells.entries ≠ st.entries)) := by
  by_cases h : cells.entries = st.entries
  · simp [verifyStore_equal t h, h]
  · simp [verifyStore_different t h, h]

/-- Rows of the NONVOLATILE ARRAY where one has been written. -/
theorem nvRow_of_set {t u : Store} {r : Nat} {cells : NvRow} (hr : r < 23) (h : u.nv = t.nv.setIfInBounds r cells)
    (q : Nat) : nvRow u q = if q = r then cells else nvRow t q := by
  rw [nvRow, h]
  exact getD_setIfInBounds _ hr _ _ q

/-- SUSPECT marks where one has been set. -/
theorem isSuspect_of_set {t u : Store} {r : Nat} {b : Bool} (hr : r < 23) (h : u.suspect = t.suspect.setIfInBounds r b)
    (q : Nat) : isSuspect u q = if q = r then b else isSuspect t q := by
  rw [isSuspect, h]
  exact getD_setIfInBounds _ hr _ _ q

/-! ### The end of a program (R181, R182, R183) -/

/-- The state after the read back, before the swap. -/
def readBack (st : StagedRow) (cells : NvRow) (s : State) : State := s.withStore (verifyStore st cells s.store)

theorem exec_programVerify {s : State} {st : StagedRow} (found : Option NvRow) (hlow : s.resetLow = false)
    (hprog : s.store.programmer = .programming) (hst : s.store.stage = some st) : exec (.programVerify found) s =
      .next (trySwap (readBack st (found.getD ⟨st.entries, checkWord st.row st.entries⟩) s)) :=
  next_released hlow (by rw [hprog, hst]; rfl)

/-- A row that reads back different is not swapped. -/
theorem trySwap_readBack_different {st : StagedRow} {cells : NvRow} (s : State) (h : cells.entries ≠ st.entries) :
    trySwap (readBack st cells s) = readBack st cells s :=
  trySwap_none (by simp [readBack, verifyStore_different _ h])

/-- A row that reads back equal is swapped in PARKED with no pass in flight. -/
theorem trySwap_readBack_equal {st : StagedRow} {cells : NvRow} {s : State} (h : cells.entries = st.entries)
    (hst : s.store.stage = some st) (hparked : s.mode = .parked) (hpass : s.engine.pass = none) :
    trySwap (readBack st cells s) = swapRow st (readBack st cells s) :=
  trySwap_made (by simp [readBack, verifyStore_equal _ h]) hparked hpass (by simp [readBack, verifyStore_equal _ h, hst])

/-- The TRACTION AND STEERING UNIT at a swap: the reserve is formed afresh with row 18 (R183). -/
theorem swapRow_traction (st : StagedRow) (s : State) : (swapRow st s).traction = { s.traction with
    reserve :=
      if st.row = 18 then reserveOf (swapRow st s).store.image s.intake.l2 (demandInForce s.intake).pressure
      else s.traction.reserve } := by
  rw [← swapRow_reserve]
  unfold swapRow
  dsimp only
  split <;> rfl

/-- The end of a program changes the row, its mark and the programmer's work in the store, and the steering reserve. -/
theorem trySwap_readBack_eq (st : StagedRow) (cells : NvRow) (s : State) :
    ∃ nv suspect writeFail programmer stage image reserve, trySwap (readBack st cells s) = { s with
      traction := { s.traction with reserve := reserve }
      store := { s.store with
        nv := nv, suspect := suspect, writeFail := writeFail, programmer := programmer, stage := stage
        image := image } } := by
  obtain ⟨programmer, stage, image, reserve, hswap⟩ := trySwap_eq (readBack st cells s)
  rw [hswap, readBack]
  by_cases h : cells.entries = st.entries
  · rw [verifyStore_equal _ h]
    exact ⟨_, _, _, _, _, _, _, rfl⟩
  · rw [verifyStore_different _ h]
    exact ⟨_, _, _, _, _, _, _, rfl⟩

/-- Settles O30: the row and the marks by what the read back writes, the rest by the swap that follows it. -/
theorem programVerifyDecides : Obligations.ProgramVerifyDecides := by
  intro s found st hlow hprog hst hrow cells
  refine ⟨trySwap (readBack st cells s), exec_programVerify found hlow hprog hst, ?_⟩
  clear_value cells
  have hnv : (trySwap (readBack st cells s)).store.nv = s.store.nv.setIfInBounds st.row cells := by
    simp [readBack, verifyStore_nv]
  have hsuspect : (trySwap (readBack st cells s)).store.suspect =
      s.store.suspect.setIfInBounds st.row (decide (cells.entries ≠ st.entries)) := by
    simp [readBack, verifyStore_suspect]
  have hmark : isSuspect (trySwap (readBack st cells s)).store st.row = decide (cells.entries ≠ st.entries) :=
    (isSuspect_of_set hrow hsuspect _).trans (if_pos rfl)
  refine ⟨(nvRow_of_set hrow hnv _).trans (if_pos rfl),
    fun r hr => (nvRow_of_set hrow hnv r).trans (if_neg hr),
    fun r hr => (isSuspect_of_set hrow hsuspect r).trans (if_neg hr), fun hdifferent => ?_, fun hequal => ?_, ?_⟩
  · refine ⟨hmark.trans (decide_eq_true hdifferent), ?_⟩
    rw [trySwap_readBack_different s hdifferent, readBack, verifyStore_different _ hdifferent]
    exact ⟨rfl, rfl, hst, rfl, rfl⟩
  · refine ⟨hmark.trans (decide_eq_false (not_not.mpr hequal)), ?_, fun hparked hpass => ?_, fun hwaits => ?_⟩
    · simp [readBack, verifyStore_equal _ hequal]
    · rw [trySwap_readBack_equal hequal hst hparked hpass, swapRow_traction]
      refine ⟨?_, fun hother => ?_, fun h18 => ?_⟩
      · have hswapped := swapRow_swapped hrow (swapRow_store st (readBack st cells s))
        rwa [readBack, verifyStore_equal _ hequal] at hswapped ⊢
      · rw [if_neg hother]
        rfl
      · rw [if_pos h18]
        rfl
    · rw [trySwap_waits (s := readBack st cells s) hwaits, readBack, verifyStore_equal _ hequal]
      exact ⟨rfl, hst, rfl, rfl⟩
  · obtain ⟨nv, suspect, writeFail, programmer, stage, image, reserve, hframe⟩ := trySwap_readBack_eq st cells s
    rw [hframe]

/-! ### WARM_RESTART (R43, R68, R86, R108, R128, R150, R168, R184, R188, R189) -/

/-- With no demand received, the reserve that the start of validation forms is STEER_RES_HI of the LIMP SET (R77, R86). -/
theorem reserveOf_limpImage_reset : reserveOf limpImage .never 0 = steerResHi limpImage := by decide

theorem afterWarmRestart_tripOut (s : State) : (afterWarmRestart s).tripOut = true :=
  (lineAsserted_iff .startup s.trips.level).mpr (.inr rfl)

theorem warmRestart_traction (s : State) : (startValidation (afterWarmRestart s)).traction =
    { tf := ⟨1000, 1000⟩, reserve := steerResHi limpImage, pressureCount := 0 } := by
  rw [← reserveOf_limpImage_reset]
  rfl

theorem warmRestart_shared (s : State) : resetShared (startValidation (afterWarmRestart s)) :=
  ⟨rfl, afterWarmRestart_tripOut s, rfl, rfl, rfl, rfl, rfl, rfl, rfl, warmRestart_traction s, rfl, rfl, rfl, rfl, rfl,
    rfl, rfl, rfl, isSuspect_afterReset s.store.nv, rfl⟩

/-- Settles O6, block by block. -/
theorem warmRestartKeepsTripsAndHeat : Obligations.WarmRestartKeepsTripsAndHeat := by
  refine fun s hlow => ⟨fun hdue hidle => ?_, fun hnone => ?_⟩
  · have hmade : warmRestartDue s = true := (warmRestartDue_iff s).mpr ⟨hdue, hidle⟩
    exact ⟨_, next_released hlow (if_pos hmade), warmRestart_shared s, hlow, rfl, allLimp_limpImage, rfl, rfl, rfl, rfl,
      rfl, rfl⟩
  · have hnot : ¬warmRestartDue s = true := fun hmade => by
      obtain ⟨hdue, hidle⟩ := (warmRestartDue_iff s).mp hmade
      exact hnone.elim (fun hno => Bool.noConfusion (hdue.symm.trans hno)) fun hbusy => hbusy hidle
    exact next_released hlow (if_neg hnot)

end Sys2Proof.Proofs
end

section
/-! SUPPORT. What one step is (O1), and the part that a cold reset leaves (O57). -/

namespace Sys2Proof.Proofs

open Sys2Proof.Machine Sys2Proof.Safety Sys2Proof.Claims

/-! ### The step: the command at the front, or the part's own work (logs 6, 7, 15) -/

theorem step_command {s : State} {c : Instr} {rest : List Instr} (h : s.pending = c :: rest) :
    step s = exec c (s.withPending rest) := by
  simp [step, h]

theorem step_noCommand {s : State} (h : s.pending = []) : step s = .next (idleWork s) := by
  simp [step, h]

/-- With no row to take and no stages to run the part's own work is none, with RESET_N low or high. -/
theorem idleWork_idle {s : State} (hvalidation : s.validation = none)
    (hpass : ∀ n, s.engine.pass ≠ some (.snapshotTaken n)) : idleWork s = s := by
  have hvalidated : validateNext s = s := by simp [validateNext, hvalidation]
  cases hlow : s.resetLow with
  | true => exact whileReleased_low hlow
  | false => rw [idleWork, whileReleased_high hlow, hvalidated, runStages_done hpass]

/-- Settles O1. -/
theorem stepRunsTheFrontCommand : Obligations.StepRunsTheFrontCommand :=
  ⟨fun _ _ _ hfront => step_command hfront, fun _ hempty hvalidation hpass =>
    (step_noCommand hempty).trans (congrArg _ (idleWork_idle hvalidation hpass))⟩

/-! ### The promises at a cold reset (R43, R68, R108, R128, R150, R168, R189) -/

/-- STARTUP with RESET_N low, the LIMP SET in the WORKING IMAGE, the Row Programmer IDLE, no RESTART accepted. -/
theorem coldReset_tables (nv : Vector NvRow 23) : tablesSound (State.coldReset nv) := by
  have hstartup : startupSound (State.coldReset nv) := ⟨⟨fun _ => .inl rfl, fun _ => rfl⟩, fun _ => ⟨rfl, rfl, rfl⟩⟩
  have himage : imageSound (State.coldReset nv) := (imageSound_ended rfl).mpr (imageFit_limpImage 23)
  have hprogrammer : programmerSound (State.coldReset nv).store := ⟨nofun, fun hbusy => absurd rfl hbusy⟩
  exact ⟨hstartup, himage, hprogrammer, fun _ => rfl, nofun⟩

/-- Both wheels stand in COAST with no torque granted (R68). -/
theorem engineAfterReset_grant : grantSound .afterReset :=
  ⟨by rintro ⟨⟩ <;> rfl, nofun⟩

/-- Limits of 0, the speed limits at 7000, no pass in flight (R68). -/
theorem engineAfterReset_ranges : grantRanges .afterReset :=
  ⟨by rintro ⟨⟩ <;> decide, by decide, by decide, by decide, by decide, by simp [Engine.afterReset],
    by simp [Engine.afterReset]⟩

theorem thermalAfterReset_derates : deratesSound .afterReset :=
  ⟨Nat.zero_le _, by rintro ⟨⟩ <;> exact Nat.zero_le _⟩

/-- An empty list, and no trip that asks for a record (R150). -/
theorem tripsAfterReset_faults : faultsSound .afterReset :=
  ⟨Nat.zero_le _, fun c => by cases c <;> rfl, nofun⟩

theorem coldReset_propel (nv : Vector NvRow 23) : propelSound (State.coldReset nv) :=
  propelSound_withheld (by rintro ⟨⟩ <;> exact Int.le_refl 0)

theorem plannerAfterReset_plan : planSound .afterReset :=
  planSound_cleared (p := .afterReset) (Nat.zero_le _) (Nat.zero_le _)

/-- Settles O57, promise by promise, each from the reset values of the blocks that it speaks of. -/
theorem coldResetKeepsEveryPromise : Obligations.ColdResetKeepsEveryPromise := by
  intro nv
  have hline : lineSound (State.coldReset nv) := lineSound_kept.cold nv 0 []
  obtain ⟨hpasses, hcounters⟩ : passesAndCounters (State.coldReset nv) :=
    passesAndCounters_afterReset rfl rfl rfl rfl rfl rfl rfl rfl rfl (Nat.zero_le _)
  obtain ⟨hintake, hmarks⟩ : intakePromise (State.coldReset nv) := intakePromise_afterReset rfl rfl
  exact ⟨⟨hline, coldReset_propel nv, tripsAfterReset_faults, plannerAfterReset_plan, coldReset_tables nv,
    engineAfterReset_grant, engineAfterReset_ranges, thermalAfterReset_derates, hpasses, hcounters, hintake, hmarks,
    thermalSound_afterReset⟩, .replicate 23 erasedRow, rfl⟩

end Sys2Proof.Proofs
end
